-- ==== Sys2Proof/Word.lean ====
section
/-! DEFINITION. Word types of the CN240: what the manual treats as bits. -/

namespace Sys2Proof

/-- One byte of a frame record (R24). -/
abbrev Byte := BitVec 8

/-- A node identity: a 32-bit value, factory-set and unique (00_scope.md). -/
abbrev Identity := BitVec 32

/-- One electrical level for each of the sixteen coach lines: bit n is 1 when CLn is HIGH (R103). -/
abbrev Levels := BitVec 16

/-- A value of the 1 ms timebase (R175). -/
abbrev Stamp := BitVec 32

end Sys2Proof
end

