-- ==== Sys2Proof/Config.lean ====
section
/-! DEFINITION. What one implementation fixes and the manual does not give. -/

namespace Sys2Proof

/-- The identity the factory set in this node (00_scope.md: factory-set, unique, read-only). It has no
body: nothing is known of it. Log entry 5. DESIGN CHOICE, safe. -/
opaque Config.factoryIdentity : Identity

end Sys2Proof
end

