-- ==== Sys2Proof/Syntax.lean ====
section
/-! DEFINITION. The commands of the CN240, one constructor for each row of spec/opcode_table.json, and the
frames, selectors and requests that are their operands (Train-Line Frames, R24 to R40). -/

namespace Sys2Proof

/-- A train port (00_scope.md). -/
inductive Port where
  | e1
  | e2
deriving DecidableEq, Repr

/-- A coach side, fixed on the vehicle (00_scope.md). -/
inductive Side where
  | a
  | b
deriving DecidableEq, Repr

/-- A train side as a door command names it (R38, R120). -/
inductive TrainSide where
  | left
  | right
  | both
deriving DecidableEq, Repr

/-- How a coach stands in the train (00_scope.md, Orientation). -/
inductive Orientation where
  | normal
  | reversed
deriving DecidableEq, Repr

/-- The selector types, in the order of their codes 0 to 3 (R25, R26). -/
inductive SelType where
  | position
  | group
  | all
  | self
deriving DecidableEq, Repr

/-- The selector of a header: type and value byte (R26). -/
structure Selector where
  type : SelType
  value : Nat
deriving DecidableEq, Repr

/-- A six-byte header, less the kind code and the payload length, which the body gives (R24, R25). `spare` is
bit 0 of byte 0 (ignored on receipt, kept on relaying); `phase` is bit 3 (ignored for kinds of one phase). -/
structure Header where
  phase : Bool
  sel : Selector
  spare : Bool
  epoch : Nat
  origin : Nat
  tag : Nat
deriving DecidableEq, Repr

/-- What a door command asks (R38). -/
inductive DoorCommand where
  | release
  | close
deriving DecidableEq, Repr

/-- The payload of a DOOR_ALERT (R38). -/
structure AlertBody where
  position : Nat
  side : Side
  trainSide : TrainSide
  identity : Identity
deriving DecidableEq, Repr

/-- The payload of a SUM, OUT or BACK (R37). `spare` is bits 4 to 0 of byte 1. -/
structure SumBody where
  contributions : Nat
  allClosed : Bool
  suspect : Bool
  stuck : Bool
  spare : BitVec 5
  released : Nat
  firstNotProved : Nat
  faultMask : BitVec 32
deriving DecidableEq, Repr

/-- What a TOPO reports (R38). -/
inductive TopoEvent where
  | portUp
  | portDown
  | portFaulted
  | restarted
deriving DecidableEq, Repr

/-- The payload of a TOPO (R38). -/
structure TopoBody where
  identity : Identity
  event : TopoEvent
  port : Port
deriving DecidableEq, Repr

/-- The far-port state of an entry (R36). -/
inductive FarPort where
  | down
  | up
  | faulted
deriving DecidableEq, Repr

/-- One entry of a ROLL, a CONFIRM OUT or the CONSIST object (R36). `spareLow` is bits 2 to 0 of byte 4,
`spareBit` bit 3 of byte 5. -/
structure Entry where
  identity : Identity
  orientation : Orientation
  cabActive : Bool
  cabMid : Bool
  farPort : FarPort
  spareLow : BitVec 3
  coachClass : Nat
  spareBit : Bool
  doors : Nat
deriving DecidableEq, Repr

/-- The payload of a ROLL, CALL or BACK (R36). Its count field is the number of entries; `spare` is bit 6 of
byte 4. -/
structure RollBody where
  master : Identity
  overflow : Bool
  spare : Bool
  entries : List Entry
deriving DecidableEq, Repr

/-- The result a CONFIRM OUT carries (R36, R54). -/
inductive ConfirmResult where
  | ok
  | overlong
  | conflict
  | duplicate
deriving DecidableEq, Repr

/-- The payload of a CONFIRM OUT (R36). -/
structure ConfirmBody where
  result : ConfirmResult
  master : Identity
  entries : List Entry
deriving DecidableEq, Repr

/-- The payload of a HEAT, OUT or BACK (R37). -/
structure HeatBody where
  budget : Nat
  remaining : Nat
  wanting : Nat
  requested : Nat
  locked : Nat
deriving DecidableEq, Repr

/-- The request codes 1 to 8 (R39). -/
inductive ReqCode where
  | read
  | write
  | commit
  | clearFaults
  | reinaugurate
  | restart
  | withdraw
  | clearLockout
deriving DecidableEq, Repr

/-- The status codes 0 to 5 (R39). -/
inductive Status where
  | ok
  | okClamped
  | denied
  | invalid
  | absent
  | busy
deriving DecidableEq, Repr

/-- The payload of a MGMT_REQ less its request code (R39). -/
structure Req where
  object : Byte
  index : Nat
  count : Nat
  data : List Byte
deriving DecidableEq, Repr

/-- The payload of a MGMT_RSP (R39). -/
structure RspBody where
  status : Status
  code : ReqCode
  object : Byte
  index : Nat
  data : List Byte
deriving DecidableEq, Repr

/-- The payload of a frame, by kind (R29, R36 to R39). -/
inductive Body where
  | doorCmd (command : DoorCommand) (side : TrainSide) (atRest : Bool)
  | doorAlert (x : AlertBody)
  | sum (x : SumBody)
  | topo (x : TopoBody)
  | roll (x : RollBody)
  | confirmOut (x : ConfirmBody)
  | confirmDone (master : Identity)
  | heat (x : HeatBody)
  | mgmtReq (code : ReqCode) (q : Req)
  | mgmtRsp (x : RspBody)
  | data (payload : List Byte)
deriving DecidableEq, Repr

/-- A frame record (R24). Its payload length byte and its CRC follow from its bytes (R31), so a frame held by
the node always carries a CRC that agrees with them. -/
structure Frame where
  header : Header
  body : Body
deriving DecidableEq, Repr

/-- The checks of R5 and R32 that a received frame can fail. -/
inductive FrameFailure where
  | partialByte
  | tooShort
  | crc
  | length
  | kind
  | form
deriving DecidableEq, Repr

/-- What makes an item invalid (R4, R5, R11). -/
inductive InvalidCause where
  | loneBit
  | invalidWidth
  | abortedFrame
  | overlongFrame
  | badFrame (why : FrameFailure)
deriving DecidableEq, Repr

/-- Why a record from the tap is refused before its kind's own intake rule sees it (R94, R35, R96). -/
inductive RecordFailure where
  | cutShort
  | length
  | crc
  | kind
  | form
  | notOriginable
deriving DecidableEq, Repr

/-- What no other row takes of an exchange (R94 to R96): its beginning, at the assertion of the select, where no part has
ended yet (log 9), or its release with no frame from the controller or with a record that is refused. -/
inductive TapPart where
  | begins
  | nothing
  | refusedRecord (why : RecordFailure)
deriving DecidableEq, Repr

/-- The header fields of a tap record, beside its selector, that intake reads. The node keeps the tag, but for a
DOOR_CMD, and sends phase and spare bits as 0 (R25, R27, R28; log 24); it replaces the epoch and origin position (R35). -/
structure TapMark where
  phase : Bool
  spare : Bool
  tag : Nat
deriving DecidableEq, Repr

/-- Where a MGMT_REQ from the tap goes when it goes to the train (R99): any selector but SELF. -/
inductive Dest where
  | position (k : Nat)
  | group (g : Nat)
  | all
deriving DecidableEq, Repr

/-- How a management request reaches the node (R183, R184): in an exchange of the own tap with selector SELF
(`done`: the node's part of that exchange completed; `tag`: the request number), or as a MGMT_REQ frame on a
train port. -/
inductive Via where
  | tap (done : Bool) (tag : Nat)
  | train (p : Port) (h : Header)
deriving DecidableEq, Repr

/-- A driven interval as a controller classifies it (R3): its port, and whether the controller itself began a symbol of
that class, a PROBE or a BREAK, in the interval. -/
structure Interval where
  port : Port
  own : Bool
deriving DecidableEq, Repr

/-- What a port has taken of frames since the last step of the timebase (R4, R15): no START and no bit of a frame; some,
of a frame that has ended meanwhile, at its frame end or before it; or some of a frame that has not ended. Of that frame
the port takes more bits after the step (`underWay`), or it takes none, so that its frame end or what cuts it off is all
that is still to come (`bitsOver`). -/
inductive Reception where
  | none
  | ended
  | underWay
  | bitsOver
deriving DecidableEq, Repr

/-- What the node finds at a step of the timebase: the raw level of each line (R103), and what each port has taken of
frames since the last step (R4, R15; log 4). -/
structure Instant where
  levels : Levels
  onE1 : Reception
  onE2 : Reception
deriving DecidableEq, Repr

/-- The commands: the steps of spec/opcode_table.json, in the table's order. A frame row carries the port, the
header and the payload; the row itself fixes the kind, the phase and, for a request, the request code and the
object. A tap row stands for the release of an exchange and carries whether the node's part of it completed (R94). -/
inductive Instr where
  /-- POWER_ON (R20). -/
  | powerOn
  /-- START_CHECK_COMPLETE (R20): whether the check passed. -/
  | startCheckComplete (pass : Bool)
  /-- PORT_START (R20). -/
  | portStart
  /-- PROBE_INTERVAL_EXPIRY (R10). -/
  | probeIntervalExpiry (p : Port)
  /-- PROBE_SEND (R10). -/
  | probeSend (p : Port)
  /-- FRAME_BEGIN (R6). -/
  | frameBegin (p : Port)
  /-- ARBITRATION_LOST (R8): the index of the lost bit among the frame's bits, the first bit being 0. -/
  | arbitrationLost (p : Port) (place : Nat)
  /-- FRAME_SENT (R9). -/
  | frameSent (p : Port)
  /-- PROBE_RECEIVED (R4, R10): an interval of the PROBE class. -/
  | probeReceived (x : Interval)
  /-- INVALID_ITEM (R4). -/
  | invalidItem (p : Port) (cause : InvalidCause)
  /-- BREAK_RECEIVED (R3, R18): an interval that reaches the BREAK class. -/
  | breakReceived (x : Interval)
  /-- BREAK_HOLDOFF_END (R19). -/
  | breakHoldoffEnd
  /-- LINK_SILENCE_TIMEOUT (R15). -/
  | linkSilenceTimeout (p : Port)
  /-- DATA (R80). -/
  | data (p : Port) (h : Header) (payload : List Byte)
  /-- DOOR_CMD_RELEASE (R135). -/
  | doorCmdRelease (p : Port) (h : Header) (side : TrainSide) (atRest : Bool)
  /-- DOOR_CMD_CLOSE (R136). -/
  | doorCmdClose (p : Port) (h : Header) (side : TrainSide) (atRest : Bool)
  /-- DOOR_ALERT (R140). -/
  | doorAlert (p : Port) (h : Header) (x : AlertBody)
  /-- SUM_OUT (R144). -/
  | sumOut (p : Port) (h : Header) (x : SumBody)
  /-- SUM_BACK (R146). -/
  | sumBack (p : Port) (h : Header) (x : SumBody)
  /-- TOPO (R71). -/
  | topo (p : Port) (h : Header) (x : TopoBody)
  /-- ROLL_CALL (R50). -/
  | rollCall (p : Port) (h : Header) (x : RollBody)
  /-- ROLL_BACK (R54). -/
  | rollBack (p : Port) (h : Header) (x : RollBody)
  /-- CONFIRM_OUT (R56). -/
  | confirmOut (p : Port) (h : Header) (x : ConfirmBody)
  /-- CONFIRM_DONE (R61). -/
  | confirmDone (p : Port) (h : Header) (master : Identity)
  /-- HEAT_OUT (R159). -/
  | heatOut (p : Port) (h : Header) (x : HeatBody)
  /-- HEAT_BACK (R164). -/
  | heatBack (p : Port) (h : Header) (x : HeatBody)
  /-- MGMT_RSP (R193). -/
  | mgmtRsp (p : Port) (h : Header) (x : RspBody)
  /-- TAP_EXCHANGE (R94): an exchange begins, or is released without a frame for the node. -/
  | tapExchange (done : Bool) (part : TapPart)
  /-- TAP_DATA (R97). -/
  | tapData (done : Bool) (sel : Selector) (m : TapMark) (payload : List Byte)
  /-- TAP_DOOR_CMD_RELEASE (R133). -/
  | tapDoorCmdRelease (done : Bool) (sel : Selector) (m : TapMark) (side : TrainSide) (atRest : Bool)
  /-- TAP_DOOR_CMD_CLOSE (R134). -/
  | tapDoorCmdClose (done : Bool) (sel : Selector) (m : TapMark) (side : TrainSide) (atRest : Bool)
  /-- TAP_MGMT_REQ_TO_TRAIN (R99). -/
  | tapMgmtReqToTrain (done : Bool) (dest : Dest) (m : TapMark) (code : ReqCode) (q : Req)
  /-- READ (R187). -/
  | read (v : Via) (q : Req)
  /-- READ_LINE_REPORT (R115). -/
  | readLineReport (v : Via) (q : Req)
  /-- READ_FAULTS (R203). -/
  | readFaults (v : Via) (q : Req)
  /-- WRITE (R188). -/
  | write (v : Via) (q : Req)
  /-- WRITE_SERVICE (R77). -/
  | writeService (v : Via) (q : Req)
  /-- WRITE_GROUPS (R77). -/
  | writeGroups (v : Via) (q : Req)
  /-- WRITE_LINES (R105). -/
  | writeLines (v : Via) (q : Req)
  /-- WRITE_GENERAL_OUT (R111). -/
  | writeGeneralOut (v : Via) (q : Req)
  /-- WRITE_DOOR_INHIBIT (R123). -/
  | writeDoorInhibit (v : Via) (q : Req)
  /-- WRITE_COACH_DESCRIPTOR (R132). -/
  | writeCoachDescriptor (v : Via) (q : Req)
  /-- WRITE_HEAT_PROFILE (R152). -/
  | writeHeatProfile (v : Via) (q : Req)
  /-- WRITE_HEAT_SETTINGS (R154). -/
  | writeHeatSettings (v : Via) (q : Req)
  /-- WRITE_HEAT_DEMAND (R153). -/
  | writeHeatDemand (v : Via) (q : Req)
  /-- WRITE_SUPPLY_LIMIT (R154). -/
  | writeSupplyLimit (v : Via) (q : Req)
  /-- WRITE_TIMERS (R180). -/
  | writeTimers (v : Via) (q : Req)
  /-- COMMIT (R86). -/
  | commit (v : Via) (q : Req)
  /-- COMMIT_WITH_DRAIN (R88). -/
  | commitWithDrain (v : Via) (q : Req)
  /-- CLEAR_FAULTS (R204). -/
  | clearFaults (v : Via) (q : Req)
  /-- REINAUGURATE (R195). -/
  | reinaugurate (v : Via) (q : Req)
  /-- RESTART (R196), with the raw levels of the sample the restart takes (R118). -/
  | restart (v : Via) (q : Req) (levels : Levels)
  /-- PENDING_RESTART (R196), with the raw levels of the sample the restart takes (R118). -/
  | pendingRestart (levels : Levels)
  /-- WITHDRAW (R21). -/
  | withdraw (v : Via) (q : Req)
  /-- WITHDRAW_COMPLETE (R21). -/
  | withdrawComplete
  /-- CLEAR_LOCKOUT (R171). -/
  | clearLockout (v : Via) (q : Req)
  /-- QUALIFIED_EDGE (R106): the line whose change is due. -/
  | qualifiedEdge (n : Fin 16)
  /-- SETTLE_EXPIRY (R47): T2. -/
  | settleExpiry
  /-- CALL_TIMEOUT (R62): T3. -/
  | callTimeout
  /-- CONFIRM_TIMEOUT (R62): T4. -/
  | confirmTimeout
  /-- PENDING_TIMEOUT (R68): T5. -/
  | pendingTimeout
  /-- SUSPECT_TIMEOUT (R67): T6. -/
  | suspectTimeout
  /-- MASTER_SILENCE_TIMEOUT (R66): T9. -/
  | masterSilenceTimeout
  /-- SUMMARY_PERIOD_EXPIRY (R141): T7. -/
  | summaryPeriodExpiry
  /-- SUMMARY_RETURN_TIMEOUT (R147): T8. -/
  | summaryReturnTimeout
  /-- CLOSE_TIMEOUT (R129): T10 of a side. -/
  | closeTimeout (side : Side)
  /-- HEAT_PERIOD_EXPIRY (R157): T11. -/
  | heatPeriodExpiry
  /-- HEAT_RETURN_TIMEOUT (R165): T12. -/
  | heatReturnTimeout
  /-- HEAT_SUPERVISION_TIMEOUT (R168): T13. -/
  | heatSupervisionTimeout
  /-- FEEDBACK_MISMATCH_TIMEOUT (R170): T14. -/
  | feedbackMismatchTimeout
  /-- DRAIN_TIMEOUT (R89): T15. -/
  | drainTimeout
  /-- TIMEBASE_STEP (R175), with the raw levels it samples (R103) and what each port has taken of frames (R15). -/
  | timebaseStep (now : Instant)
  /-- RETURN_BETWEEN_FRAMES (R4). -/
  | returnBetweenFrames (p : Port)
deriving DecidableEq, Repr

end Sys2Proof
end

