-- ==== Sys2Proof/Machine/State.lean ====
section
/-! DEFINITION. The state of one CN240 node, block by block (00_scope.md, Block overview), as plain data, and
its value at power-on. INVENTORY.md lists every field with its rule and its reset value. -/

namespace Sys2Proof.Machine

/-- One value for each train port. -/
structure PerPort (α : Type) where
  e1 : α
  e2 : α
deriving DecidableEq, Repr

/-- One value for each coach side. -/
structure PerSide (α : Type) where
  a : α
  b : α
deriving DecidableEq, Repr

/-! ### Bypass hold -/

/-- The node state (R20 to R22). -/
inductive NodeState where
  | starting
  | operating
  | withdrawing
  | withdrawn
deriving DecidableEq, Repr

/-- The withdraw cause (R20, R22). -/
inductive WithdrawCause where
  | none
  | requested
  | startCheck
deriving DecidableEq, Repr

/-- What the bypass hold block owns, with the break hold-off that both ports share (R19, R20). -/
structure BypassHold where
  node : NodeState
  hold : Bool
  cause : WithdrawCause
  started : Bool
  holdoff : Bool
deriving DecidableEq, Repr

/-! ### Frames waiting in the relay unit -/

/-- The transmit queue levels (R83). -/
inductive Level where
  | urgent
  | control
  | bulk
deriving DecidableEq, Repr

/-- A frame in a transmit queue: `gen` is its generation tag (DATA only, R87); `restart` marks the response
of a TRAIN RESTART, whose leaving restarts the node (R196). -/
structure Queued where
  frame : Frame
  gen : Option Nat
  restart : Bool
deriving DecidableEq, Repr

/-- The three transmit queues of one port, heads first (R83). -/
structure Queues where
  urgent : List Queued
  control : List Queued
  bulk : List Queued
deriving DecidableEq, Repr

/-! ### Segment controllers -/

/-- The link state of a port (R11 to R14). -/
inductive LinkState where
  | down
  | arriving
  | up
  | faulted
deriving DecidableEq, Repr

/-- The receive condition of R4; `bitsOver` is in a frame all whose bits were taken before the latest step of the
timebase (R15; log 4), and `breakHeld` the rest of a classified BREAK, before the release. -/
inductive RxCondition where
  | betweenFrames
  | inFrame
  | bitsOver
  | discarding
  | breakHeld
deriving DecidableEq, Repr

/-- Where the frame being sent stands (R6, R85, R89): `queued` at the head of its queue; `doomed` there too,
to be discarded unless it is sent (R89); `flushed` no longer in a queue, but running on to its end (R18). -/
inductive Place where
  | queued
  | doomed
  | flushed
deriving DecidableEq, Repr

/-- The transmitter: what it last began to send. A PROBE or BREAK stands here after its end, until something
else is begun (log 26); a frame stands here while it is being sent. -/
inductive Transmitter where
  | idle
  | probe
  | brk
  | frame (level : Level) (q : Queued) (place : Place)
deriving DecidableEq, Repr

/-- What one segment controller holds (R4, R10 to R14). -/
structure PortState where
  link : LinkState
  arrival : Nat
  score : Nat
  rx : RxCondition
  assembly : List Bool
  tx : Transmitter
  probeDue : Bool
deriving DecidableEq, Repr

/-! ### Relay unit -/

/-- The forward field of a service entry (R75). -/
inductive Forward where
  | pass
  | stop
deriving DecidableEq, Repr

/-- The tap delivery field of a service entry (R75). -/
inductive TapDelivery where
  | never
  | addressed
  | copy
deriving DecidableEq, Repr

/-- One entry of the service action table (R75); `control` is the queue level CONTROL. -/
structure ServiceEntry where
  forward : Forward
  delivery : TapDelivery
  control : Bool
  originate : Bool
  maxPayload : Nat
deriving DecidableEq, Repr

/-- The reasons of a refused intake (R95). -/
inductive RefuseReason where
  | notInaugurated
  | denied
  | self
  | queueFull
  | badKind
  | invalid
deriving DecidableEq, Repr

/-- The intake result (R95). -/
inductive IntakeResult where
  | none
  | accepted
  | refused (why : RefuseReason)
deriving DecidableEq, Repr

/-- What the node sends in an exchange (R94): the result of the previous exchange, the occupancy of the tap
delivery queue, the three attention causes and the head frame. -/
structure TapReport where
  result : IntakeResult
  occupancy : Nat
  causeQueue : Bool
  causeReport : Bool
  causeFaults : Bool
  head : Option Frame
deriving DecidableEq, Repr

/-- The select period of the tap link that is under way (R94): none; one that the node does not serve, because it began
in STARTING or a power-on fell into it (R20; log 9); or one in which the node sends the report it made out at the start,
and whether that report carries the frame at the head of the tap delivery queue. -/
inductive TapSelect where
  | idle
  | unserved
  | serving (withHead : Bool)
deriving DecidableEq, Repr

/-- R94: the exchange under way sends the frame at the head of the tap delivery queue. -/
def TapSelect.carriesHead : TapSelect → Bool
  | .serving b => b
  | .idle | .unserved => false

/-- R102: the tap delivery queue is emptied in a restart: an exchange under way has nothing more to remove. -/
def TapSelect.emptied : TapSelect → TapSelect
  | .serving _ => .serving false
  | x => x

/-- R20: a power-on in a select period: what is left of it is not served (log 9). -/
def TapSelect.cutOff : TapSelect → TapSelect
  | .idle => .idle
  | .unserved | .serving _ => .unserved

/-- What the relay unit owns (Relay and Delivery). `report` is the model's own field (log 26). -/
structure RelayUnit where
  serviceActive : List ServiceEntry
  serviceStaged : List ServiceEntry
  groupsActive : BitVec 16
  groupsStaged : BitVec 16
  generation : Nat
  queues : PerPort Queues
  tapQueue : List Frame
  intake : IntakeResult
  draining : Bool
  report : Option TapReport
  select : TapSelect
deriving DecidableEq, Repr

/-! ### Consist unit -/

/-- The role (R42). -/
inductive Role where
  | member
  | master
deriving DecidableEq, Repr

/-- The consist states, in the order of their STATUS codes (R40). -/
inductive ConsistState where
  | uninaugurated
  | inaugurating
  | stable
  | suspect
  | blocked
  | settling
  | calling
  | confirming
deriving DecidableEq, Repr

/-- The blocked reasons (R40, R63). -/
inductive BlockedReason where
  | none
  | overlong
  | conflict
  | duplicate
  | noReturn
deriving DecidableEq, Repr

/-- A member's pending record (R50). -/
structure Joined where
  epoch : Nat
  master : Identity
  attempt : Nat
  position : Nat
  orientation : Orientation
deriving DecidableEq, Repr

/-- The master inauguration record (R47). `own` is the model's own field: the master's entry as its CALL carried it, with
which R54 has a returned list begin (log 20). -/
structure Attempt where
  epoch : Nat
  attempt : Nat
  orientation : Orientation
  returned : List Entry
  own : Entry
deriving DecidableEq, Repr

/-- What the consist unit owns (Consist Inauguration). -/
structure ConsistUnit where
  role : Role
  state : ConsistState
  blocked : BlockedReason
  epoch : Nat
  position : Nat
  orientation : Orientation
  table : List Entry
  joined : Option Joined
  attempt : Option Attempt
  restartReport : Bool
  coachClass : Nat
  doors : Nat
deriving DecidableEq, Repr

/-! ### Door unit -/

/-- The state of a coach side (R121). -/
inductive DoorState where
  | closed
  | released
  | closing
  | stuck
deriving DecidableEq, Repr

/-- The proof of a coach side (R122). -/
inductive Proof where
  | proved
  | notProved
  | absent
deriving DecidableEq, Repr

/-- One coach side record (R121); its close timer is T10 of the side; `held` is the alert hold-off. -/
structure SideRecord where
  state : DoorState
  proof : Proof
  localInhibit : Bool
  held : Bool
deriving DecidableEq, Repr

/-- What the door unit owns (Door Control). -/
structure DoorUnit where
  sides : PerSide SideRecord
  commandCounter : Nat
  walk : Nat
  outstanding : Option Nat
  startPending : Bool
  alert : Bool
  doorsClosed : Bool
deriving DecidableEq, Repr

/-! ### Heat unit -/

/-- A node walk record (R160). -/
structure WalkRecord where
  walk : Nat
  demand : Nat
  grant : Nat
  wanting : Bool
deriving DecidableEq, Repr

/-- What the heat unit owns (Heating Load Sharing). -/
structure HeatUnit where
  profile : List Nat
  writtenDemand : Nat
  doorCap : Nat
  fallbackStage : Nat
  supplyLimit : Nat
  applied : Nat
  fallback : Bool
  lockedOut : Bool
  walkRecord : Option WalkRecord
  walk : Nat
  outstanding : Option Nat
  startPending : Bool
deriving DecidableEq, Repr

/-! ### Line unit -/

/-- The line functions (R104), in the order of their codes (R40). -/
inductive LineFunction where
  | none
  | cabActive
  | zeroSpeed
  | doorProof (side : Side)
  | doorInhibit (side : Side)
  | heatFeedback
  | heatDemand0
  | heatDemand1
  | heatDemand2
  | generalIn
  | doorRelease (side : Side)
  | doorClose (side : Side)
  | trainDoorsClosed
  | heatStage0
  | heatStage1
  | heatStage2
  | generalOut
deriving DecidableEq, Repr

/-- The polarity of a line (R104). -/
inductive Polarity where
  | activeHigh
  | activeLow
deriving DecidableEq, Repr

/-- The arming of a line (R104). -/
inductive Arming where
  | off
  | assertion
  | release
  | both
deriving DecidableEq, Repr

/-- One entry of the line function table (R104). -/
structure LineEntry where
  function : LineFunction
  polarity : Polarity
  debounce : Nat
  arming : Arming
deriving DecidableEq, Repr

/-- A pending change (R106): none; begun at the sample with that timebase value; or to be measured afresh
from the next sample (R107). -/
inductive PendingChange where
  | none
  | since (sample : Stamp)
  | afresh
deriving DecidableEq, Repr

/-- The report condition of a line (R113). -/
inductive ReportCondition where
  | ready
  | latched
  | held
deriving DecidableEq, Repr

/-- What the line unit holds for one line. `raw` is true for HIGH, `qualified` for asserted. -/
structure LineRecord where
  entry : LineEntry
  raw : Bool
  qualified : Bool
  change : PendingChange
  generalOut : Bool
  reported : Bool
  recorded : Bool
  condition : ReportCondition
deriving DecidableEq, Repr

/-- What the line unit owns (Coach Lines): the sixteen lines, and whether the first sample in OPERATING is
still to come (R117). -/
structure LineUnit where
  line : List LineRecord
  firstSample : Bool
deriving DecidableEq, Repr

/-! ### Timer unit -/

/-- The scale of a setting (R176). -/
inductive Scale where
  | fine
  | coarse
deriving DecidableEq, Repr

/-- A timer setting (R176). -/
structure Setting where
  value : Nat
  scale : Scale
deriving DecidableEq, Repr

/-- The running counts (R181): T0 and T1 per port, T10 per side, one of every other timer. -/
inductive TimerId where
  | t0 (p : Port)
  | t1 (p : Port)
  | t2
  | t3
  | t4
  | t5
  | t6
  | t7
  | t8
  | t9
  | t10 (side : Side)
  | t11
  | t12
  | t13
  | t14
  | t15
deriving DecidableEq, Repr

/-- The running counts: none is stopped, `some n` is running with n ms left. `some 0` has run out, and its
expiry is about to be taken (R178, R179; log 1). -/
structure Counts where
  t0 : PerPort (Option Nat)
  t1 : PerPort (Option Nat)
  t2 : Option Nat
  t3 : Option Nat
  t4 : Option Nat
  t5 : Option Nat
  t6 : Option Nat
  t7 : Option Nat
  t8 : Option Nat
  t9 : Option Nat
  t10 : PerSide (Option Nat)
  t11 : Option Nat
  t12 : Option Nat
  t13 : Option Nat
  t14 : Option Nat
  t15 : Option Nat
deriving DecidableEq, Repr

/-- What the timer unit owns (Supervision Timers). -/
structure TimerUnit where
  timebase : Stamp
  settings : List Setting
  counts : Counts
deriving DecidableEq, Repr

/-! ### Fault table -/

/-- The nineteen fault kinds, in the order of their codes (R40). -/
inductive FaultKind where
  | portFaulted
  | portLost
  | badKind
  | queueFull
  | tapOverrun
  | staleEpoch
  | misroute
  | oversize
  | rollMismatch
  | cabMid
  | inaugurationFailed
  | summaryLost
  | heatLost
  | heatCount
  | heatFeedback
  | doorStuck
  | doorAlertRaised
  | drainDiscard
  | denied
deriving DecidableEq, Repr

/-- The fault sources (R40, R199). -/
inductive FaultSource where
  | port (p : Port)
  | tap
  | side (side : Side)
  | node
  | line (n : Nat)
deriving DecidableEq, Repr

/-- A fault record (R199). -/
structure FaultRecord where
  kind : FaultKind
  source : FaultSource
  count : Nat
  first : Stamp
  last : Stamp
  epoch : Nat
  unread : Bool
deriving DecidableEq, Repr

/-- The fault table (R199). -/
structure FaultTable where
  slots : List (Option FaultRecord)
  overflow : Bool
deriving DecidableEq, Repr

/-! ### Management unit -/

/-- The pending-commit reference (R191). -/
structure CommitRef where
  request : Nat
  position : Nat
deriving DecidableEq, Repr

/-- The pending restart of R196: none; its response still in a transmit queue; or the response gone from it,
so that PENDING_RESTART is due. -/
inductive RestartState where
  | none
  | waiting
  | due
deriving DecidableEq, Repr

/-- What the management unit holds (Management Requests). -/
structure ManagementUnit where
  commit : Option CommitRef
  restart : RestartState
deriving DecidableEq, Repr

/-! ### The state and the reasons of a stop -/

/-- The state of one node. `pending` is the queue of waiting commands, first in, first out (the model's own). -/
structure State where
  pending : List Instr
  identity : Identity
  bypass : BypassHold
  ports : PerPort PortState
  relay : RelayUnit
  consist : ConsistUnit
  door : DoorUnit
  heat : HeatUnit
  lines : LineUnit
  timers : TimerUnit
  faults : FaultTable
  mgmt : ManagementUnit
deriving DecidableEq, Repr

/-- The faults a step can stop with. There is none: the spec gives every command an effect in every state, and
what the CN240 itself calls a fault is a record in its fault table (R199). -/
inductive Fault where
deriving DecidableEq, Repr

/-- The refusals a step can stop with. -/
inductive Refusal where
  /-- Raised by an arm of `exec` that has no meaning yet. No arm uses it. Safe. -/
  | notModelled (mnemonic : String)
deriving DecidableEq, Repr

/-! ### Power-on values -/

/-- R75: the power-on service entry. -/
def ServiceEntry.powerOn : ServiceEntry := ⟨.pass, .addressed, false, true, 240⟩

/-- R117: the power-on value of one line. The raw and qualified levels are DESIGN CHOICE, unsafe (log 6). -/
def LineRecord.powerOn : LineRecord :=
  { entry := ⟨.none, .activeHigh, 20, .off⟩, raw := false, qualified := false, change := .none,
    generalOut := false, reported := false, recorded := false, condition := .ready }

/-- R176: the default settings of T0 to T15. -/
def defaultSettings : List Setting :=
  [⟨2, .fine⟩, ⟨10, .fine⟩, ⟨300, .fine⟩, ⟨30, .coarse⟩, ⟨20, .coarse⟩, ⟨60, .coarse⟩, ⟨100, .coarse⟩,
   ⟨250, .fine⟩, ⟨600, .fine⟩, ⟨20, .coarse⟩, ⟨150, .coarse⟩, ⟨20, .coarse⟩, ⟨15, .coarse⟩, ⟨60, .coarse⟩,
   ⟨20, .coarse⟩, ⟨200, .fine⟩]

/-- R182: every running count stopped. -/
def Counts.stopped : Counts :=
  { t0 := ⟨none, none⟩, t1 := ⟨none, none⟩, t2 := none, t3 := none, t4 := none, t5 := none, t6 := none,
    t7 := none, t8 := none, t9 := none, t10 := ⟨none, none⟩, t11 := none, t12 := none, t13 := none,
    t14 := none, t15 := none }

/-- The table after R23, Power-on column: a port that is not started. -/
def PortState.powerOn : PortState :=
  { link := .down, arrival := 0, score := 0, rx := .betweenFrames, assembly := [], tx := .idle,
    probeDue := false }

/-- R83: three empty queues. -/
def Queues.empty : Queues := ⟨[], [], []⟩

/-- R101: the relay unit at power-on. -/
def RelayUnit.powerOn : RelayUnit :=
  { serviceActive := List.replicate 64 ServiceEntry.powerOn
    serviceStaged := List.replicate 64 ServiceEntry.powerOn
    groupsActive := 0, groupsStaged := 0, generation := 0
    queues := ⟨Queues.empty, Queues.empty⟩, tapQueue := [], intake := .none, draining := false
    report := none, select := .idle }

/-- R41: the consist unit at power-on. -/
def ConsistUnit.powerOn : ConsistUnit :=
  { role := .member, state := .uninaugurated, blocked := .none, epoch := 0, position := 0
    orientation := .normal, table := [], joined := none, attempt := none, restartReport := false
    coachClass := 0, doors := 0 }

/-- R149: a coach side at power-on. -/
def SideRecord.powerOn : SideRecord := ⟨.closed, .absent, false, false⟩

/-- R149: the door unit at power-on. -/
def DoorUnit.powerOn : DoorUnit :=
  { sides := ⟨SideRecord.powerOn, SideRecord.powerOn⟩, commandCounter := 0, walk := 0, outstanding := none
    startPending := false, alert := false, doorsClosed := false }

/-- R172: the heat unit at power-on. -/
def HeatUnit.powerOn : HeatUnit :=
  { profile := List.replicate 8 0, writtenDemand := 0, doorCap := 2, fallbackStage := 1, supplyLimit := 0
    applied := 0, fallback := true, lockedOut := false, walkRecord := none, walk := 0, outstanding := none
    startPending := false }

/-- The node right after power-on (R20): STARTING, every block at its power-on values, no command waiting. -/
def State.reset : State :=
  { pending := []
    identity := Config.factoryIdentity
    bypass := ⟨.starting, false, .none, false, false⟩
    ports := ⟨PortState.powerOn, PortState.powerOn⟩
    relay := RelayUnit.powerOn
    consist := ConsistUnit.powerOn
    door := DoorUnit.powerOn
    heat := HeatUnit.powerOn
    lines := ⟨List.replicate 16 LineRecord.powerOn, true⟩
    timers := ⟨0, defaultSettings, Counts.stopped⟩
    faults := ⟨List.replicate 8 none, false⟩
    mgmt := ⟨none, .none⟩ }

end Sys2Proof.Machine
end

