-- ==== Sys2Proof/Machine/Operands.lean ====
section
/-! DEFINITION. The frame record on the wire: codes, byte layouts, CRC and the acceptance checks of
Train-Line Frames (R24 to R40). -/

namespace Sys2Proof


/-! ### Bytes and bits -/

/-- The byte of a number below 256. -/
def byte (n : Nat) : Byte := BitVec.ofNat 8 n

/-- R24: two bytes, most significant first. -/
def be16 (n : Nat) : List Byte := [byte (n / 256), byte (n % 256)]

/-- R24: four bytes, most significant first. -/
def be32 (w : BitVec 32) : List Byte :=
  [w.extractLsb' 24 8, w.extractLsb' 16 8, w.extractLsb' 8 8, w.extractLsb' 0 8]

/-- The number two bytes spell, most significant first. -/
def word16 (hi lo : Byte) : Nat := hi.toNat * 256 + lo.toNat

/-- The 32-bit value four bytes spell, most significant first. -/
def word32 (a b c d : Byte) : BitVec 32 := a ++ b ++ c ++ d

/-- A flag as a number. -/
def flag (b : Bool) : Nat := if b then 1 else 0

/-- R1: the bits of a byte in the order they are sent, most significant first. -/
def Byte.bits (b : Byte) : List Bool := (List.range 8).map (fun i => b.getLsbD (7 - i))

/-- The bits of a record in the order they are sent. -/
def bitsOf (l : List Byte) : List Bool := l.flatMap Byte.bits

/-! ### CRC -/

/-- R31: one data bit through the CRC register. -/
def crcBit (r : BitVec 16) (bit : Bool) : BitVec 16 :=
  let shifted := r <<< 1
  if r.getLsbD 15 != bit then shifted ^^^ 0x1021#16 else shifted

/-- R31: the CRC over bytes in the order they are sent. -/
def crc16 (l : List Byte) : BitVec 16 := (bitsOf l).foldl crcBit 0xFFFF#16

/-- R24: the two CRC bytes, most significant first. -/
def crcBytes (l : List Byte) : List Byte :=
  [(crc16 l).extractLsb' 8 8, (crc16 l).extractLsb' 0 8]

/-! ### Codes -/

/-- R25: selector type codes. -/
def SelType.code : SelType → Nat
  | .position => 0
  | .group => 1
  | .all => 2
  | .self => 3

/-- R25: the selector type of a two-bit code. -/
def selTypeOf (n : Nat) : SelType :=
  if n = 0 then .position else if n = 1 then .group else if n = 2 then .all else .self

/-- R29: kind codes. -/
def Body.kindCode : Body → Nat
  | .doorCmd .. => 1
  | .doorAlert .. => 2
  | .sum .. => 3
  | .topo .. => 4
  | .roll .. => 5
  | .confirmOut .. => 6
  | .confirmDone .. => 6
  | .heat .. => 7
  | .mgmtReq .. => 8
  | .mgmtRsp .. => 9
  | .data .. => 10

/-- R29: codes 1 to 10 name a valid kind. -/
def kindValid (n : Nat) : Bool := 1 ≤ n && n ≤ 10

def Port.code : Port → Nat
  | .e1 => 1
  | .e2 => 2

def Side.code : Side → Nat
  | .a => 0
  | .b => 1

def TrainSide.code : TrainSide → Nat
  | .left => 1
  | .right => 2
  | .both => 3

def DoorCommand.code : DoorCommand → Nat
  | .release => 1
  | .close => 2

def TopoEvent.code : TopoEvent → Nat
  | .portUp => 1
  | .portDown => 2
  | .portFaulted => 3
  | .restarted => 4

def Orientation.code : Orientation → Nat
  | .normal => 0
  | .reversed => 1

def FarPort.code : FarPort → Nat
  | .down => 0
  | .up => 1
  | .faulted => 2

def ConfirmResult.code : ConfirmResult → Nat
  | .ok => 0
  | .overlong => 1
  | .conflict => 2
  | .duplicate => 3

def ReqCode.code : ReqCode → Nat
  | .read => 1
  | .write => 2
  | .commit => 3
  | .clearFaults => 4
  | .reinaugurate => 5
  | .restart => 6
  | .withdraw => 7
  | .clearLockout => 8

def Status.code : Status → Nat
  | .ok => 0
  | .okClamped => 1
  | .denied => 2
  | .invalid => 3
  | .absent => 4
  | .busy => 5

/-- The value of a code in a list of values whose codes begin at `base`; none for any other number. -/
def decodeCode {α : Type} (base : Nat) (values : List α) (n : Nat) : Option α :=
  if n < base then none else values[n - base]?

def portOf (n : Nat) : Option Port := decodeCode 1 [.e1, .e2] n
def sideOf (n : Nat) : Option Side := decodeCode 0 [.a, .b] n
def trainSideOf (n : Nat) : Option TrainSide := decodeCode 1 [.left, .right, .both] n
def doorCommandOf (n : Nat) : Option DoorCommand := decodeCode 1 [.release, .close] n
def topoEventOf (n : Nat) : Option TopoEvent := decodeCode 1 [.portUp, .portDown, .portFaulted, .restarted] n
def farPortOf (n : Nat) : Option FarPort := decodeCode 0 [.down, .up, .faulted] n
def confirmResultOf (n : Nat) : Option ConfirmResult := decodeCode 0 [.ok, .overlong, .conflict, .duplicate] n
def reqCodeOf (n : Nat) : Option ReqCode :=
  decodeCode 1 [.read, .write, .commit, .clearFaults, .reinaugurate, .restart, .withdraw, .clearLockout] n
def statusOf (n : Nat) : Option Status := decodeCode 0 [.ok, .okClamped, .denied, .invalid, .absent, .busy] n
def boolOf (n : Nat) : Option Bool := decodeCode 0 [false, true] n

/-! ### Payload layouts -/

/-- R36: the six bytes of an entry. -/
def Entry.bytes (e : Entry) : List Byte :=
  be32 e.identity ++
  [byte (e.orientation.code * 128 + flag e.cabActive * 64 + flag e.cabMid * 32 + e.farPort.code * 8
     + e.spareLow.toNat),
   byte (e.coachClass * 16 + flag e.spareBit * 8 + e.doors)]

/-- R36, R37, R38, R39: the payload bytes of a body. -/
def Body.payload : Body → List Byte
  | .doorCmd c side r => [byte c.code, byte side.code, byte (flag r)]
  | .doorAlert x => [byte x.position, byte x.side.code, byte x.trainSide.code] ++ be32 x.identity
  | .sum x =>
      [byte x.contributions,
       byte (flag x.allClosed * 128 + flag x.suspect * 64 + flag x.stuck * 32 + x.spare.toNat),
       byte x.released, byte x.firstNotProved] ++ be32 x.faultMask
  | .topo x => be32 x.identity ++ [byte x.event.code, byte x.port.code]
  | .roll x =>
      be32 x.master ++ [byte (flag x.overflow * 128 + flag x.spare * 64 + x.entries.length)]
        ++ x.entries.flatMap Entry.bytes
  | .confirmOut x =>
      [byte x.result.code, byte x.entries.length] ++ be32 x.master ++ x.entries.flatMap Entry.bytes
  | .confirmDone m => be32 m
  | .heat x => be16 x.budget ++ [byte x.remaining, byte x.wanting] ++ be16 x.requested ++ [byte x.locked]
  | .mgmtReq c q => [byte c.code, q.object, byte q.index, byte q.count] ++ q.data
  | .mgmtRsp x => [byte x.status.code, byte x.code.code, x.object, byte x.index] ++ x.data
  | .data l => l

/-- R24, R25: the six header bytes. -/
def Frame.headerBytes (f : Frame) : List Byte :=
  [byte (f.body.kindCode * 16 + flag f.header.phase * 8 + f.header.sel.type.code * 2 + flag f.header.spare),
   byte f.header.sel.value, byte f.header.epoch, byte f.header.origin, byte f.header.tag,
   byte f.body.payload.length]

/-- R24: the bytes the CRC is computed over. -/
def Frame.covered (f : Frame) : List Byte := f.headerBytes ++ f.body.payload

/-- R24: the whole record, CRC included. -/
def Frame.bytes (f : Frame) : List Byte := f.covered ++ crcBytes f.covered

/-! ### The form check -/

/-- R36: an entry's fields lie in their ranges. -/
def Entry.inRange (e : Entry) : Bool := e.coachClass ≤ 15 && e.doors ≤ 7

/-- R39, R40: the object code of an object byte. -/
def objectCode (b : Byte) : Nat := b.toNat % 32

/-- R40: object codes 1 to 17. -/
def objectCodeValid (b : Byte) : Bool := 1 ≤ objectCode b && objectCode b ≤ 17

/-- R33: for READ and WRITE the check reaches the object code. -/
def requestFormOk (c : ReqCode) (object : Byte) : Bool :=
  match c with
  | .read | .write => objectCodeValid object
  | _ => true

/-- R33, R36 to R39: every field of the payload that has a range holds a value inside it, and the payload
size is permitted. -/
def Body.inRange : Body → Bool
  | .doorCmd .. => true
  | .doorAlert x => 1 ≤ x.position && x.position ≤ 32 && x.trainSide != .both
  | .sum x => x.contributions ≤ 32 && x.released ≤ 64 && x.firstNotProved ≤ 32
  | .topo _ => true
  | .roll x => x.entries.length ≤ 32 && x.entries.all Entry.inRange
  | .confirmOut x => x.entries.length ≤ 32 && x.entries.all Entry.inRange
  | .confirmDone _ => true
  | .heat x => x.budget ≤ 4095 && x.remaining ≤ 32 && x.wanting ≤ 32 && x.requested ≤ 65535 && x.locked ≤ 32
  | .mgmtReq c q => requestFormOk c q.object && q.index ≤ 255 && q.count ≤ 255 && q.data.length ≤ 236
  | .mgmtRsp x => requestFormOk x.code x.object && x.index ≤ 255 && x.data.length ≤ 236
  | .data l => l.length ≤ 240

/-- R33: the selector value suits the selector type. -/
def Selector.inRange (x : Selector) : Bool :=
  match x.type with
  | .position => 1 ≤ x.value && x.value ≤ 32
  | .group => x.value ≤ 15
  | .all => x.value == 0
  | .self => x.value == 0

/-- R28: the tag condition of the form check. -/
def tagOk (b : Body) (tag : Nat) : Bool :=
  match b with
  | .data _ => tag ≤ 63
  | .roll _ | .confirmOut _ | .confirmDone _ => 1 ≤ tag && tag ≤ 3
  | _ => tag ≤ 255

/-- R25: a CONFIRM's phase tells its two layouts apart. -/
def phaseOk (f : Frame) : Bool :=
  match f.body with
  | .confirmOut _ => !f.header.phase
  | .confirmDone _ => f.header.phase
  | _ => true

/-- R33 with SELF allowed, as at the tap (R35). The epoch and origin position are bytes; their range at a
train port is judged in `Frame.formOk`. -/
def Frame.tapFormOk (f : Frame) : Bool :=
  f.header.sel.inRange && tagOk f.body f.header.tag && f.body.inRange && phaseOk f

/-- R33: correct form on a train port. -/
def Frame.formOk (f : Frame) : Bool :=
  f.tapFormOk && f.header.sel.type != .self && f.header.epoch ≤ 255 && f.header.origin ≤ 32

/-! ### Reading a received record -/

/-- R36: one entry from its six bytes. -/
def entryOf (a b c d e f : Byte) : Option Entry :=
  (farPortOf (e.toNat / 8 % 4)).map fun far =>
    { identity := word32 a b c d
      orientation := if e.getLsbD 7 then .reversed else .normal
      cabActive := e.getLsbD 6
      cabMid := e.getLsbD 5
      farPort := far
      spareLow := e.extractLsb' 0 3
      coachClass := f.toNat / 16
      spareBit := f.getLsbD 3
      doors := f.toNat % 8 }

/-- R36: exactly `n` entries. -/
def entriesOf : Nat → List Byte → Option (List Entry)
  | 0, [] => some []
  | n + 1, a :: b :: c :: d :: e :: f :: rest => do
      let x ← entryOf a b c d e f
      let xs ← entriesOf n rest
      pure (x :: xs)
  | _, _ => none

/-- R36 to R39: the body of a kind code and phase from its payload bytes; none where the size or a code is not
one the layouts give. -/
def bodyOf (kind : Nat) (phase : Bool) (l : List Byte) : Option Body :=
  match kind, l with
  | 1, [c, side, r] => do
      pure (.doorCmd (← doorCommandOf c.toNat) (← trainSideOf side.toNat) (← boolOf r.toNat))
  | 2, [p, side, ts, a, b, c, d] => do
      pure (.doorAlert ⟨p.toNat, ← sideOf side.toNat, ← trainSideOf ts.toNat, word32 a b c d⟩)
  | 3, [n, fl, rel, first, a, b, c, d] =>
      some (.sum ⟨n.toNat, fl.getLsbD 7, fl.getLsbD 6, fl.getLsbD 5, fl.extractLsb' 0 5, rel.toNat,
        first.toNat, word32 a b c d⟩)
  | 4, [a, b, c, d, ev, p] => do
      pure (.topo ⟨word32 a b c d, ← topoEventOf ev.toNat, ← portOf p.toNat⟩)
  | 5, a :: b :: c :: d :: fl :: rest => do
      pure (.roll ⟨word32 a b c d, fl.getLsbD 7, fl.getLsbD 6, ← entriesOf (fl.toNat % 64) rest⟩)
  | 6, res :: n :: a :: b :: c :: d :: rest =>
      if phase then none
      else do
        pure (.confirmOut ⟨← confirmResultOf res.toNat, word32 a b c d, ← entriesOf n.toNat rest⟩)
  | 6, [a, b, c, d] => if phase then some (.confirmDone (word32 a b c d)) else none
  | 7, [b1, b0, rem, w, r1, r0, lk] =>
      some (.heat ⟨word16 b1 b0, rem.toNat, w.toNat, word16 r1 r0, lk.toNat⟩)
  | 8, c :: obj :: i :: n :: rest => do
      pure (.mgmtReq (← reqCodeOf c.toNat) ⟨obj, i.toNat, n.toNat, rest⟩)
  | 9, st :: c :: obj :: i :: rest => do
      pure (.mgmtRsp ⟨← statusOf st.toNat, ← reqCodeOf c.toNat, obj, i.toNat, rest⟩)
  | 10, l => some (.data l)
  | _, _ => none

/-- The outcome of the acceptance checks: a frame, or the first check that failed. -/
inductive Accepted where
  | frame (f : Frame)
  | failed (why : FrameFailure)
deriving DecidableEq, Repr

/-- R32, R33, R35: the checks on a record, in their order; `formOk` is the form check of a train port or of
the tap. -/
def acceptWith (formOk : Frame → Bool) (l : List Byte) : Accepted :=
  if l.length < 8 then .failed .tooShort
  else if crcBytes (l.take (l.length - 2)) ≠ l.drop (l.length - 2) then .failed .crc
  else match l with
    | b0 :: sv :: ep :: org :: tag :: len :: rest =>
      if len.toNat + 8 ≠ l.length ∨ 240 < len.toNat then .failed .length
      else if !kindValid (b0.toNat / 16) then .failed .kind
      else match bodyOf (b0.toNat / 16) (b0.getLsbD 3) (rest.take len.toNat) with
        | none => .failed .form
        | some body =>
          let f : Frame :=
            ⟨⟨b0.getLsbD 3, ⟨selTypeOf (b0.toNat / 2 % 4), sv.toNat⟩, b0.getLsbD 0, ep.toNat, org.toNat,
              tag.toNat⟩, body⟩
          if formOk f then .frame f else .failed .form
    | _ => .failed .tooShort

/-- R32: the acceptance checks of a train port. -/
def accept (l : List Byte) : Accepted := acceptWith Frame.formOk l

/-- The bytes of a receive assembly, eight bits a byte, most significant first; none when the number of bits
is not a whole number of bytes (R5). -/
def bytesOfBits : List Bool → Option (List Byte)
  | [] => some []
  | b7 :: b6 :: b5 :: b4 :: b3 :: b2 :: b1 :: b0 :: rest =>
      (bytesOfBits rest).map fun t =>
        byte (flag b7 * 128 + flag b6 * 64 + flag b5 * 32 + flag b4 * 16 + flag b3 * 8 + flag b2 * 4
          + flag b1 * 2 + flag b0) :: t
  | _ => none

/-- R5, R32: what a receive assembly comes to at a frame end. -/
def acceptBits (l : List Bool) : Accepted :=
  match bytesOfBits l with
  | none => .failed .partialByte
  | some bytes => accept bytes

end Sys2Proof
end

