-- ==== Sys2Proof/Decode.lean ====
section
/-! DEFINITION. From words and received records to commands. The opcode table gives no row any bits, so
`decodeTableWord` answers none for every word (log 34); what a node itself reads from bits are the frame records of its
two train ports and of its tap, and the functions below say which command each record is (R5, R29, R32, R35, R96). -/

namespace Sys2Proof

/-- The command a word spells by the table's bits: the table gives none. -/
def decodeTableWord (_nbits _w : Nat) : Option Instr := none

/-- R39, R40: the command of a READ, by its object. -/
def readCommand (v : Via) (q : Req) : Instr :=
  if objectCode q.object = 8 then .readLineReport v q
  else if objectCode q.object = 17 then .readFaults v q
  else .read v q

/-- R39, R40: the command of a WRITE, by its object. -/
def writeCommand (v : Via) (q : Req) : Instr :=
  match objectCode q.object with
  | 4 => .writeService v q
  | 5 => .writeGroups v q
  | 6 => .writeLines v q
  | 9 => .writeGeneralOut v q
  | 10 => .writeDoorInhibit v q
  | 11 => .writeCoachDescriptor v q
  | 12 => .writeHeatProfile v q
  | 13 => .writeHeatSettings v q
  | 14 => .writeHeatDemand v q
  | 15 => .writeSupplyLimit v q
  | 16 => .writeTimers v q
  | _ => .write v q

/-- R39: the command of a request; `levels` is the sample a restart would take (R118). -/
def requestCommand (v : Via) (c : ReqCode) (q : Req) (levels : Levels) : Instr :=
  match c with
  | .read => readCommand v q
  | .write => writeCommand v q
  | .commit => if q.index = 1 then .commitWithDrain v q else .commit v q
  | .clearFaults => .clearFaults v q
  | .reinaugurate => .reinaugurate v q
  | .restart => .restart v q levels
  | .withdraw => .withdraw v q
  | .clearLockout => .clearLockout v q

/-- R25, R29, R30: the command that a valid frame on a train port is. -/
def commandOfFrame (p : Port) (levels : Levels) (f : Frame) : Instr :=
  match f.body with
  | .doorCmd .release side r => .doorCmdRelease p f.header side r
  | .doorCmd .close side r => .doorCmdClose p f.header side r
  | .doorAlert x => .doorAlert p f.header x
  | .sum x => if f.header.phase then .sumBack p f.header x else .sumOut p f.header x
  | .topo x => .topo p f.header x
  | .roll x => if f.header.phase then .rollBack p f.header x else .rollCall p f.header x
  | .confirmOut x => .confirmOut p f.header x
  | .confirmDone m => .confirmDone p f.header m
  | .heat x => if f.header.phase then .heatBack p f.header x else .heatOut p f.header x
  | .mgmtReq c q => requestCommand (.train p f.header) c q levels
  | .mgmtRsp x => .mgmtRsp p f.header x
  | .data l => .data p f.header l

/-- R5, R32: the command that a frame end on a train port is, with this receive assembly. -/
def commandOfAssembly (p : Port) (levels : Levels) (l : List Bool) : Instr :=
  match acceptBits l with
  | .frame f => commandOfFrame p levels f
  | .failed why => .invalidItem p (.badFrame why)

/-- R96: the record of a kind the tap may not originate. -/
def notOriginable (done : Bool) : Instr := .tapExchange done (.refusedRecord .notOriginable)

/-- R26, R99: a request from the tap, to the own node or to the train. -/
def tapRequestCommand (done : Bool) (h : Header) (c : ReqCode) (q : Req) (levels : Levels) : Instr :=
  let m : TapMark := ⟨h.phase, h.spare, h.tag⟩
  match h.sel.type with
  | .self => requestCommand (.tap done h.tag) c q levels
  | .position => .tapMgmtReqToTrain done (.position h.sel.value) m c q
  | .group => .tapMgmtReqToTrain done (.group h.sel.value) m c q
  | .all => .tapMgmtReqToTrain done .all m c q

/-- R96: the command of an exchange that brought this record. -/
def commandOfTapFrame (done : Bool) (levels : Levels) (f : Frame) : Instr :=
  let m : TapMark := ⟨f.header.phase, f.header.spare, f.header.tag⟩
  match f.body with
  | .doorCmd .release side r => .tapDoorCmdRelease done f.header.sel m side r
  | .doorCmd .close side r => .tapDoorCmdClose done f.header.sel m side r
  | .mgmtReq c q => tapRequestCommand done f.header c q levels
  | .data l => .tapData done f.header.sel m l
  | _ => notOriginable done

/-- R35: how a record from the tap fails. -/
def tapFailure : FrameFailure → RecordFailure
  | .partialByte | .tooShort => .cutShort
  | .length => .length
  | .crc => .crc
  | .kind => .kind
  | .form => .form

/-- R24, R94: the size of a record as its payload length byte, the sixth, declares it; at least that of the smallest
record, so that one cut short before its length byte is short of it. -/
def declaredSize (l : List Byte) : Nat := 8 + (l.getD 5 0).toNat

/-- R35, R94 to R96: the command of an exchange in which the controller sent these bytes. An exchange without a byte carried
no frame; a record cut short of its declared end is not taken; bytes after the declared end are ignored. R94 gives the
controller's indication that it sends no frame no form: that it is an exchange without any byte is DESIGN CHOICE, unsafe
(log 39). -/
def commandOfTapBytes (done : Bool) (levels : Levels) (l : List Byte) : Instr :=
  if l.isEmpty then .tapExchange done .nothing
  else if l.length < declaredSize l then .tapExchange done (.refusedRecord .cutShort)
  else
    match acceptWith Frame.tapFormOk (l.take (declaredSize l)) with
    | .frame f => commandOfTapFrame done levels f
    | .failed why => .tapExchange done (.refusedRecord (tapFailure why))

end Sys2Proof
end

