-- ==== Sys2Proof/Machine/Ops.lean ====
section
/-! DEFINITION. The shared operations on the state: access per port and side, running counts, the fault table,
the transmit queues and the tap delivery queue. -/

namespace Sys2Proof

/-- The other train port. -/
def Port.other : Port → Port
  | .e1 => .e2
  | .e2 => .e1

end Sys2Proof

namespace Sys2Proof.Machine

open Sys2Proof

/-! ### Access per port and per side -/

def PerPort.get {α : Type} (x : PerPort α) : Port → α
  | .e1 => x.e1
  | .e2 => x.e2

def PerPort.set {α : Type} (x : PerPort α) (p : Port) (v : α) : PerPort α :=
  match p with
  | .e1 => ⟨v, x.e2⟩
  | .e2 => ⟨x.e1, v⟩

def PerSide.get {α : Type} (x : PerSide α) : Side → α
  | .a => x.a
  | .b => x.b

def PerSide.set {α : Type} (x : PerSide α) (d : Side) (v : α) : PerSide α :=
  match d with
  | .a => ⟨v, x.b⟩
  | .b => ⟨x.a, v⟩

/-! ### Updates of one block -/

def State.setPending (s : State) (x : List Instr) : State := { s with pending := x }
def State.setBypass (s : State) (x : BypassHold) : State := { s with bypass := x }
def State.setPorts (s : State) (x : PerPort PortState) : State := { s with ports := x }
def State.setRelay (s : State) (x : RelayUnit) : State := { s with relay := x }
def State.setConsist (s : State) (x : ConsistUnit) : State := { s with consist := x }
def State.setDoor (s : State) (x : DoorUnit) : State := { s with door := x }
def State.setHeat (s : State) (x : HeatUnit) : State := { s with heat := x }
def State.setLines (s : State) (x : LineUnit) : State := { s with lines := x }
def State.setTimers (s : State) (x : TimerUnit) : State := { s with timers := x }
def State.setFaults (s : State) (x : FaultTable) : State := { s with faults := x }
def State.setMgmt (s : State) (x : ManagementUnit) : State := { s with mgmt := x }

/-- The record of one segment controller. -/
def State.port (s : State) (p : Port) : PortState := s.ports.get p

def State.setPort (s : State) (p : Port) (x : PortState) : State := s.setPorts (s.ports.set p x)

/-- The record of one coach side. -/
def State.side (s : State) (d : Side) : SideRecord := s.door.sides.get d

def State.setSide (s : State) (d : Side) (x : SideRecord) : State :=
  s.setDoor { s.door with sides := s.door.sides.set d x }

/-- The node is OPERATING (R20). -/
def State.operating (s : State) : Bool := s.bypass.node == .operating

/-- The segment controllers run: OPERATING with the ports started (R20 to R22). -/
def State.portsRun (s : State) : Bool := s.operating && s.bypass.started

/-! ### Counts that wrap -/

/-- A count of 0 to 255 that wraps from 255 to 0 (00_scope.md, Units and ranges). -/
def next256 (n : Nat) : Nat := (n + 1) % 256

/-- The epoch after `n`: from 255 it wraps to 1, skipping 0 (R47). -/
def nextEpoch (n : Nat) : Nat := if 255 ≤ n then 1 else n + 1

/-! ### Running counts (R176 to R181) -/

/-- R176: the period of a setting, in ms. -/
def Setting.period (x : Setting) : Nat :=
  match x.scale with
  | .fine => x.value
  | .coarse => x.value * 100

/-- The number of the timer a running count belongs to (R181). -/
def TimerId.number : TimerId → Nat
  | .t0 _ => 0
  | .t1 _ => 1
  | .t2 => 2
  | .t3 => 3
  | .t4 => 4
  | .t5 => 5
  | .t6 => 6
  | .t7 => 7
  | .t8 => 8
  | .t9 => 9
  | .t10 _ => 10
  | .t11 => 11
  | .t12 => 12
  | .t13 => 13
  | .t14 => 14
  | .t15 => 15

def Counts.get (c : Counts) : TimerId → Option Nat
  | .t0 p => c.t0.get p
  | .t1 p => c.t1.get p
  | .t2 => c.t2
  | .t3 => c.t3
  | .t4 => c.t4
  | .t5 => c.t5
  | .t6 => c.t6
  | .t7 => c.t7
  | .t8 => c.t8
  | .t9 => c.t9
  | .t10 d => c.t10.get d
  | .t11 => c.t11
  | .t12 => c.t12
  | .t13 => c.t13
  | .t14 => c.t14
  | .t15 => c.t15

def Counts.set (c : Counts) (t : TimerId) (v : Option Nat) : Counts :=
  match t with
  | .t0 p => { c with t0 := c.t0.set p v }
  | .t1 p => { c with t1 := c.t1.set p v }
  | .t2 => { c with t2 := v }
  | .t3 => { c with t3 := v }
  | .t4 => { c with t4 := v }
  | .t5 => { c with t5 := v }
  | .t6 => { c with t6 := v }
  | .t7 => { c with t7 := v }
  | .t8 => { c with t8 := v }
  | .t9 => { c with t9 := v }
  | .t10 d => { c with t10 := c.t10.set d v }
  | .t11 => { c with t11 := v }
  | .t12 => { c with t12 := v }
  | .t13 => { c with t13 := v }
  | .t14 => { c with t14 := v }
  | .t15 => { c with t15 := v }

/-- A function on every running count. -/
def Counts.map (f : Option Nat → Option Nat) (c : Counts) : Counts :=
  { t0 := ⟨f c.t0.e1, f c.t0.e2⟩, t1 := ⟨f c.t1.e1, f c.t1.e2⟩, t2 := f c.t2, t3 := f c.t3, t4 := f c.t4
    t5 := f c.t5, t6 := f c.t6, t7 := f c.t7, t8 := f c.t8, t9 := f c.t9, t10 := ⟨f c.t10.a, f c.t10.b⟩
    t11 := f c.t11, t12 := f c.t12, t13 := f c.t13, t14 := f c.t14, t15 := f c.t15 }

/-- The running count of a timer: none when stopped, else the ms left. -/
def State.count (s : State) (t : TimerId) : Option Nat := s.timers.counts.get t

def State.setCount (s : State) (t : TimerId) (v : Option Nat) : State :=
  s.setTimers { s.timers with counts := s.timers.counts.set t v }

/-- The setting of timer number `n` (R176). -/
def State.setting (s : State) (n : Nat) : Setting := s.timers.settings.getD n ⟨1, .fine⟩

/-- The period of a running count's timer as its setting stands (R178). -/
def State.period (s : State) (t : TimerId) : Nat := (s.setting t.number).period

/-- R178: start, or restart, a running count. -/
def startTimer (t : TimerId) (s : State) : State := s.setCount t (some (s.period t))

/-- R178: stop a running count. -/
def stopTimer (t : TimerId) (s : State) : State := s.setCount t none

/-- Stop several running counts. -/
def stopTimers (l : List TimerId) (s : State) : State := l.foldl (fun s t => stopTimer t s) s

/-- R178, R182: the count has run out and its expiry may be taken. -/
def State.ranOut (s : State) (t : TimerId) : Bool := s.operating && s.count t == some 0

/-- R179: the kinds of the timers. -/
def TimerId.periodic : TimerId → Bool
  | .t0 _ | .t7 | .t11 => true
  | _ => false

/-- R179: the count after its expiry. -/
def takeExpiry (t : TimerId) (s : State) : State :=
  if t.periodic then startTimer t s else stopTimer t s

/-- R178: one step of the timebase on one count. -/
def countDown (c : Option Nat) : Option Nat := c.map (· - 1)

/-! ### Fault table (R199 to R204) -/

/-- R200: the slot holds a record of this kind and source. -/
def holds (k : FaultKind) (src : FaultSource) (slot : Option FaultRecord) : Bool :=
  match slot with
  | some r => r.kind == k && r.source == src
  | none => false

/-- R200: a fault taken by the record that exists. -/
def FaultRecord.again (now : Stamp) (r : FaultRecord) : FaultRecord :=
  { r with count := min 255 (r.count + 1), last := now, unread := true }

/-- R200, R201: a fault reaches the table. -/
def FaultTable.record (t : FaultTable) (k : FaultKind) (src : FaultSource) (now : Stamp) (epoch : Nat) :
    FaultTable :=
  if t.slots.any (holds k src) then
    { t with slots := t.slots.map fun x => if holds k src x then x.map (FaultRecord.again now) else x }
  else
    match t.slots.findIdx? Option.isNone with
    | some i => { t with slots := t.slots.set i (some ⟨k, src, 1, now, now, epoch, true⟩) }
    | none => { t with overflow := true }

/-- A block hands the fault table a kind and a source (Fault Records, 10.2). -/
def recordFault (k : FaultKind) (src : FaultSource) (s : State) : State :=
  s.setFaults (s.faults.record k src s.timers.timebase s.consist.epoch)

/-- R202: unread news. -/
def FaultTable.news (t : FaultTable) : Bool :=
  t.slots.any fun x => match x with
    | some r => r.unread
    | none => false

/-! ### Transmit queues (R83 to R85) -/

def Queues.get (x : Queues) : Level → List Queued
  | .urgent => x.urgent
  | .control => x.control
  | .bulk => x.bulk

def Queues.set (x : Queues) (l : Level) (v : List Queued) : Queues :=
  match l with
  | .urgent => { x with urgent := v }
  | .control => { x with control := v }
  | .bulk => { x with bulk := v }

/-- R83: every frame of a port's queues. -/
def Queues.frames (x : Queues) : List Queued := x.urgent ++ x.control ++ x.bulk

/-- R83: the highest level whose queue is not empty, with its head. -/
def Queues.offer (x : Queues) : Option (Level × Queued) :=
  match x.urgent, x.control, x.bulk with
  | q :: _, _, _ => some (.urgent, q)
  | [], q :: _, _ => some (.control, q)
  | [], [], q :: _ => some (.bulk, q)
  | [], [], [] => none

/-- R83: the capacities. -/
def Level.capacity : Level → Nat
  | .urgent => 4
  | .control => 6
  | .bulk => 12

/-- R29: the queue level a kind fixes; for DATA the service decides (R75). -/
def bodyLevel : Body → Level
  | .doorCmd .. | .doorAlert .. | .sum .. | .topo .. => .urgent
  | _ => .control

def State.queues (s : State) (p : Port) : Queues := s.relay.queues.get p

def State.setQueues (s : State) (p : Port) (x : Queues) : State :=
  s.setRelay { s.relay with queues := s.relay.queues.set p x }

/-- The port's link state is UP. -/
def State.isUp (s : State) (p : Port) : Bool := (s.port p).link == .up

/-- The UP ports, E1 first. -/
def State.upPorts (s : State) : List Port := [Port.e1, Port.e2].filter (fun p => s.isUp p)

/-- R84: the queue of this level has room for one more frame. -/
def State.hasRoom (s : State) (p : Port) (l : Level) : Bool :=
  ((s.queues p).get l).length < l.capacity

/-- Put a frame at the tail of a queue. -/
def appendQueue (p : Port) (l : Level) (q : Queued) (s : State) : State :=
  s.setQueues p ((s.queues p).set l ((s.queues p).get l ++ [q]))

/-- R84: the relay unit queues a frame on a port at a level: not on a port that is not UP, and with QUEUE_FULL
when the queue holds its capacity. -/
def enqueue (p : Port) (l : Level) (q : Queued) (s : State) : State :=
  if !s.isUp p then s
  else if s.hasRoom p l then appendQueue p l q s
  else recordFault .queueFull (.port p) s

/-- A frame of a kind other than DATA, as it waits in a queue. -/
def plain (f : Frame) : Queued := ⟨f, none, false⟩

/-- R30, R84: queue a frame of a kind other than DATA at the level its kind fixes. -/
def sendFrame (p : Port) (f : Frame) (s : State) : State := enqueue p (bodyLevel f.body) (plain f) s

/-! ### Tap delivery queue (R92) -/

/-- R29: the urgent kinds. -/
def Body.urgent : Body → Bool
  | .doorCmd .. | .doorAlert .. | .sum .. | .topo .. => true
  | _ => false

/-- R92: the occupancy below which a frame is admitted. -/
def tapLimit (f : Frame) : Nat := if Body.urgent f.body then 16 else 12

def State.setTapQueue (s : State) (x : List Frame) : State := s.setRelay { s.relay with tapQueue := x }

/-- R92: a frame is offered to the tap delivery queue. -/
def deliver (f : Frame) (s : State) : State :=
  if s.relay.tapQueue.length < tapLimit f then s.setTapQueue (s.relay.tapQueue ++ [f])
  else recordFault .tapOverrun .tap s

end Sys2Proof.Machine
end

