-- ==== Sys2Proof/Machine/Flags.lean ====
section
/-! DEFINITION. What the blocks compute from the state as it stands: what the owners see of the lines, inhibits
and door closure, the effective demand, directions along the train, epoch and scope tests, the commanded and
driven levels of the outputs, and TAP_ATTN. -/

namespace Sys2Proof.Machine

open Sys2Proof

/-! ### What the owners see of the lines (R109) -/

/-- R109: the function stands on a line. -/
def State.present (s : State) (f : LineFunction) : Bool := s.lines.line.any fun l => l.entry.function == f

/-- R109: the function stands on a line whose qualified level is asserted. -/
def State.asserted (s : State) (f : LineFunction) : Bool :=
  s.lines.line.any fun l => l.entry.function == f && l.qualified

/-- The record of line `n`. -/
def State.lineAt (s : State) (n : Nat) : LineRecord := s.lines.line.getD n LineRecord.powerOn

def State.setLine (s : State) (n : Nat) (x : LineRecord) : State :=
  s.setLines { s.lines with line := s.lines.line.set n x }

/-- The line that carries a function. -/
def State.lineCarrying (s : State) (f : LineFunction) : Option Nat :=
  s.lines.line.findIdx? fun l => l.entry.function == f

/-- R122: the proof that the DOOR_PROOF function of a side gives. -/
def State.lineProof (s : State) (d : Side) : Proof :=
  if s.present (.doorProof d) then (if s.asserted (.doorProof d) then .proved else .notProved) else .absent

/-- R123: the side is inhibited. -/
def State.inhibited (s : State) (d : Side) : Bool := s.asserted (.doorInhibit d) || (s.side d).localInhibit

/-! ### Doors and heating -/

/-- R124: the side counts as closed. -/
def State.countsClosed (s : State) (d : Side) : Bool :=
  s.consist.doors == 0 || ((s.side d).state == .closed && (s.side d).proof == .proved)

/-- R124: both sides count as closed. -/
def State.bothClosed (s : State) : Bool := s.countsClosed .a && s.countsClosed .b

/-- R153: the line demand. -/
def State.lineDemand (s : State) : Nat :=
  flag (s.asserted .heatDemand0) + 2 * flag (s.asserted .heatDemand1) + 4 * flag (s.asserted .heatDemand2)

/-- R153: the demand. -/
def State.demand (s : State) : Nat :=
  if s.present .heatDemand0 && s.present .heatDemand1 && s.present .heatDemand2 then s.lineDemand
  else s.heat.writtenDemand

/-- R155: the effective demand d_eff. -/
def State.effectiveDemand (s : State) : Nat :=
  if s.heat.lockedOut then 0
  else if s.bothClosed then s.demand
  else min s.demand s.heat.doorCap

/-- R152: the profile entry of a stage. -/
def State.profileAt (s : State) (stage : Nat) : Nat := s.heat.profile.getD stage 0

/-- R160, R163: the highest stage from `low` up to `high` whose profile entry is at most `limit`; `low` when
there is none above it. -/
def State.highestStage (s : State) (low high limit : Nat) : Nat :=
  (List.range (high + 1)).foldl
    (fun best x => if low ≤ x ∧ s.profileAt x ≤ limit then x else best) low

/-! ### Directions -/

/-- R120: the coach side of a single train side. -/
def coachSide (o : Orientation) (left : Bool) : Side :=
  match o with
  | .normal => if left then .a else .b
  | .reversed => if left then .b else .a

/-- R120: the coach sides a train side maps to. -/
def coachSides (o : Orientation) : TrainSide → List Side
  | .left => [coachSide o true]
  | .right => [coachSide o false]
  | .both => [.a, .b]

/-- R120: the train side of a coach side. -/
def trainSide (o : Orientation) (d : Side) : TrainSide := if coachSide o true = d then .left else .right

/-- Orientation table of 00_scope.md: the forward port. -/
def forwardOf : Orientation → Port
  | .normal => .e1
  | .reversed => .e2

/-- The rearward port. -/
def rearwardOf (o : Orientation) : Port := (forwardOf o).other

/-- R49, R50: the orientation of a node that a CALL reached on this port. -/
def orientationBy : Port → Orientation
  | .e1 => .normal
  | .e2 => .reversed

/-- R45: in CALLING and CONFIRMING a master's ports are those its inauguration record names; otherwise the
installed orientation names them. -/
def State.direction (s : State) : Orientation :=
  if s.consist.role = .master ∧ (s.consist.state = .calling ∨ s.consist.state = .confirming) then
    match s.consist.attempt with
    | some a => a.orientation
    | none => s.consist.orientation
  else s.consist.orientation

def State.forwardPort (s : State) : Port := forwardOf s.direction
def State.rearwardPort (s : State) : Port := rearwardOf s.direction

/-- R45: the orientation a master fixes at the start of an attempt. -/
def State.attemptOrientation (s : State) : Orientation :=
  if s.isUp .e1 && !s.isUp .e2 then .reversed else .normal

/-- R79: the port position `k` lies beyond. -/
def State.portToward (s : State) (k : Nat) : Port :=
  if k < s.consist.position then s.forwardPort else s.rearwardPort

/-- Where an arriving frame's selector places it (R79, R80, R82). -/
inductive Route where
  | here
  | onward
  | misrouted
deriving DecidableEq, Repr

/-- R79, R82: the route of a frame that arrived on port `p`. A node without a position treats every POSITION
as lying beyond the other port. -/
def State.route (s : State) (p : Port) (sel : Selector) : Route :=
  match sel.type with
  | .position =>
    if s.consist.position = 0 then .onward
    else if sel.value = s.consist.position then .here
    else if s.portToward sel.value = p then .misrouted
    else .onward
  | _ => .onward

/-! ### Consist -/

/-- R42: CAB_ACTIVE as the consist unit sees it. -/
def State.cab (s : State) : Bool := s.asserted .cabActive

def State.isMaster (s : State) : Bool := s.consist.role == .master

/-- A STABLE master. -/
def State.stableMaster (s : State) : Bool := s.isMaster && s.consist.state == .stable

/-- R34: a frame's epoch matches. -/
def State.epochMatches (s : State) (epoch : Nat) : Bool := epoch == s.consist.epoch && epoch != 0

/-- STABLE or SUSPECT (R78, R144, R159, R184). -/
def State.settled (s : State) : Bool := s.consist.state == .stable || s.consist.state == .suspect

/-- R76: membership in the active bank. -/
def State.inGroup (s : State) (g : Nat) : Bool := s.relay.groupsActive.getLsbD g

/-- R135, R184: the selector takes in a node at this position. -/
def State.inScope (s : State) (sel : Selector) (position : Nat) : Bool :=
  match sel.type with
  | .position => sel.value == position && position != 0
  | .group => s.inGroup sel.value
  | .all => true
  | .self => false

/-- The selector of the kinds that are routed by their owners' rules (R26). -/
def selAll : Selector := ⟨.all, 0⟩

/-- R27: a header as this node creates it, with selector ALL. -/
def State.ownHeader (s : State) (tag : Nat) : Header :=
  ⟨false, selAll, false, s.consist.epoch, s.consist.position, tag⟩

/-! ### Service action table -/

def State.service (s : State) (n : Nat) : ServiceEntry := s.relay.serviceActive.getD n ServiceEntry.powerOn

/-- R75: the queue level of a service. -/
def ServiceEntry.level (e : ServiceEntry) : Level := if e.control then .control else .bulk

/-! ### Outputs -/

/-- R93: a line change report is pending. -/
def State.reportPending (s : State) : Bool := s.lines.line.any LineRecord.reported

/-- R93: TAP_ATTN. -/
def State.tapAttn (s : State) : Bool :=
  s.bypass.node != .starting && (!s.relay.tapQueue.isEmpty || s.reportPending || s.faults.news)

/-- R104: the function is an output function. -/
def LineFunction.isOutput : LineFunction → Bool
  | .doorRelease _ | .doorClose _ | .trainDoorsClosed | .heatStage0 | .heatStage1 | .heatStage2
  | .generalOut => true
  | _ => false

/-- R104: the function is an input function. -/
def LineFunction.isInput (f : LineFunction) : Bool := !f.isOutput && f != .none

/-- R110, R125, R148, R156: the level the owner of an output function commands, `general` being the line's own
GENERAL_OUT level; other functions have none. -/
def State.ownerLevel (s : State) (general : Bool) : LineFunction → Bool
  | .doorRelease d => (s.side d).state == .released
  | .doorClose d => (s.side d).state == .closing && s.operating
  | .trainDoorsClosed => s.door.doorsClosed
  | .heatStage0 => s.heat.applied % 2 == 1
  | .heatStage1 => s.heat.applied / 2 % 2 == 1
  | .heatStage2 => s.heat.applied / 4 % 2 == 1
  | .generalOut => general
  | _ => false

/-- R110, R119: the commanded level of the function on a line, inactive outside OPERATING. -/
def State.commanded (s : State) (l : LineRecord) : Bool :=
  s.operating && s.ownerLevel l.generalOut l.entry.function

/-- R104: a logic level as an electrical level, and back. -/
def Polarity.turn (x : Polarity) (b : Bool) : Bool :=
  match x with
  | .activeHigh => b
  | .activeLow => !b

/-- R104, R110: the electrical level at which the node drives line `n`; none for a line it does not drive. -/
def State.drivenLevel (s : State) (n : Nat) : Option Bool :=
  if (s.lineAt n).entry.function.isOutput then
    some ((s.lineAt n).entry.polarity.turn (s.commanded (s.lineAt n)))
  else none

/-- R112, R119: the readback level of a line. -/
def State.readback (s : State) (l : LineRecord) : Bool :=
  if l.entry.function.isOutput then s.commanded l else l.qualified

end Sys2Proof.Machine
end

