-- ==== Sys2Proof/Machine/HeatOps.lean ====
section
/-! DEFINITION. The heat unit's shared operations: the applied stage, the feedback comparison, fallback, lockout
and the two steps of a heat walk (Heating Load Sharing). -/

namespace Sys2Proof.Machine

open Sys2Proof

/-- R170: the feedback comparison is judged; T14 starts when a mismatch begins and stops when it ends. -/
def judgeFeedback (s : State) : State :=
  if s.present .heatFeedback ∧ s.heat.lockedOut = false
      ∧ s.asserted .heatFeedback ≠ decide (0 < s.heat.applied) then
    if (s.count .t14).isSome then s else startTimer .t14 s
  else stopTimer .t14 s

/-- R156, R170: the applied stage changes; a change between 0 and above 0 is judged. -/
def setApplied (stage : Nat) (s : State) : State :=
  let s' := s.setHeat { s.heat with applied := stage }
  if decide (0 < s.heat.applied) = decide (0 < stage) then s' else judgeFeedback s'

/-- R155, R156: d_eff is worked out afresh, and the applied stage falls with it. -/
def heatRefresh (s : State) : State :=
  if s.effectiveDemand < s.heat.applied then setApplied s.effectiveDemand s else s

/-- R169: the lowest of the applied stage, the fallback stage and d_eff. -/
def State.fallbackCeiling (s : State) : Nat := min s.heat.applied (min s.heat.fallbackStage s.effectiveDemand)

/-- R168, R169: the node enters fallback; a node already in fallback is not changed. -/
def enterFallback (s : State) : State :=
  if s.heat.fallback then s
  else setApplied s.fallbackCeiling (stopTimer .t13 (s.setHeat { s.heat with fallback := true }))

/-- R166, R168: the consist state leaves STABLE and SUSPECT. -/
def heatUnsettled (s : State) : State := enterFallback (s.setHeat { s.heat with walkRecord := none })

/-- R171: LOCKED_OUT is set. -/
def lockOut (s : State) : State := stopTimer .t14 (setApplied 0 (s.setHeat { s.heat with lockedOut := true }))

/-- R160: the first grant, with `b` hu of budget and `r` coaches remaining. -/
def State.firstGrant (s : State) (b r : Nat) : Nat :=
  if r = 0 then 0 else s.highestStage 0 s.effectiveDemand (b / r)

/-- R160: the node wants more than its first grant. -/
def State.wants (s : State) (grant : Nat) : Bool := s.profileAt grant < s.profileAt s.effectiveDemand

/-- R160, steps 1 to 5: the payload after this node's outbound step. -/
def State.outboundBody (s : State) (x : HeatBody) : HeatBody :=
  let g := s.firstGrant x.budget x.remaining
  { budget := if x.remaining = 0 then x.budget else x.budget - s.profileAt g
    remaining := x.remaining - 1
    wanting := if s.wants g then min 32 (x.wanting + 1) else x.wanting
    requested := min 65535 (x.requested + s.profileAt s.effectiveDemand)
    locked := if s.heat.lockedOut then min 32 (x.locked + 1) else x.locked }

/-- R160, steps 6 to 8, with HEAT_COUNT of step 1: what the outbound step does to the node. -/
def outboundStep (walk : Nat) (x : HeatBody) (s : State) : State :=
  let g := s.firstGrant x.budget x.remaining
  let s1 := if x.remaining = 0 then recordFault .heatCount .node s else s
  let s2 := s1.setHeat { s1.heat with walkRecord := some ⟨walk, s.effectiveDemand, g, s.wants g⟩ }
  let s3 := setApplied (min s2.heat.applied g) s2
  startTimer .t13 (s3.setHeat { s3.heat with fallback := false })

/-- R163: the final grant of a node with walk record `r` on a payload. -/
def State.finalGrant (s : State) (r : WalkRecord) (x : HeatBody) : Nat :=
  if r.wanting ∧ x.wanting ≠ 0 then
    s.highestStage r.grant r.demand (s.profileAt r.grant + x.budget / x.wanting)
  else r.grant

/-- R163: the payload after this node's return step. -/
def State.returnBody (s : State) (r : WalkRecord) (x : HeatBody) : HeatBody :=
  if r.wanting ∧ x.wanting ≠ 0 then
    { x with
      budget := x.budget - (s.profileAt (s.finalGrant r x) - s.profileAt r.grant)
      wanting := x.wanting - 1 }
  else x

/-- R163: the stage a final grant comes to under d_eff and the fallback ceiling. -/
def State.cappedGrant (s : State) (grant : Nat) : Nat :=
  if s.heat.fallback then min (min grant s.effectiveDemand) s.heat.fallbackStage
  else min grant s.effectiveDemand

/-- R163: what the return step does to the node. -/
def returnStep (r : WalkRecord) (x : HeatBody) (s : State) : State :=
  let s1 := if r.wanting ∧ x.wanting = 0 then recordFault .heatCount .node s else s
  let s2 := setApplied (s1.cappedGrant (s.finalGrant r x)) s1
  s2.setHeat { s2.heat with walkRecord := none }

/-- The walk record the node holds for this walk (R162, R164). -/
def State.recordOf (s : State) (walk : Nat) : Option WalkRecord :=
  match s.heat.walkRecord with
  | some r => if r.walk = walk then some r else none
  | none => none

end Sys2Proof.Machine
end

