-- ==== Sys2Proof/Machine/DoorOps.lean ====
section
/-! DEFINITION. The door unit's operations on a coach side: release, close, local close, proof and door alerts
(Door Control, 6.2, 6.3 and 6.6). -/

namespace Sys2Proof.Machine

open Sys2Proof

def setDoorState (d : Side) (x : DoorState) (s : State) : State := s.setSide d { s.side d with state := x }

/-- R129: a side enters CLOSING, and its close timer starts. -/
def enterClosing (d : Side) (s : State) : State := startTimer (.t10 d) (setDoorState d .closing s)

/-- A side enters CLOSED; its close timer stops (R129). -/
def enterClosed (d : Side) (s : State) : State := stopTimer (.t10 d) (setDoorState d .closed s)

/-- R127, R130, R131: a side is closed: CLOSED when its proof is PROVED, CLOSING otherwise. -/
def closeSide (d : Side) (s : State) : State :=
  heatRefresh (if (s.side d).proof = .proved then enterClosed d s else enterClosing d s)

/-- R130, R131: a side in RELEASED is closed; other states are kept. -/
def closeReleased (d : Side) (s : State) : State :=
  if (s.side d).state = .released then closeSide d s else s

/-- R131: the local close of both sides. -/
def localClose (s : State) : State := closeReleased .b (closeReleased .a s)

/-- R126: a RELEASE applied to one side. -/
def applyRelease (d : Side) (s : State) : State :=
  if s.inhibited d ∨ s.consist.doors = 0 then s
  else match (s.side d).state with
    | .closed | .closing => heatRefresh (stopTimer (.t10 d) (setDoorState d .released s))
    | .released | .stuck => s

/-- R127: a CLOSE applied to one side. -/
def applyClose (d : Side) (s : State) : State :=
  match (s.side d).state with
  | .released | .stuck => closeSide d s
  | .closed | .closing => s

/-- R127: a CLOSE applied to several sides. -/
def applyCloses (l : List Side) (s : State) : State := l.foldl (fun s d => applyClose d s) s

/-- R140: the interlock goes inactive and the alert flag is set. -/
def dropInterlock (s : State) : State := s.setDoor { s.door with doorsClosed := false, alert := true }

/-- R138: the alert frame of a side, from the given position. -/
def State.alertFrame (s : State) (d : Side) (position : Nat) : Frame :=
  ⟨{ s.ownHeader 0 with origin := position },
   .doorAlert ⟨position, d, trainSide s.consist.orientation d, s.identity⟩⟩

/-- R138: a door alert is raised for a side. -/
def raiseAlert (d : Side) (s : State) : State :=
  let s1 := recordFault .doorAlertRaised (.side d) s
  let s2 := s1.setSide d { s1.side d with held := true }
  if s2.isMaster then deliver (s2.alertFrame d 1) (dropInterlock s2)
  else if s2.consist.position = 0 then s2
  else sendFrame s2.forwardPort (s2.alertFrame d s2.consist.position) s2

/-- R138: the loss of proof of this side raises an alert. -/
def State.alertDue (s : State) (d : Side) (new : Proof) : Bool :=
  (s.side d).proof == .proved && new == .notProved && (s.side d).state == .closed && !(s.side d).held
    && s.consist.doors != 0

/-- R122, R128, R138: the proof of a side changes at a notice of the line unit. -/
def proofNotice (d : Side) (new : Proof) (s : State) : State :=
  let alert := s.alertDue d new
  let s1 := s.setSide d { s.side d with proof := new, held := (s.side d).held && new != .proved }
  let s2 := if new = .proved ∧ ((s1.side d).state = .closing ∨ (s1.side d).state = .stuck)
    then enterClosed d s1 else s1
  let s3 := heatRefresh s2
  if alert then raiseAlert d s3 else s3

/-- R118, R150 and log 7: a side's proof is read from the lines without an edge. A side in CLOSING that is proved enters
CLOSED (R128); a RELEASED side that is inhibited is closed (R130). -/
def rereadSide (d : Side) (s : State) : State :=
  let s1 := s.setSide d { s.side d with proof := s.lineProof d }
  let s2 := if (s1.side d).proof = .proved ∧ (s1.side d).state = .closing then enterClosed d s1 else s1
  heatRefresh (if s2.inhibited d then closeReleased d s2 else s2)

end Sys2Proof.Machine
end

