-- ==== Sys2Proof/Machine/RelayOps.lean ====
section
/-! DEFINITION. The relay unit's shared operations on what stands in its queues: the answers it carries, the
drain of a COMMIT, the flush, and BREAK as a symbol sent (R17, R85 to R90, R191, R192). -/

namespace Sys2Proof.Machine

open Sys2Proof

/-! ### Answers (R192) -/

/-- R192: a response as this node builds it now. -/
def State.answer (s : State) (sel : Selector) (tag : Nat) (x : RspBody) : Frame :=
  ⟨{ s.ownHeader tag with sel := sel }, .mgmtRsp x⟩

/-- R192: the response to a LOCAL request, in the tap delivery queue. -/
def answerLocal (tag : Nat) (x : RspBody) (s : State) : State := deliver (s.answer ⟨.self, 0⟩ tag x) s

/-- R192: the port toward position 1 is the forward port of the installed orientation. -/
def State.answerPort (s : State) : Port := forwardOf s.consist.orientation

/-- R191, R192: the response to a TRAIN request, to the position that sent it, which is always 1. -/
def answerTrain (position tag : Nat) (x : RspBody) (s : State) : State :=
  sendFrame s.answerPort (s.answer ⟨.position, position⟩ tag x) s

/-! ### Drain (R88 to R91, R191) -/

/-- R88: a queued DATA frame whose generation tag differs from the generation. -/
def State.older (s : State) (q : Queued) : Bool :=
  match q.gen with
  | some g => g != s.relay.generation
  | none => false

/-- R88: the older frames in the queues of both ports. -/
def State.olderCount (s : State) : Nat :=
  ((s.queues .e1).frames ++ (s.queues .e2).frames).countP fun q => s.older q

/-- R191: the delayed response of a draining COMMIT. -/
def commitResponse (n : Nat) : RspBody := ⟨.ok, .commit, 0, 1, [byte n]⟩

/-- R88 to R91, R191: the drain is complete with `n` frames discarded; without an own position the response is
discarded. -/
def drainDone (n : Nat) (s : State) : State :=
  let s1 := stopTimer .t15 (s.setRelay { s.relay with draining := false })
  let s2 := s1.setMgmt { s1.mgmt with commit := none }
  match s.mgmt.commit with
  | some r => if s2.consist.position = 0 then s2 else answerTrain r.position r.request (commitResponse n) s2
  | none => s2

/-- R88: after a removal, the count of older frames is taken again. -/
def drainCheck (s : State) : State :=
  if s.relay.draining ∧ s.olderCount = 0 then drainDone 0 s else s

/-- R196: when the response of a TRAIN RESTART is among the frames that left, the restart is due. -/
def restartCheck (left : List Queued) (s : State) : State :=
  if s.mgmt.restart = .waiting ∧ left.any Queued.restart then s.setMgmt { s.mgmt with restart := .due } else s

/-- R85: what follows a removal of frames from the transmit queues. -/
def afterRemoval (left : List Queued) (s : State) : State := drainCheck (restartCheck left s)

/-- R16, R85: every frame of one port's queues is removed. -/
def emptyQueues (p : Port) (s : State) : State :=
  afterRemoval (s.queues p).frames (s.setQueues p Queues.empty)

/-! ### Flush and BREAK (R17, R18) -/

/-- R18: a frame being sent when the queues are flushed runs on, without a place in a queue. -/
def Transmitter.flushed : Transmitter → Transmitter
  | .frame l q _ => .frame l q .flushed
  | t => t

/-- The port is sending a frame (R6). -/
def Transmitter.sending : Transmitter → Bool
  | .frame .. => true
  | _ => false

/-- R17: all transmit queues of both ports are emptied, and a pending drain completes with 0 discarded. -/
def flush (s : State) : State :=
  let left := (s.queues .e1).frames ++ (s.queues .e2).frames
  let s1 := s.setRelay { s.relay with queues := ⟨Queues.empty, Queues.empty⟩ }
  let s2 := s1.setPort .e1 { s1.port .e1 with tx := (s1.port .e1).tx.flushed }
  let s3 := s2.setPort .e2 { s2.port .e2 with tx := (s2.port .e2).tx.flushed }
  let s4 := restartCheck left s3
  if s4.relay.draining then drainDone 0 s4 else s4

/-- R15: the end of a transmission that was not sent: T1 starts again in full. -/
def cutTransmission (p : Port) (s : State) : State :=
  if (s.port p).tx.sending then startTimer (.t1 p) (s.setPort p { s.port p with tx := .idle }) else s

/-- R15: a validly placed symbol restarts T1, which runs in ARRIVING, UP and FAULTED. -/
def keepAlive (p : Port) (s : State) : State :=
  if (s.port p).link = .down then s else startTimer (.t1 p) s

/-- R15: a frame is cut off before its frame end. Its bits since the latest step have restarted T1; the end itself does
not. -/
def keepAliveInFrame (p : Port) (s : State) : State :=
  if (s.port p).rx = .inFrame then keepAlive p s else s

/-- R15: a frame that began, or went on, since the latest step ends. Its START or bits have restarted T1; where all its bits
were taken before that step, T1 has run on since. -/
def keepAliveByBits (p : Port) (s : State) : State :=
  if (s.port p).rx = .bitsOver then s else keepAlive p s

/-- R2, R17: a port begins a BREAK. It cuts off what the port sends and ends its reception, whose bits have restarted
T1 (R15); the break hold-off starts (R19). The flush is made once, by `sendBreaks`. R2 and R17 do not say in which
receive condition the port is while it drives its own BREAK: that it is between frames at once is DESIGN CHOICE,
unsafe (log 35). -/
def beginBreak (p : Port) (s : State) : State :=
  let s1 := cutTransmission p (keepAliveInFrame p s)
  let s2 := s1.setPort p { s1.port p with tx := .brk, rx := .betweenFrames, assembly := [] }
  s2.setBypass { s2.bypass with holdoff := true }

/-- R17: the node begins a BREAK on each of these ports at once, with one flush (log 14). -/
def sendBreaks (l : List Port) (s : State) : State :=
  match l with
  | [] => s
  | _ => flush (l.foldl (fun s p => beginBreak p s) s)

end Sys2Proof.Machine
end

