-- ==== Sys2Proof/Machine/ConsistOps.lean ====
section
/-! DEFINITION. The consist unit's shared operations: changes of role and consist state with what the other
blocks do at them, triggers, TOPO and port reports (Consist Inauguration). -/

namespace Sys2Proof.Machine

open Sys2Proof

/-! ### Changes of consist state -/

/-- R141, R157: what the door unit and the heat unit do at a master's exit from STABLE. -/
def abandonWalks (s : State) : State :=
  let s1 := stopTimers [.t7, .t8, .t11, .t12] s
  let s2 := s1.setDoor
    { s1.door with outstanding := none, startPending := false, alert := false, doorsClosed := false }
  s2.setHeat { s2.heat with outstanding := none, startPending := false }

/-- A consist state in which the node has a current or previous consist it still serves (R166, R168). -/
def ConsistState.settled : ConsistState → Bool
  | .stable | .suspect => true
  | _ => false

/-- R131: the consist states at whose entry released sides are closed. -/
def ConsistState.closesDoors : ConsistState → Bool
  | .uninaugurated | .blocked => true
  | _ => false

/-- The role and consist state change, with the effects the other blocks give the change: the walks of a STABLE
master end (R141, R157), released sides are closed at UNINAUGURATED and BLOCKED (R131), and the heat unit drops
its walk record and enters fallback outside STABLE and SUSPECT (R166, R168). -/
def enterState (r : Role) (x : ConsistState) (s : State) : State :=
  let s1 := if s.stableMaster ∧ ¬(r = .master ∧ x = .stable) then abandonWalks s else s
  let s2 := s1.setConsist { s1.consist with role := r, state := x }
  let s3 := if x.closesDoors then localClose s2 else s2
  if x.settled then s3 else heatUnsettled s3

/-- The consist is cleared (R63, R69): table, epoch, position, orientation and both records. -/
def clearConsist (s : State) : State :=
  s.setConsist { s.consist with
    epoch := 0, position := 0, orientation := .normal, table := [], joined := none, attempt := none }

/-- The six timers of the consist unit. -/
def consistTimers : List TimerId := [.t2, .t3, .t4, .t5, .t6, .t9]

/-- R69 (and R21, R44, R74): the node enters UNINAUGURATED, as a member. -/
def enterUninaugurated (s : State) : State :=
  let s1 := stopTimers consistTimers (clearConsist s)
  enterState .member .uninaugurated (s1.setConsist { s1.consist with blocked := .none })

/-- R63: the node enters BLOCKED in its role. -/
def enterBlocked (why : BlockedReason) (s : State) : State :=
  let s1 := stopTimers consistTimers (clearConsist s)
  enterState s.consist.role .blocked (s1.setConsist { s1.consist with blocked := why })

/-- R44, R64, R65, R66: the node enters SUSPECT as a member: T9 stops and T6 starts. -/
def enterSuspect (s : State) : State := startTimer .t6 (stopTimer .t9 (enterState .member .suspect s))

/-! ### Triggers and the role -/

/-- R46: the master enters SETTLING and T2 starts. -/
def enterSettling (s : State) : State := startTimer .t2 (enterState .master .settling s)

/-- R46: the attempt in flight is abandoned. -/
def abandonAttempt (t : TimerId) (s : State) : State :=
  stopTimer t (s.setConsist { s.consist with attempt := none })

/-- R46: a trigger at a node whose role is MASTER. -/
def trigger (s : State) : State :=
  match s.consist.state with
  | .settling => startTimer .t2 s
  | .calling => enterSettling (abandonAttempt .t3 s)
  | .confirming => enterSettling (abandonAttempt .t4 s)
  | .blocked => enterSettling (s.setConsist { s.consist with blocked := .none })
  | _ => enterSettling s

/-- R42: the condition on which a member becomes MASTER. -/
def State.mayLead (s : State) : Bool := s.cab && decide (s.upPorts.length ≤ 1)

/-- R42: the member becomes MASTER, which is a trigger; in BLOCKED the reason is cleared (R46; log 21). -/
def becomeMaster (s : State) : State :=
  let s1 := stopTimers [.t5, .t6, .t9] s
  enterSettling (s1.setConsist { s1.consist with joined := none, blocked := .none })

/-- R44: the master loses the role. -/
def loseRole (s : State) : State :=
  if s.consist.state = .stable then
    let s1 := stopTimers [.t2, .t3, .t4] s
    enterSuspect (s1.setConsist { s1.consist with attempt := none, blocked := .none })
  else enterUninaugurated s

/-- R42, R44: the role is evaluated; a second port that becomes UP is judged by `portReport`. -/
def evaluateRole (s : State) : State :=
  if s.isMaster then (if s.cab then s else loseRole s)
  else if s.mayLead then becomeMaster s else s

/-- R42, R43, R44: a qualified edge on the line that carries CAB_ACTIVE. -/
def cabEdge (s : State) : State :=
  if !s.isMaster && s.cab && !s.mayLead then recordFault .cabMid .node s else evaluateRole s

/-! ### TOPO and port reports -/

/-- R70: the TOPO of a port report. -/
def State.topoFrame (s : State) (e : TopoEvent) (p : Port) : Frame := ⟨s.ownHeader 0, .topo ⟨s.identity, e, p⟩⟩

/-- R64, R70: a member's TOPO, on the forward port when STABLE and on every UP port otherwise. -/
def sendTopo (l : List Port) (f : Frame) (s : State) : State := l.foldl (fun s p => sendFrame p f s) s

/-- R70: the event a member reports: the first became UP after a restart is RESTARTED. -/
def State.reportEvent (s : State) (e : TopoEvent) : TopoEvent :=
  if e = .portUp ∧ s.consist.restartReport then .restarted else e

/-- R70: the restart report flag is cleared at the first became UP. -/
def clearRestartReport (e : TopoEvent) (s : State) : State :=
  if e = .portUp then s.setConsist { s.consist with restartReport := false } else s

/-- R64, R70: a port report at a member that it does not promote. -/
def memberReport (e : TopoEvent) (p : Port) (s : State) : State :=
  let f := s.topoFrame (s.reportEvent e) p
  let s1 := clearRestartReport e s
  if s1.consist.state = .stable then sendTopo [s1.forwardPort] f (enterSuspect s1)
  else sendTopo s1.upPorts f s1

/-- R42, R44, R46, R64, R70: the consist unit takes a port event; `e` is PORT_UP for became UP, PORT_DOWN or
PORT_FAULTED for left UP by the state the port entered. -/
def portReport (e : TopoEvent) (p : Port) (s : State) : State :=
  if s.isMaster then
    if e = .portUp ∧ s.upPorts.length = 2 then
      memberReport e p (loseRole (recordFault .cabMid .node s))
    else trigger (clearRestartReport e s)
  else if s.mayLead then becomeMaster (clearRestartReport e s)
  else memberReport e p s

end Sys2Proof.Machine
end

