-- ==== Sys2Proof/Machine/Signalling.lean ====
section
/-! DEFINITION. The width code of a coupler segment: the symbols as sent (R1), the classes of a driven width
(R3) and the place of a symbol in the stream (R4). Widths are in tenths of a microsecond. -/

namespace Sys2Proof.Machine

open Sys2Proof

/-- The five symbols of R1. -/
inductive Symbol where
  | bit1
  | bit0
  | start
  | probe
  | brk
deriving DecidableEq, Repr

/-- R1: the driven part of a symbol. -/
def Symbol.driven : Symbol → Nat
  | .bit1 => 50
  | .bit0 => 100
  | .start => 250
  | .probe => 200
  | .brk => 800

/-- R1: the released part that belongs to a symbol; PROBE and BREAK are followed by the gap rule instead. -/
def Symbol.released : Symbol → Option Nat
  | .bit1 => some 100
  | .bit0 => some 50
  | .start => some 50
  | .probe => none
  | .brk => none

/-- R1: the time a frame of `n` bytes holds the segment up to its frame end, which comes 25 µs after the driven
part of its last bit ended. -/
def frameEndTime (n : Nat) (lastBit : Bool) : Nat :=
  300 + n * 8 * 150 + (if lastBit then 150 else 200)

/-- The classes of R3. -/
inductive WidthClass where
  | glitch
  | bit1
  | bit0
  | invalid
  | probe
  | start
  | brk
deriving DecidableEq, Repr

/-- R3: the class of a driven width; each upper bound is the next window's lower bound. -/
def classify (w : Nat) : WidthClass :=
  if w < 20 then .glitch
  else if w < 75 then .bit1
  else if w < 125 then .bit0
  else if w < 175 then .invalid
  else if w < 225 then .probe
  else if w < 300 then .start
  else if w < 600 then .invalid
  else .brk

/-- What a symbol comes to in its place in the stream (R4). -/
inductive Judgement where
  | nothing
  | frameBegins
  | probeItem
  | appends (bit : Bool)
  | invalidItem
  | breakSeen
deriving DecidableEq, Repr

/-- R4: the result of a symbol class in a receive condition, and the condition after it. -/
def judgeSymbol : RxCondition → WidthClass → Judgement × RxCondition
  | .breakHeld, _ => (.nothing, .breakHeld)
  | c, .glitch => (.nothing, c)
  | _, .brk => (.breakSeen, .breakHeld)
  | .discarding, _ => (.nothing, .discarding)
  | .betweenFrames, .start => (.frameBegins, .inFrame)
  | .betweenFrames, .probe => (.probeItem, .betweenFrames)
  | .betweenFrames, _ => (.invalidItem, .discarding)
  | .inFrame, .bit1 => (.appends true, .inFrame)
  | .inFrame, .bit0 => (.appends false, .inFrame)
  | .inFrame, _ => (.invalidItem, .discarding)
  | .bitsOver, .bit1 => (.appends true, .inFrame)
  | .bitsOver, .bit0 => (.appends false, .inFrame)
  | .bitsOver, _ => (.invalidItem, .discarding)

/-- R5: the receive assembly holds at most 248 bytes. -/
def assemblyLimit : Nat := 248 * 8

end Sys2Proof.Machine
end

