-- ==== Sys2Proof/Machine/Link.lean ====
section
/-! DEFINITION. The segment controllers: link states, receiving, sending and BREAK, and the commands that are
events on a coupler segment (Coupler Segments and the Width Code, 1.2 to 1.5). -/

namespace Sys2Proof.Machine

open Sys2Proof

/-! ### Link state operations -/

/-- R11: a port enters DOWN; a frame being sent is cut off (R16). R11, R15 and R16 do not say whether a PROBE or a BREAK
being driven is cut off too; that the transmitter is idle then is DESIGN CHOICE, unsafe (log 41). -/
def takeDown (p : Port) (s : State) : State :=
  stopTimer (.t1 p) (s.setPort p { s.port p with
    link := .down, arrival := 0, score := 0, rx := .betweenFrames, assembly := [], tx := .idle })

/-- R16: the port enters UP and became UP is reported. -/
def becomeUp (p : Port) (s : State) : State :=
  portReport .portUp p (s.setPort p { s.port p with link := .up, score := 0 })

/-- R11 to R14: a valid item, other than a valid frame in UP. A PROBE leaves the score of an UP port as it is. -/
def validItem (p : Port) (s : State) : State :=
  let x := s.port p
  match x.link with
  | .down => startTimer (.t1 p) (s.setPort p { x with link := .arriving, arrival := 1 })
  | .arriving =>
    let s1 := s.setPort p { x with arrival := min 4 (x.arrival + 1) }
    if 4 ≤ x.arrival + 1 then becomeUp p s1 else s1
  | .up => s
  | .faulted =>
    let s1 := s.setPort p { x with score := x.score - 1 }
    if x.score - 1 = 0 then becomeUp p s1 else s1

/-- R13, R16: an UP port enters FAULTED: the fault, the frame being sent cut off, the queues emptied, and left UP
reported. The emptying may complete a drain whose response records QUEUE_FULL on the other port (R88, R191); that
PORT_FAULTED is recorded before it is DESIGN CHOICE, unsafe (log 13). -/
def enterFaulted (p : Port) (s : State) : State :=
  let s1 := recordFault .portFaulted (.port p) s
  let s2 := cutTransmission p (s1.setPort p { s1.port p with link := .faulted })
  portReport .portFaulted p (emptyQueues p s2)

/-- R11 to R14: an invalid item. -/
def invalidItem (p : Port) (s : State) : State :=
  let x := s.port p
  match x.link with
  | .down => s
  | .arriving => s.setPort p { x with arrival := 0 }
  | .up =>
    let s1 := s.setPort p { x with score := min 255 (x.score + 8) }
    if 96 ≤ min 255 (x.score + 8) then enterFaulted p s1 else s1
  | .faulted => s.setPort p { x with score := min 255 (x.score + 8) }

/-- R16: the queues of a port that left UP by silence are emptied and left UP is reported. -/
def silenceUp (p : Port) (s : State) : State := portReport .portDown p (emptyQueues p (takeDown p s))

/-! ### Receiving -/

/-- R4, R8: the port can take symbols of the partner as a receiver: it runs and sends no frame. -/
def State.receives (s : State) (p : Port) : Bool := s.portsRun && !(s.port p).tx.sending

/-- R4: a frame's START can be, or has been, taken. -/
def RxCondition.open : RxCondition → Bool
  | .betweenFrames | .inFrame | .bitsOver => true
  | _ => false

/-- R4: the receive condition changes; the receive assembly is emptied. -/
def setRx (p : Port) (x : RxCondition) (s : State) : State :=
  s.setPort p { s.port p with rx := x, assembly := [] }

/-- R4, R15: a port that is in a frame as the timebase steps, in this form of the receive condition. -/
def hearAtStep (p : Port) (x : RxCondition) (s : State) : State :=
  if (s.port p).rx.open then keepAlive p (s.setPort p { s.port p with rx := x }) else s

/-- R4, R15: a port as the timebase steps. The START or the bits it took since the last step have kept T1 at its full
period, whatever ended their frame; a port whose frame has not ended is in it. While the port sends a frame it takes no
symbol of the partner, and T1 is stopped. -/
def midFrame (p : Port) (r : Reception) (s : State) : State :=
  if s.receives p then
    match r with
    | .none => s
    | .ended => keepAlive p s
    | .underWay => hearAtStep p .inFrame s
    | .bitsOver => hearAtStep p .bitsOver s
  else s

/-- R4, R15: both ports as the timebase steps. -/
def receiveAtStep (now : Instant) (s : State) : State :=
  midFrame .e2 now.onE2 (midFrame .e1 now.onE1 s)

/-- R13: a valid frame in UP lowers the error score. -/
def scoreFrame (p : Port) (s : State) : State :=
  s.setPort p { s.port p with score := (s.port p).score - 1 }

/-- R5, R11 to R14, R32, R33: a frame that passed the CRC, length and kind checks reaches its frame end. If its form
is correct it is a valid frame: in UP it is handed to its owner (`handle`), otherwise it is counted and discarded.
If not, it is an invalid item. -/
def frameArrives (p : Port) (f : Frame) (handle : State → State) (s : State) : State :=
  if s.receives p && (s.port p).rx.open then
    let s1 := setRx p .betweenFrames (keepAliveByBits p s)
    if f.formOk then
      if s1.isUp p then handle (scoreFrame p s1) else validItem p s1
    else invalidItem p s1
  else s

/-! ### Commands -/

/-- PROBE_INTERVAL_EXPIRY (R10): T0 of a port has run out; the probe due flag is set. -/
def execProbeIntervalExpiry (p : Port) (s : State) : Host.Outcome State Fault Refusal :=
  .next (if s.ranOut (.t0 p) then
    let s1 := takeExpiry (.t0 p) s
    s1.setPort p { s1.port p with probeDue := true }
  else s)

/-- R10: the port is between frames and not sending. -/
def State.idlePort (s : State) (p : Port) : Bool :=
  s.portsRun && (s.port p).rx == .betweenFrames && !(s.port p).tx.sending

/-- PROBE_SEND (R10): with the flag set, the controller idle and nothing queued, a PROBE is sent. -/
def execProbeSend (p : Port) (s : State) : Host.Outcome State Fault Refusal :=
  .next (if s.idlePort p && (s.port p).probeDue && (s.queues p).frames.isEmpty then
    s.setPort p { s.port p with tx := .probe, probeDue := false }
  else s)

/-- FRAME_BEGIN (R6): the port begins the head of its highest queue that is not empty; T1 stops (R15) and the probe
due flag is cleared (R10). -/
def execFrameBegin (p : Port) (s : State) : Host.Outcome State Fault Refusal :=
  .next (if s.idlePort p && s.isUp p then
    match (s.queues p).offer with
    | some (l, q) =>
      stopTimer (.t1 p) (s.setPort p { s.port p with tx := .frame l q .queued, probeDue := false })
    | none => s
  else s)

/-- The head of a queue is removed (R9, R89). -/
def dropHead (p : Port) (l : Level) (s : State) : State :=
  s.setQueues p ((s.queues p).set l ((s.queues p).get l).tail)

/-- ARBITRATION_LOST (R8): the transmitter lost at the bit 1 with index `place`; it becomes the receiver, its assembly
holding the bits both ends sent and the partner's bit 0. The frame stays at the head of its queue, unless R89 left it
there only to run to its end. T1 starts again (R15). -/
def execArbitrationLost (p : Port) (place : Nat) (s : State) : Host.Outcome State Fault Refusal :=
  .next (match (s.port p).tx with
    | .frame l q how =>
      if s.portsRun && (bitsOf q.frame.bytes)[place]? == some true then
        let s1 := startTimer (.t1 p) (s.setPort p { s.port p with
          tx := .idle, rx := .inFrame, assembly := (bitsOf q.frame.bytes).take place ++ [false] })
        if how = .doomed then afterRemoval [q] (dropHead p l s1) else s1
      else s
    | _ => s)

/-- FRAME_SENT (R9): the frame is removed from its queue, if a flush has not done so, and T1 starts again (R15). -/
def execFrameSent (p : Port) (s : State) : Host.Outcome State Fault Refusal :=
  .next (match (s.port p).tx with
    | .frame l q how =>
      if s.portsRun then
        let s1 := startTimer (.t1 p) (s.setPort p { s.port p with tx := .idle })
        if how = .flushed then s1 else afterRemoval [q] (dropHead p l s1)
      else s
    | _ => s)

/-- R4: what a symbol class that can be an item comes to at a receiver. An invalid width does not restart T1, but the
bits of the frame that it aborts have (R15). -/
def symbolItem (p : Port) (c : WidthClass) (s : State) : State :=
  if s.receives p then
    match judgeSymbol (s.port p).rx c with
    | (.probeItem, _) => validItem p (keepAlive p s)
    | (.invalidItem, x) => invalidItem p (setRx p x (keepAliveInFrame p s))
    | _ => s
  else s

/-- PROBE_RECEIVED (R4, R10): a width of the PROBE class. An interval that holds the controller's own PROBE yields no
item. -/
def execProbeReceived (x : Interval) (s : State) : Host.Outcome State Fault Refusal :=
  .next (if x.own then s else symbolItem x.port .probe s)

/-- R32: BAD_KIND is recorded in UP and FAULTED for a frame that arrived intact and names no valid kind. -/
def recordBadKind (p : Port) (why : FrameFailure) (s : State) : State :=
  if why = .kind ∧ ((s.port p).link = .up ∨ (s.port p).link = .faulted) then
    recordFault .badKind (.port p) s
  else s

/-- R4, R5, R15: a reception that ends without a valid frame, leaving the receive condition `x`; `alive` is what it has
done to T1. Where a frame of an invalid
kind also brings the score of an UP port to 96, R13, R32 and R201 do not say which of BAD_KIND and PORT_FAULTED is
recorded first; that BAD_KIND is, is DESIGN CHOICE, unsafe (log 13). -/
def badReception (alive : State → State) (p : Port) (x : RxCondition) (why : FrameFailure) (s : State) : State :=
  if s.receives p && (s.port p).rx.open then
    invalidItem p (recordBadKind p why (setRx p x (alive s)))
  else s

/-- INVALID_ITEM (R4, R5, R15, R32). A lone bit and an invalid width are judged in their place in the stream; an aborted or
overlong frame leaves the controller discarding; a frame that fails its checks has reached its frame end. What makes a
frame overlong is itself a bit in a frame, and restarts T1. -/
def execInvalidItem (p : Port) (cause : InvalidCause) (s : State) : Host.Outcome State Fault Refusal :=
  .next (match cause with
    | .loneBit => symbolItem p .bit1 s
    | .invalidWidth => symbolItem p .invalid s
    | .abortedFrame => badReception (keepAliveByBits p) p .discarding .partialByte s
    | .overlongFrame => badReception (keepAlive p) p .discarding .length s
    | .badFrame why => badReception (keepAliveByBits p) p .betweenFrames why s)

/-- RETURN_BETWEEN_FRAMES (R4): a receiver that is discarding, or that has classified a BREAK, is between frames
again. -/
def execReturnBetweenFrames (p : Port) (s : State) : Host.Outcome State Fault Refusal :=
  .next (if s.portsRun && ((s.port p).rx == .discarding || (s.port p).rx == .breakHeld) then
    setRx p .betweenFrames s
  else s)

/-- R19: the ports on which a BREAK received on `p` is repeated. -/
def State.repeatPorts (s : State) (p : Port) : List Port :=
  if s.isUp p.other && !s.bypass.holdoff then [p.other] else []

/-- R65: a STABLE member that is told of a BREAK becomes SUSPECT. -/
def breakTold (s : State) : State :=
  if s.isMaster then s else if s.consist.state = .stable then enterSuspect s else s

/-- R18, R19: a BREAK classified on a port that is not DOWN. The repeat on the other port is begun before the one
flush, so that the response of a drain the flush completes stays queued (R90; log 14). -/
def takeBreak (p : Port) (s : State) : State :=
  let s1 := startTimer (.t1 p) (setRx p .breakHeld (cutTransmission p s))
  let s2 := (s1.repeatPorts p).foldl (fun s q => beginBreak q s) s1
  breakTold (flush s2)

/-- R3, R11, R18: a BREAK classified on the port has its effects: not in DOWN, and not while the rest of one already
classified is still driven. R11 ignores a BREAK on a DOWN port, whereas R4's last row has any BREAK empty the receive
assembly and lead to between frames. That a DOWN port in a frame or discarding keeps its receive condition and its
assembly is DESIGN CHOICE, unsafe (log 38). -/
def State.takesBreak (s : State) (p : Port) : Bool :=
  s.portsRun && (s.port p).link != .down && (s.port p).rx != .breakHeld

/-- BREAK_RECEIVED (R3, R18). An interval in which the controller itself began a BREAK is not classified (R3). -/
def execBreakReceived (x : Interval) (s : State) : Host.Outcome State Fault Refusal :=
  .next (if !x.own && s.takesBreak x.port then takeBreak x.port s else s)

/-- BREAK_HOLDOFF_END (R19): the break hold-off becomes clear. -/
def execBreakHoldoffEnd (s : State) : Host.Outcome State Fault Refusal :=
  .next (s.setBypass { s.bypass with holdoff := false })

/-- LINK_SILENCE_TIMEOUT (R15): T1 of a port has run out; the port enters DOWN. The emptying of its queues may complete a
drain whose response records QUEUE_FULL on the other port (R88, R191); that PORT_LOST is recorded before it is DESIGN
CHOICE, unsafe (log 13). -/
def execLinkSilenceTimeout (p : Port) (s : State) : Host.Outcome State Fault Refusal :=
  .next (if s.portsRun && s.ranOut (.t1 p) then
    match (s.port p).link with
    | .up => silenceUp p (recordFault .portLost (.port p) s)
    | .faulted => takeDown p (recordFault .portLost (.port p) s)
    | _ => takeDown p s
  else s)

end Sys2Proof.Machine
end

