-- ==== Sys2Proof/Machine/Walks.lean ====
section
/-! DEFINITION. The master's two walks: how a summary walk (Door Control, 6.7) and a heat walk (Heating Load
Sharing, 7.3) start, and what the master does with the frame that comes back. -/

namespace Sys2Proof.Machine

open Sys2Proof

/-! ### Summary walk -/

/-- R142: the payload with which a summary walk begins. R37 and R142 give its spare bits no value: 0 is DESIGN CHOICE,
unsafe (log 36). -/
def sumInitial : SumBody := ⟨0, true, false, false, 0, 0, 0, 0⟩

/-- R37: the fault mask bit of a position; position 0 has none (log 27). -/
def positionBit (k : Nat) : BitVec 32 := if k = 0 then 0 else 1#32 <<< (k - 1)

/-- R143: the number of sides in RELEASED. -/
def State.releasedSides (s : State) : Nat :=
  flag ((s.side .a).state == .released) + flag ((s.side .b).state == .released)

/-- R143: either side is STUCK. -/
def State.anyStuck (s : State) : Bool := (s.side .a).state == .stuck || (s.side .b).state == .stuck

/-- R143: this node's contribution to a SUM. -/
def State.contribute (s : State) (x : SumBody) : SumBody :=
  { x with
    contributions := min 32 (x.contributions + 1)
    allClosed := x.allClosed && s.bothClosed
    suspect := x.suspect || s.consist.state == .suspect
    stuck := x.stuck || s.anyStuck
    released := x.released + s.releasedSides
    firstNotProved :=
      if x.firstNotProved = 0 ∧ s.bothClosed = false then s.consist.position else x.firstNotProved
    faultMask := if s.faults.news then x.faultMask ||| positionBit s.consist.position else x.faultMask }

/-- R27, R142: the frame of a walk as its master creates it, in either phase. -/
def State.walkFrame (s : State) (back : Bool) (walk : Nat) (b : Body) : Frame :=
  ⟨{ s.ownHeader walk with phase := back, origin := 1 }, b⟩

/-- R146: what the master sees in a result that makes it doubt its consist. -/
def State.summaryDoubt (s : State) (x : SumBody) : Bool :=
  x.suspect || x.contributions != s.consist.table.length

/-- R146, step 1: the level of the interlock after a result. -/
def State.interlockAfter (s : State) (x : SumBody) : Bool :=
  x.contributions == s.consist.table.length && x.allClosed && !x.suspect && !s.door.alert

/-- R146, steps 1 to 3: a summary walk ends with the result `x`, delivered as the frame `f`. -/
def takeSummary (f : Frame) (x : SumBody) (s : State) : State :=
  let s1 := stopTimer .t8 (s.setDoor { s.door with outstanding := none, doorsClosed := s.interlockAfter x })
  let s2 := deliver f s1
  if s.summaryDoubt x then trigger s2 else s2

/-- R142, step 1 and 2: a new walk number is outstanding, and the alert flag is cleared. -/
def numberSummaryWalk (s : State) : State :=
  s.setDoor { s.door with walk := next256 s.door.walk, outstanding := some (next256 s.door.walk), alert := false }

/-- R142: a summary walk starts. A master with no UP port takes the result at once. -/
def startSummaryWalk (s : State) : State :=
  let s1 := numberSummaryWalk s
  let x := s1.contribute sumInitial
  let s2 := startTimer .t8 s1
  if s2.upPorts.isEmpty then takeSummary (s2.walkFrame true s1.door.walk (.sum x)) x s2
  else sendFrame s2.rearwardPort (s2.walkFrame false s1.door.walk (.sum x)) s2

/-- R141, R146, R147: when a walk ends, the next one starts if its start is pending and the master is STABLE. -/
def nextSummaryWalk (s : State) : State :=
  if s.door.startPending && s.stableMaster then
    startSummaryWalk (s.setDoor { s.door with startPending := false })
  else s

/-! ### Heat walk -/

/-- R158, step 2: the payload with which a heat walk begins. -/
def State.heatInitial (s : State) : HeatBody := ⟨s.heat.supplyLimit, s.consist.table.length, 0, 0, 0⟩

/-- R163, R164: the master's own return step on a payload, if it holds the record of this walk. -/
def masterReturn (walk : Nat) (x : HeatBody) (s : State) : HeatBody × State :=
  match s.recordOf walk with
  | some r => (s.returnBody r x, returnStep r x s)
  | none => (x, s)

/-- R164: a heat walk ends with its return, in the frame with header `h` and payload `x`. -/
def takeHeat (h : Header) (x : HeatBody) (s : State) : State :=
  let s1 := stopTimer .t12 (s.setHeat { s.heat with outstanding := none })
  let r := masterReturn h.tag x s1
  deliver ⟨h, .heat r.1⟩ r.2

/-- R158, step 1: a new walk number is outstanding. -/
def numberHeatWalk (s : State) : State :=
  s.setHeat { s.heat with walk := next256 s.heat.walk, outstanding := some (next256 s.heat.walk) }

/-- R158: a heat walk starts. A master with no UP port takes it as returned at once. -/
def startHeatWalk (s : State) : State :=
  let s1 := numberHeatWalk s
  let x := s1.outboundBody s1.heatInitial
  let s2 := startTimer .t12 (outboundStep s1.heat.walk s1.heatInitial s1)
  if s2.upPorts.isEmpty then takeHeat (s2.walkFrame true s1.heat.walk (.heat x)).header x s2
  else sendFrame s2.rearwardPort (s2.walkFrame false s1.heat.walk (.heat x)) s2

/-- R157, R164, R165: when a walk ends, the next one starts if its start is pending and the master is STABLE. -/
def nextHeatWalk (s : State) : State :=
  if s.heat.startPending && s.stableMaster then
    startHeatWalk (s.setHeat { s.heat with startPending := false })
  else s

/-! ### Entry of a master to STABLE -/

/-- R91: groups 8 to 15 are cleared in both banks. -/
def clearConsistGroups (s : State) : State :=
  s.setRelay { s.relay with
    groupsActive := s.relay.groupsActive &&& 0x00FF#16, groupsStaged := s.relay.groupsStaged &&& 0x00FF#16 }

/-- R141, R157: a master that has entered STABLE starts its periods and its first walks. -/
def startWalks (s : State) : State :=
  let s1 := startSummaryWalk (startTimer .t7 s)
  if s1.stableMaster then startHeatWalk (startTimer .t11 s1) else s1

/-- R48, R61: a master installs the consist of its attempt and enters STABLE. -/
def installMaster (epoch : Nat) (o : Orientation) (list : List Entry) (s : State) : State :=
  let s1 := s.setConsist { s.consist with
    table := list, epoch := epoch, position := 1, orientation := o, attempt := none }
  startWalks (enterState .master .stable (clearConsistGroups s1))

end Sys2Proof.Machine
end

