-- ==== Sys2Proof/Machine/Consist.lean ====
section
/-! DEFINITION. The commands of the consist unit: its frames (ROLL, CONFIRM, TOPO) and the expiries of T2 to T6
and T9 (Consist Inauguration). -/

namespace Sys2Proof.Machine

open Sys2Proof

/-! ### Attempts (R45 to R48, R62) -/

/-- R49: a link state as an entry shows it. -/
def LinkState.farPort : LinkState → FarPort
  | .down | .arriving => .down
  | .up => .up
  | .faulted => .faulted

/-- R49: this node's entry, oriented as given, with the link state of the port `far`. R36 and R49 give the spare bits of
a created entry no value: 0 is DESIGN CHOICE, unsafe (log 36). -/
def State.ownEntry (s : State) (o : Orientation) (far : Port) : Entry :=
  { identity := s.identity
    orientation := o
    cabActive := s.isMaster
    cabMid := !s.isMaster && s.cab
    farPort := (s.port far).link.farPort
    spareLow := 0
    coachClass := s.consist.coachClass
    spareBit := false
    doors := s.consist.doors }

/-- R49: the master's own entry in its own roll call. -/
def State.masterEntry (s : State) (o : Orientation) : Entry := s.ownEntry o (forwardOf o)

/-- R27, R28: a header the master's consist unit creates for an attempt. -/
def attemptHeader (epoch attempt : Nat) : Header := ⟨false, selAll, false, epoch, 1, attempt⟩

/-- R47, step 3: the ROLL CALL of an attempt. Its spare bit (byte 4, bit 6) is 0: DESIGN CHOICE, unsafe (log 36). -/
def State.callFrame (s : State) (epoch attempt : Nat) (o : Orientation) : Frame :=
  ⟨attemptHeader epoch attempt, .roll ⟨s.identity, false, false, [s.masterEntry o]⟩⟩

/-- R47, R62: an attempt begins: the record, the BREAK, the CALL, T3 and CALLING. -/
def startAttempt (epoch attempt : Nat) (s : State) : State :=
  let o := s.attemptOrientation
  let s1 := s.setConsist { s.consist with attempt := some ⟨epoch, attempt, o, [], s.masterEntry o⟩ }
  let s2 := sendBreaks [rearwardOf o] s1
  let s3 := sendFrame (rearwardOf o) (s.callFrame epoch attempt o) s2
  enterState .master .calling (startTimer .t3 s3)

/-- R48: the attempt of a master with no UP port completes at once. -/
def oneCoachAttempt (s : State) : State :=
  installMaster (nextEpoch s.consist.epoch) .normal [s.masterEntry .normal] s

/-- R47, R48: a master in SETTLING takes the expiry of T2. -/
def settle (s : State) : State :=
  if s.upPorts.isEmpty then oneCoachAttempt s else startAttempt (nextEpoch s.consist.epoch) 1 s

/-- R62: the attempt in flight has timed out. -/
def attemptTimeout (s : State) : State :=
  match s.consist.attempt with
  | some a =>
    if a.attempt < 3 then startAttempt a.epoch (a.attempt + 1) s
    else enterBlocked .noReturn (recordFault .inaugurationFailed .node s)
  | none => s

/-- SETTLE_EXPIRY (R47, R48): T2 has run out. -/
def execSettleExpiry (s : State) : Host.Outcome State Fault Refusal :=
  .next (if s.ranOut .t2 then
    let s1 := takeExpiry .t2 s
    if s1.isMaster ∧ s1.consist.state = .settling then settle s1 else s1
  else s)

/-- CALL_TIMEOUT (R62): T3 has run out. -/
def execCallTimeout (s : State) : Host.Outcome State Fault Refusal :=
  .next (if s.ranOut .t3 then
    let s1 := takeExpiry .t3 s
    if s1.isMaster ∧ s1.consist.state = .calling then attemptTimeout s1 else s1
  else s)

/-- CONFIRM_TIMEOUT (R62): T4 has run out. -/
def execConfirmTimeout (s : State) : Host.Outcome State Fault Refusal :=
  .next (if s.ranOut .t4 then
    let s1 := takeExpiry .t4 s
    if s1.isMaster ∧ s1.consist.state = .confirming then attemptTimeout s1 else s1
  else s)

/-- PENDING_TIMEOUT (R68): T5 has run out. -/
def execPendingTimeout (s : State) : Host.Outcome State Fault Refusal :=
  .next (if s.ranOut .t5 then
    let s1 := takeExpiry .t5 s
    if s1.consist.state = .inaugurating then enterUninaugurated s1 else s1
  else s)

/-- SUSPECT_TIMEOUT (R67): T6 has run out. -/
def execSuspectTimeout (s : State) : Host.Outcome State Fault Refusal :=
  .next (if s.ranOut .t6 then
    let s1 := takeExpiry .t6 s
    if s1.consist.state = .suspect then enterUninaugurated s1 else s1
  else s)

/-- MASTER_SILENCE_TIMEOUT (R66): T9 has run out. -/
def execMasterSilenceTimeout (s : State) : Host.Outcome State Fault Refusal :=
  .next (if s.ranOut .t9 then
    let s1 := takeExpiry .t9 s
    if !s1.isMaster ∧ s1.consist.state = .stable then enterSuspect s1 else s1
  else s)

/-! ### ROLL (R49 to R54) -/

/-- R50 to R61: a frame of an attempt fails its matching checks. -/
def mismatch (p : Port) (s : State) : State := recordFault .rollMismatch (.port p) s

/-- A frame of two phases, turned to its second (R50, R144, R161). -/
def turned (h : Header) : Header := { h with phase := true }

/-- R50, step 2: the pending record a CALL gives. -/
def joinedBy (p : Port) (h : Header) (x : RollBody) : Joined :=
  ⟨h.epoch, x.master, h.tag, x.entries.length + 1, orientationBy p⟩

/-- R49, R50, R52: the roll with this node's entry appended. -/
def State.appended (s : State) (p : Port) (x : RollBody) : RollBody :=
  { x with entries := x.entries ++ [s.ownEntry (orientationBy p) p.other] }

/-- R50, steps 2 and 3: the member joins the attempt. -/
def joinAttempt (j : Joined) (s : State) : State :=
  let s1 := stopTimers [.t6, .t9] (s.setConsist { s.consist with joined := some j, blocked := .none })
  startTimer .t5 (enterState .member .inaugurating s1)

/-- R51, R52: the roll turned back with the overflow flag set. -/
def overflowed (x : RollBody) : RollBody := { x with overflow := true }

/-- R49 to R52: a ROLL CALL reaches the consist unit. -/
def takeRollCall (p : Port) (h : Header) (x : RollBody) (s : State) : State :=
  if s.isMaster then
    if x.master = s.identity then mismatch p s
    else if x.entries.length < 32 then sendFrame p ⟨turned h, .roll (s.appended p x)⟩ s
    else sendFrame p ⟨turned h, .roll (overflowed x)⟩ s
  else if x.entries.length < 32 then
    let f : Body := .roll (s.appended p x)
    let s1 := joinAttempt (joinedBy p h x) s
    if s1.isUp p.other then sendFrame p.other ⟨h, f⟩ s1 else sendFrame p ⟨turned h, f⟩ s1
  else sendFrame p ⟨turned h, .roll (overflowed x)⟩ s

/-- The entry at a position of a list (R53, R56). -/
def entryAt (l : List Entry) (position : Nat) : Option Entry := if position = 0 then none else l[position - 1]?

/-- The entry at this position carries this identity (R53). -/
def namesAt (l : List Entry) (position : Nat) (i : Identity) : Bool :=
  match entryAt l position with
  | some e => e.identity == i
  | none => false

/-- R53: a ROLL BACK matches the pending record. -/
def State.backMatches (s : State) (p : Port) (h : Header) (x : RollBody) (j : Joined) : Bool :=
  h.epoch == j.epoch && x.master == j.master && h.tag == j.attempt && p == rearwardOf j.orientation
    && decide (j.position ≤ x.entries.length) && namesAt x.entries j.position s.identity

/-- R54: a master in CALLING accepts a ROLL BACK, whose list begins with the entry its CALL carried (log 20). -/
def State.callReturned (s : State) (p : Port) (h : Header) (x : RollBody) (a : Attempt) : Bool :=
  s.consist.state == .calling && p == s.rearwardPort && h.epoch == a.epoch && x.master == s.identity
    && h.tag == a.attempt && entryAt x.entries 1 == some a.own

/-- R54: the result of a returned list. -/
def rollResult (x : RollBody) : ConfirmResult :=
  if x.overflow then .overlong
  else if x.entries.tail.any (fun e => e.cabActive || e.cabMid) then .conflict
  else if (x.entries.map Entry.identity).Nodup then .ok
  else .duplicate

/-- R55, R63: a result other than OK as a blocked reason. -/
def blockReason : ConfirmResult → BlockedReason
  | .ok => .none
  | .overlong => .overlong
  | .conflict => .conflict
  | .duplicate => .duplicate

/-- R54, R55: the master takes the returned list, forms the result and sends the CONFIRM OUT. -/
def acceptBack (a : Attempt) (x : RollBody) (s : State) : State :=
  let s1 := stopTimer .t3 (s.setConsist { s.consist with attempt := some { a with returned := x.entries } })
  let f : Frame := ⟨attemptHeader a.epoch a.attempt, .confirmOut ⟨rollResult x, s.identity, x.entries⟩⟩
  let s2 := sendFrame s1.rearwardPort f s1
  if rollResult x = .ok then startTimer .t4 (enterState .master .confirming s2)
  else enterBlocked (blockReason (rollResult x)) s2

/-- R53 to R55: a ROLL BACK reaches the consist unit. -/
def takeRollBack (p : Port) (h : Header) (x : RollBody) (s : State) : State :=
  if s.isMaster then
    match s.consist.attempt with
    | some a => if s.callReturned p h x a then acceptBack a x s else mismatch p s
    | none => mismatch p s
  else
    match s.consist.joined with
    | some j => if s.backMatches p h x j then sendFrame (forwardOf j.orientation) ⟨h, .roll x⟩ s else mismatch p s
    | none => mismatch p s

/-! ### CONFIRM (R55 to R61) -/

/-- R56: a CONFIRM OUT with result OK matches the pending record. -/
def State.confirmMatches (s : State) (p : Port) (h : Header) (x : ConfirmBody) (j : Joined) : Bool :=
  h.epoch == j.epoch && x.master == j.master && h.tag == j.attempt && p == forwardOf j.orientation
    && decide (j.position ≤ x.entries.length)
    && match entryAt x.entries j.position with
      | some e => e.identity == s.identity && e.orientation == j.orientation
      | none => false

/-- R56: the member installs the consist. -/
def installMember (j : Joined) (list : List Entry) (s : State) : State :=
  let s1 := s.setConsist { s.consist with
    table := list, epoch := j.epoch, position := j.position, orientation := j.orientation, joined := none
    blocked := .none }
  clearConsistGroups (enterState .member .stable (startTimer .t9 (stopTimer .t5 s1)))

/-- R57: the CONFIRM DONE of the last coach. -/
def State.doneFrame (s : State) (attempt : Nat) (master : Identity) : Frame :=
  ⟨{ s.ownHeader attempt with phase := true }, .confirmDone master⟩

/-- R57: what the member does with the frame after installing. -/
def passConfirm (h : Header) (x : ConfirmBody) (s : State) : State :=
  if s.isUp s.rearwardPort then sendFrame s.rearwardPort ⟨h, .confirmOut x⟩ s
  else if s.consist.position = x.entries.length then sendFrame s.forwardPort (s.doneFrame h.tag x.master) s
  else s

/-- R56 to R59: a CONFIRM OUT reaches the consist unit. -/
def takeConfirmOut (p : Port) (h : Header) (x : ConfirmBody) (s : State) : State :=
  if s.isMaster then
    if x.result ≠ .ok ∧ x.master ≠ s.identity then enterBlocked (blockReason x.result) s else mismatch p s
  else if x.result = .ok then
    match s.consist.joined with
    | some j =>
      if s.confirmMatches p h x j then passConfirm h x (installMember j x.entries s) else mismatch p s
    | none => mismatch p s
  else sendFrame p.other ⟨h, .confirmOut x⟩ (enterBlocked (blockReason x.result) s)

/-- R60: a STABLE member relays this CONFIRM DONE. -/
def State.doneRelayed (s : State) (p : Port) (h : Header) : Bool :=
  s.consist.state == .stable && s.consist.epoch == h.epoch && p == s.rearwardPort

/-- R61: a master in CONFIRMING accepts this CONFIRM DONE. -/
def State.doneAccepted (s : State) (p : Port) (h : Header) (master : Identity) (a : Attempt) : Bool :=
  s.consist.state == .confirming && p == s.rearwardPort && h.epoch == a.epoch && h.tag == a.attempt
    && master == s.identity

/-- R60, R61: a CONFIRM DONE reaches the consist unit. -/
def takeConfirmDone (p : Port) (h : Header) (master : Identity) (s : State) : State :=
  if s.isMaster then
    match s.consist.attempt with
    | some a =>
      if s.doneAccepted p h master a then installMaster a.epoch a.orientation a.returned (stopTimer .t4 s)
      else mismatch p s
    | none => mismatch p s
  else if s.doneRelayed p h then sendFrame s.forwardPort ⟨h, .confirmDone master⟩ s
  else mismatch p s

/-! ### TOPO (R71) -/

/-- R71: a TOPO reaches the consist unit. -/
def takeTopo (p : Port) (f : Frame) (s : State) : State :=
  if s.isMaster then deliver f (trigger s) else sendFrame p.other f s

/-! ### Commands -/

/-- The header of a frame whose row fixes its phase (R25). -/
def inPhase (back : Bool) (h : Header) : Header := { h with phase := back }

/-- ROLL_CALL (R50 to R52). -/
def execRollCall (p : Port) (h : Header) (x : RollBody) (s : State) : Host.Outcome State Fault Refusal :=
  .next (frameArrives p ⟨inPhase false h, .roll x⟩ (takeRollCall p (inPhase false h) x) s)

/-- ROLL_BACK (R53 to R55). -/
def execRollBack (p : Port) (h : Header) (x : RollBody) (s : State) : Host.Outcome State Fault Refusal :=
  .next (frameArrives p ⟨inPhase true h, .roll x⟩ (takeRollBack p (inPhase true h) x) s)

/-- CONFIRM_OUT (R56 to R59). -/
def execConfirmOut (p : Port) (h : Header) (x : ConfirmBody) (s : State) : Host.Outcome State Fault Refusal :=
  .next (frameArrives p ⟨inPhase false h, .confirmOut x⟩ (takeConfirmOut p (inPhase false h) x) s)

/-- CONFIRM_DONE (R60, R61). -/
def execConfirmDone (p : Port) (h : Header) (master : Identity) (s : State) : Host.Outcome State Fault Refusal :=
  .next (frameArrives p ⟨inPhase true h, .confirmDone master⟩ (takeConfirmDone p (inPhase true h) master) s)

/-- TOPO (R71). -/
def execTopo (p : Port) (h : Header) (x : TopoBody) (s : State) : Host.Outcome State Fault Refusal :=
  .next (frameArrives p ⟨h, .topo x⟩ (takeTopo p ⟨h, .topo x⟩) s)

end Sys2Proof.Machine
end

