-- ==== Sys2Proof/Machine/Doors.lean ====
section
/-! DEFINITION. The commands of the door unit: door commands, alerts and summary walks from the train, and the
expiries of T7, T8 and T10 (Door Control). -/

namespace Sys2Proof.Machine

open Sys2Proof

/-! ### Routing of the selector kinds (R82) -/

/-- R82: a frame of a kind with a selector is routed, and then given to its owner unless it was misrouted. -/
def routed (p : Port) (f : Frame) (owner : State → State) (s : State) : State :=
  match s.route p f.header.sel with
  | .misrouted => recordFault .misroute (.port p) s
  | .here => owner s
  | .onward => owner (sendFrame p.other f s)

/-! ### Door commands (R135 to R137) -/

/-- R135: a RELEASE is accepted. -/
def State.releaseAccepted (s : State) (h : Header) (side : TrainSide) (atRest : Bool) : Bool :=
  s.consist.state == .stable && s.epochMatches h.epoch && atRest && side != .both
    && s.inScope h.sel s.consist.position

/-- R126: a RELEASE is applied to the coach side its train side maps to. -/
def applyReleases (l : List Side) (s : State) : State := l.foldl (fun s d => applyRelease d s) s

/-- R135, R137: a RELEASE reaches the door unit. -/
def takeRelease (f : Frame) (side : TrainSide) (atRest : Bool) (s : State) : State :=
  if s.releaseAccepted f.header side atRest then
    deliver f (applyReleases (coachSides s.consist.orientation side) s)
  else s

/-- R136: the consist states in which a CLOSE under the current epoch is accepted. -/
def State.currentKnown (s : State) : Bool :=
  match s.consist.state with
  | .stable => true
  | .suspect | .inaugurating => !s.isMaster
  | .settling | .calling | .confirming => s.isMaster
  | _ => false

/-- R136: the pending epoch with the position and orientation that go with it. -/
def State.pendingPlace (s : State) : Option (Nat × Nat × Orientation) :=
  if s.isMaster then s.consist.attempt.map fun a => (a.epoch, 1, a.orientation)
  else s.consist.joined.map fun j => (j.epoch, j.position, j.orientation)

/-- R136: the CLOSE is accepted under the current epoch. -/
def State.closeCurrent (s : State) (h : Header) : Bool :=
  s.epochMatches h.epoch && s.currentKnown && s.inScope h.sel s.consist.position

/-- R136, scope ALL: the current orientation under the current epoch, both sides under a foreign one. -/
def State.closeAll (s : State) (h : Header) (side : TrainSide) : Option (List Side) :=
  if h.sel.type = .all then
    if s.epochMatches h.epoch then some (coachSides s.consist.orientation side) else some [.a, .b]
  else none

/-- R120, R136: the coach sides on which an arriving CLOSE acts; none when it is not accepted. Where an epoch is both
the current and the pending one, the current one is tried first. -/
def State.closeSides (s : State) (h : Header) (side : TrainSide) : Option (List Side) :=
  if s.closeCurrent h then some (coachSides s.consist.orientation side)
  else
    match s.pendingPlace with
    | some (epoch, position, o) =>
      if h.epoch = epoch ∧ s.inScope h.sel position then some (coachSides o side)
      else s.closeAll h side
    | none => s.closeAll h side

/-- R136, R137: a CLOSE reaches the door unit. -/
def takeClose (f : Frame) (side : TrainSide) (s : State) : State :=
  match s.closeSides f.header side with
  | some l => deliver f (applyCloses l s)
  | none => s

/-- A DOOR_CMD as it arrives (R38). -/
def doorFrame (h : Header) (c : DoorCommand) (side : TrainSide) (atRest : Bool) : Frame :=
  ⟨h, .doorCmd c side atRest⟩

/-- DOOR_CMD_RELEASE (R82, R135, R137). -/
def execDoorCmdRelease (p : Port) (h : Header) (side : TrainSide) (atRest : Bool) (s : State) :
    Host.Outcome State Fault Refusal :=
  let f := doorFrame h .release side atRest
  .next (frameArrives p f (routed p f (takeRelease f side atRest)) s)

/-- DOOR_CMD_CLOSE (R82, R136, R137). -/
def execDoorCmdClose (p : Port) (h : Header) (side : TrainSide) (atRest : Bool) (s : State) :
    Host.Outcome State Fault Refusal :=
  let f := doorFrame h .close side atRest
  .next (frameArrives p f (routed p f (takeClose f side)) s)

/-! ### Door alerts (R139, R140) -/

/-- R139, R140: a DOOR_ALERT reaches the door unit. -/
def takeAlert (p : Port) (f : Frame) (s : State) : State :=
  if s.isMaster then deliver f (dropInterlock s) else sendFrame p.other f s

/-- DOOR_ALERT (R139, R140). -/
def execDoorAlert (p : Port) (h : Header) (x : AlertBody) (s : State) : Host.Outcome State Fault Refusal :=
  .next (frameArrives p ⟨h, .doorAlert x⟩ (takeAlert p ⟨h, .doorAlert x⟩) s)

/-! ### Summary walks (R144 to R146) -/

/-- R144, R145, R159, R162: a walk frame is one a member takes: its consist is agreed, the epoch matches, and the
frame came in on the given port. -/
def State.walkTaken (s : State) (p from_ : Port) (h : Header) : Bool :=
  !s.isMaster && s.settled && s.epochMatches h.epoch && p == from_

/-- R146, R164: a returning walk is the one a STABLE master has outstanding. -/
def State.walkReturned (s : State) (p : Port) (h : Header) (outstanding : Option Nat) : Bool :=
  s.stableMaster && outstanding == some h.tag && h.epoch == s.consist.epoch && p == s.rearwardPort

/-- R66, R144: T9 restarts at a SUM OUT accepted in STABLE. -/
def renewSilence (s : State) : State := if s.consist.state = .stable then startTimer .t9 s else s

/-- R144: a SUM OUT reaches the door unit. -/
def takeSumOut (p : Port) (h : Header) (x : SumBody) (s : State) : State :=
  if s.walkTaken p s.forwardPort h then
    let s1 := renewSilence s
    let f : Body := .sum (s1.contribute x)
    if s1.isUp s1.rearwardPort then sendFrame s1.rearwardPort ⟨h, f⟩ s1
    else sendFrame s1.forwardPort ⟨{ h with phase := true }, f⟩ s1
  else s

/-- R145, R146: a SUM BACK reaches the door unit. -/
def takeSumBack (p : Port) (h : Header) (x : SumBody) (s : State) : State :=
  if s.walkReturned p h s.door.outstanding then nextSummaryWalk (takeSummary ⟨h, .sum x⟩ x s)
  else if s.walkTaken p s.rearwardPort h then sendFrame s.forwardPort ⟨h, .sum x⟩ s
  else s

/-- SUM_OUT (R144). -/
def execSumOut (p : Port) (h : Header) (x : SumBody) (s : State) : Host.Outcome State Fault Refusal :=
  let h0 := { h with phase := false }
  .next (frameArrives p ⟨h0, .sum x⟩ (takeSumOut p h0 x) s)

/-- SUM_BACK (R145, R146). -/
def execSumBack (p : Port) (h : Header) (x : SumBody) (s : State) : Host.Outcome State Fault Refusal :=
  let h1 := { h with phase := true }
  .next (frameArrives p ⟨h1, .sum x⟩ (takeSumBack p h1 x) s)

/-! ### Expiries (R129, R141, R147) -/

/-- R141: the summary period of a STABLE master has passed. -/
def summaryPeriod (s : State) : State :=
  if s.stableMaster then
    if s.door.outstanding = none then startSummaryWalk s
    else s.setDoor { s.door with startPending := true }
  else s

/-- SUMMARY_PERIOD_EXPIRY (R141): T7 has run out. -/
def execSummaryPeriodExpiry (s : State) : Host.Outcome State Fault Refusal :=
  .next (if s.ranOut .t7 then summaryPeriod (takeExpiry .t7 s) else s)

/-- R147: the walk in flight is lost. -/
def summaryLost (s : State) : State :=
  nextSummaryWalk (recordFault .summaryLost .node
    (s.setDoor { s.door with outstanding := none, doorsClosed := false }))

/-- SUMMARY_RETURN_TIMEOUT (R147): T8 has run out. -/
def execSummaryReturnTimeout (s : State) : Host.Outcome State Fault Refusal :=
  .next (if s.ranOut .t8 then
    let s1 := takeExpiry .t8 s
    if s1.door.outstanding.isSome then summaryLost s1 else s1
  else s)

/-- CLOSE_TIMEOUT (R129): T10 of a side has run out. -/
def execCloseTimeout (side : Side) (s : State) : Host.Outcome State Fault Refusal :=
  .next (if s.ranOut (.t10 side) then
    let s1 := takeExpiry (.t10 side) s
    if (s1.side side).state = .closing then recordFault .doorStuck (.side side) (setDoorState side .stuck s1)
    else s1
  else s)

end Sys2Proof.Machine
end

