-- ==== Sys2Proof/Machine/Heating.lean ====
section
/-! DEFINITION. The commands of the heat unit: heat walks from the train and the expiries of T11 to T14 (Heating
Load Sharing). -/

namespace Sys2Proof.Machine

open Sys2Proof

/-! ### Heat walks (R159 to R164) -/

/-- R161: the end node turns the frame, making its return step with the record it has just stored. -/
def turnHeat (h : Header) (y : HeatBody) (s : State) : State :=
  let r := masterReturn h.tag y s
  sendFrame r.2.forwardPort ⟨{ h with phase := true }, .heat r.1⟩ r.2

/-- R159 to R161: a HEAT OUT reaches the heat unit. -/
def takeHeatOut (p : Port) (h : Header) (x : HeatBody) (s : State) : State :=
  if s.walkTaken p s.forwardPort h then
    let y := s.outboundBody x
    let s1 := outboundStep h.tag x s
    if s1.isUp s1.rearwardPort then sendFrame s1.rearwardPort ⟨h, .heat y⟩ s1 else turnHeat h y s1
  else s

/-- R162: a member passes a HEAT BACK toward the master, with its return step if it holds the record. -/
def passHeatBack (h : Header) (x : HeatBody) (s : State) : State :=
  let r := masterReturn h.tag x s
  sendFrame r.2.forwardPort ⟨h, .heat r.1⟩ r.2

/-- R162, R164: a HEAT BACK reaches the heat unit. -/
def takeHeatBack (p : Port) (h : Header) (x : HeatBody) (s : State) : State :=
  if s.walkReturned p h s.heat.outstanding then nextHeatWalk (takeHeat h x s)
  else if s.walkTaken p s.rearwardPort h then passHeatBack h x s
  else s

/-- HEAT_OUT (R159 to R161). -/
def execHeatOut (p : Port) (h : Header) (x : HeatBody) (s : State) : Host.Outcome State Fault Refusal :=
  let h0 := { h with phase := false }
  .next (frameArrives p ⟨h0, .heat x⟩ (takeHeatOut p h0 x) s)

/-- HEAT_BACK (R162, R164). -/
def execHeatBack (p : Port) (h : Header) (x : HeatBody) (s : State) : Host.Outcome State Fault Refusal :=
  let h1 := { h with phase := true }
  .next (frameArrives p ⟨h1, .heat x⟩ (takeHeatBack p h1 x) s)

/-! ### Expiries (R157, R165, R168, R170) -/

/-- R157: the heat period of a STABLE master has passed. -/
def heatPeriod (s : State) : State :=
  if s.stableMaster then
    if s.heat.outstanding = none then startHeatWalk s
    else s.setHeat { s.heat with startPending := true }
  else s

/-- HEAT_PERIOD_EXPIRY (R157): T11 has run out. -/
def execHeatPeriodExpiry (s : State) : Host.Outcome State Fault Refusal :=
  .next (if s.ranOut .t11 then heatPeriod (takeExpiry .t11 s) else s)

/-- R165: the walk in flight is lost. -/
def heatLost (s : State) : State :=
  nextHeatWalk (recordFault .heatLost .node (s.setHeat { s.heat with outstanding := none }))

/-- HEAT_RETURN_TIMEOUT (R165): T12 has run out. -/
def execHeatReturnTimeout (s : State) : Host.Outcome State Fault Refusal :=
  .next (if s.ranOut .t12 then
    let s1 := takeExpiry .t12 s
    if s1.heat.outstanding.isSome then heatLost s1 else s1
  else s)

/-- HEAT_SUPERVISION_TIMEOUT (R168): T13 has run out; the node enters fallback. -/
def execHeatSupervisionTimeout (s : State) : Host.Outcome State Fault Refusal :=
  .next (if s.ranOut .t13 then enterFallback (takeExpiry .t13 s) else s)

/-- R170, R171: the mismatch has outlasted T14. -/
def feedbackFailed (s : State) : State :=
  match s.lineCarrying .heatFeedback with
  | some n => recordFault .heatFeedback (.line n) (lockOut s)
  | none => s

/-- FEEDBACK_MISMATCH_TIMEOUT (R170, R171): T14 has run out. -/
def execFeedbackMismatchTimeout (s : State) : Host.Outcome State Fault Refusal :=
  .next (if s.ranOut .t14 then feedbackFailed (takeExpiry .t14 s) else s)

end Sys2Proof.Machine
end

