-- ==== Sys2Proof/Machine/Lines.lean ====
section
/-! DEFINITION. The line unit: sampling, qualification, the notices to the owners, a write of the line function
table and the change report, with the commands TIMEBASE_STEP and QUALIFIED_EDGE (Coach Lines; R175, R178). -/

namespace Sys2Proof.Machine

open Sys2Proof

/-! ### Sampling (R103, R106, R117) -/

/-- R103: the logic level of a raw level on a line. -/
def LineRecord.logic (l : LineRecord) (raw : Bool) : Bool := l.entry.polarity.turn raw

/-- R106, R107: a pending change at a sample that differs from the qualified level. -/
def PendingChange.at (c : PendingChange) (now : Stamp) : PendingChange :=
  match c with
  | .since b => .since b
  | .none | .afresh => .since now

/-- R106: one sample of a line. The qualified edge that may be due after it is its own command. -/
def LineRecord.sampled (now : Stamp) (raw : Bool) (l : LineRecord) : LineRecord :=
  { l with raw := raw, change := if l.logic raw = l.qualified then .none else l.change.at now }

/-- R117, R118: the qualified level is taken at once from a sample. -/
def LineRecord.taken (raw : Bool) (l : LineRecord) : LineRecord :=
  { l with raw := raw, qualified := l.logic raw, change := .none }

/-- R119: outside OPERATING a sample sets the raw level alone. -/
def LineRecord.rawTaken (raw : Bool) (l : LineRecord) : LineRecord := { l with raw := raw }

/-- Every line takes its own raw level of a sample. -/
def sampleAll (f : Bool → LineRecord → LineRecord) (levels : Levels) (l : List LineRecord) : List LineRecord :=
  l.mapIdx fun n x => f (levels.getLsbD n) x

/-- R109 and log 7: the owners read levels that a sample set without an edge. -/
def rereadOwners (s : State) : State := heatRefresh (rereadSide .b (rereadSide .a s))

/-- R103, R106, R117: the line unit's sample in OPERATING. -/
def sampleOperating (levels : Levels) (s : State) : State :=
  if s.lines.firstSample then
    rereadOwners (s.setLines ⟨sampleAll LineRecord.taken levels s.lines.line, false⟩)
  else
    s.setLines { s.lines with line := sampleAll (LineRecord.sampled s.timers.timebase) levels s.lines.line }

/-- R103, R117, R119: the line unit's sampling instant. -/
def sampleLines (levels : Levels) (s : State) : State :=
  match s.bypass.node with
  | .starting => s
  | .operating => sampleOperating levels s
  | .withdrawing | .withdrawn =>
    s.setLines { s.lines with line := sampleAll LineRecord.rawTaken levels s.lines.line }

/-- R175, R178: the timebase and every running count advance. -/
def advanceTimers (s : State) : State :=
  s.setTimers { s.timers with timebase := s.timers.timebase + 1, counts := s.timers.counts.map countDown }

/-- TIMEBASE_STEP (R15, R103, R106, R117, R119, R175, R178). -/
def execTimebaseStep (now : Instant) (s : State) : Host.Outcome State Fault Refusal :=
  .next (sampleLines now.levels (advanceTimers (receiveAtStep now s)))

/-! ### Qualified edges (R106, R113, R114) -/

/-- R106: the pending change of a line has held for its debounce time. -/
def LineRecord.due (now : Stamp) (l : LineRecord) : Bool :=
  match l.change with
  | .since b => decide (l.entry.debounce ≤ (now - b).toNat)
  | .none | .afresh => false

/-- R113: the edge to this level is in the arming's direction. -/
def Arming.takes (a : Arming) (level : Bool) : Bool :=
  match a with
  | .off => false
  | .assertion => level
  | .release => !level
  | .both => true

/-- R113: the line is armed for the edge to this level. -/
def LineEntry.armedFor (e : LineEntry) (level : Bool) : Bool := e.function != .none && e.arming.takes level

/-- R113, R114: a qualified edge meets the change report. -/
def LineRecord.reportEdge (level : Bool) (l : LineRecord) : LineRecord :=
  match l.condition with
  | .ready =>
    if l.entry.armedFor level then { l with reported := true, recorded := level, condition := .latched } else l
  | .latched => l
  | .held => if l.entry.armedFor level then l else { l with condition := .ready }

/-- R106: the qualified level changes, and the pending change ends. -/
def LineRecord.turned (l : LineRecord) : LineRecord := { l with qualified := !l.qualified, change := .none }

/-- R109: the owner of an input function takes an edge to this level. -/
def ownerEdge (f : LineFunction) (level : Bool) (s : State) : State :=
  match f with
  | .cabActive => cabEdge s
  | .doorProof d => proofNotice d (if level then .proved else .notProved) s
  | .doorInhibit d => if level then closeReleased d s else s
  | .heatFeedback => judgeFeedback s
  | .heatDemand0 | .heatDemand1 | .heatDemand2 => heatRefresh s
  | _ => s

/-- R106: line `n` takes its qualified edge. -/
def takeEdge (n : Nat) (s : State) : State :=
  let l := (s.lineAt n).turned
  ownerEdge l.entry.function l.qualified (s.setLine n (l.reportEdge l.qualified))

/-- QUALIFIED_EDGE (R106, R109, R113, R114): the edge of a line whose pending change is due. R41 has the consist unit take no
event in STARTING, and take them once the ports are started; of the 1 ms between the two it says nothing. That it takes
cab edges from the entry to OPERATING on, before PORT_START, is DESIGN CHOICE, unsafe (log 40). -/
def execQualifiedEdge (n : Fin 16) (s : State) : Host.Outcome State Fault Refusal :=
  .next (if s.operating && (s.lineAt n.val).due s.timers.timebase then takeEdge n.val s else s)

/-! ### Writing the line function table (R105, R107, R108, R116) -/

/-- R108: the line stops carrying what it carried: released without an edge, general output inactive, out of the
change report. -/
def LineRecord.cleared (e : LineEntry) (l : LineRecord) : LineRecord :=
  { entry := e, raw := l.raw, qualified := false, change := .none, generalOut := false, reported := false
    recorded := false, condition := .ready }

/-- R107: a pending change under a new debounce. -/
def PendingChange.remeasured (c : PendingChange) : PendingChange :=
  match c with
  | .none => .none
  | .since _ | .afresh => .afresh

/-- R107: the debounce is written. -/
def LineRecord.setDebounce (d : Nat) (l : LineRecord) : LineRecord :=
  if l.entry.debounce = d then l
  else { l with entry := { l.entry with debounce := d }, change := l.change.remeasured }

/-- R116: the arming is written. -/
def LineRecord.setArming (a : Arming) (l : LineRecord) : LineRecord :=
  if l.entry.arming = a then l
  else { l with
    entry := { l.entry with arming := a }, reported := false, recorded := false, condition := .ready }

/-- R105: the entry changes the line's function or polarity. -/
def LineRecord.replacedBy (e : LineEntry) (l : LineRecord) : Bool :=
  l.entry.function != e.function || l.entry.polarity != e.polarity

/-- R105, R107, R108, R116: a line between the removals and the additions of a write: where the function or polarity
changes, the old function has left and the new one is not yet there (log 30). -/
def LineRecord.removed (e : LineEntry) (l : LineRecord) : LineRecord :=
  if l.replacedBy e then l.cleared { e with function := .none }
  else (l.setDebounce e.debounce).setArming e.arming

/-- A change of one line for each element of a write, the first element at line `i`. -/
def writeLinesAt (f : LineEntry → LineRecord → LineRecord) (i : Nat) (l : List LineEntry) (s : State) : State :=
  (l.zipIdx i).foldl (fun s x => s.setLine x.2 (f x.1 (s.lineAt x.2))) s

/-- R105, R108: the functions a write takes off lines. R105 tells their owners before those of the functions added and
gives no order among them; that it is line order is DESIGN CHOICE, unsafe (log 30). -/
def State.removedFunctions (s : State) (i : Nat) (l : List LineEntry) : List LineFunction :=
  (l.zipIdx i).filterMap fun x =>
    if (s.lineAt x.2).replacedBy x.1 then some (s.lineAt x.2).entry.function else none

/-- R105, R108: the functions a write puts on lines; that their owners are told in line order is DESIGN CHOICE, unsafe
(log 30). -/
def State.addedFunctions (s : State) (i : Nat) (l : List LineEntry) : List LineFunction :=
  (l.zipIdx i).filterMap fun x =>
    if (s.lineAt x.2).replacedBy x.1 then some x.1.function else none

/-- R109: the owner of an input function is told that it is absent. -/
def ownerAbsent (f : LineFunction) (s : State) : State :=
  match f with
  | .cabActive => evaluateRole s
  | .doorProof d => proofNotice d .absent s
  | .heatFeedback => judgeFeedback s
  | .heatDemand0 | .heatDemand1 | .heatDemand2 => heatRefresh s
  | _ => s

/-- R109: the owner of an input function is told that it is present, at level released. -/
def ownerPresent (f : LineFunction) (s : State) : State :=
  match f with
  | .cabActive => evaluateRole s
  | .doorProof d => proofNotice d .notProved s
  | .heatFeedback => judgeFeedback s
  | .heatDemand0 | .heatDemand1 | .heatDemand2 => heatRefresh s
  | _ => s

/-- Several notices in turn. -/
def notices (f : LineFunction → State → State) (l : List LineFunction) (s : State) : State :=
  l.foldl (fun s x => f x s) s

/-- R105, R108: the entry of a line whose function or polarity the write changed. -/
def LineRecord.setEntry (e : LineEntry) (l : LineRecord) : LineRecord := { l with entry := e }

/-- R105: a write of the entries from line `i` on is applied: all lines lose what the write takes off them, their
owners are told, then the new functions stand and their owners are told. -/
def applyLines (i : Nat) (l : List LineEntry) (s : State) : State :=
  let s1 := notices ownerAbsent (s.removedFunctions i l) (writeLinesAt LineRecord.removed i l s)
  notices ownerPresent (s.addedFunctions i l) (writeLinesAt LineRecord.setEntry i l s1)

/-- R105: the functions the table would hold after a write, those that may stand on several lines left out. -/
def State.functionsAfter (s : State) (i : Nat) (l : List LineEntry) : List LineFunction :=
  (((s.lines.line.map fun x => x.entry).take i ++ l ++ (s.lines.line.map fun x => x.entry).drop (i + l.length)).map
    fun e => e.function).filter fun f => f != .none && f != .generalIn && f != .generalOut

/-! ### Collecting the change report (R115) -/

/-- R115: the condition of a reported line after collection. -/
def LineRecord.conditionAfter (l : LineRecord) : ReportCondition :=
  match l.entry.arming with
  | .assertion => if l.qualified then .held else .ready
  | .release => if l.qualified then .ready else .held
  | .both | .off => .ready

/-- R115: one line at a collection. -/
def LineRecord.collected (l : LineRecord) : LineRecord :=
  { l with
    reported := false, recorded := false, condition := if l.reported then l.conditionAfter else l.condition }

/-- R115: the change report is collected. -/
def collectReport (s : State) : State := s.setLines { s.lines with line := s.lines.line.map LineRecord.collected }

end Sys2Proof.Machine
end

