-- ==== Sys2Proof/Machine/Resets.lean ====
section
/-! DEFINITION. Power-on, start-up, restart and withdraw: what each does to every block, and the commands
POWER_ON, START_CHECK_COMPLETE, PORT_START, PENDING_RESTART and WITHDRAW_COMPLETE (R20 to R23 and the reset rules of
the other chapters). -/

namespace Sys2Proof.Machine

open Sys2Proof

/-! ### Power-on and start-up (R20) -/

/-- POWER_ON (R20, R41, R101, R117, R149, R172, R182, R198, R199): STARTING, with every block at its power-on values. A
select period that is under way goes on outside the node, and is not served (log 9). -/
def execPowerOn (s : State) : Host.Outcome State Fault Refusal :=
  .next { State.reset with
    pending := s.pending, identity := s.identity
    relay := { State.reset.relay with select := s.relay.select.cutOff } }

/-- START_CHECK_COMPLETE (R20): the start-up check ends. -/
def execStartCheckComplete (pass : Bool) (s : State) : Host.Outcome State Fault Refusal :=
  .next (if s.bypass.node = .starting then
    s.setBypass (if pass then { s.bypass with node := .operating, hold := true }
      else { s.bypass with node := .withdrawn, cause := .startCheck })
  else s)

/-- R11, R20, R23: a port enters DOWN with its probe due flag set and T0 started. -/
def resetPort (p : Port) (s : State) : State :=
  let s1 := takeDown p s
  startTimer (.t0 p) (s1.setPort p { s1.port p with probeDue := true })

/-- PORT_START (R20): the ports are started. -/
def execPortStart (s : State) : Host.Outcome State Fault Refusal :=
  .next (if s.operating && !s.bypass.started then
    resetPort .e2 (resetPort .e1 (s.setBypass { s.bypass with started := true }))
  else s)

/-! ### Restart, block by block -/

/-- R23: the segment controllers at a restart. -/
def restartPorts (s : State) : State :=
  resetPort .e2 (resetPort .e1 (s.setBypass { s.bypass with holdoff := false }))

/-- R90, R102, R198: the relay unit and the management unit at a restart. -/
def restartRelay (s : State) : State :=
  let s1 := clearConsistGroups (stopTimer .t15 s)
  let s2 := s1.setRelay { s1.relay with
    queues := ⟨Queues.empty, Queues.empty⟩, tapQueue := [], draining := false, select := s1.relay.select.emptied }
  s2.setMgmt ⟨none, .none⟩

/-- R118: one line at a restart. -/
def LineRecord.restarted (raw : Bool) (l : LineRecord) : LineRecord :=
  { l.taken raw with reported := false, recorded := false, condition := .ready }

/-- R118: the line unit at a restart, with a sample taken there. -/
def restartLines (levels : Levels) (s : State) : State :=
  s.setLines ⟨sampleAll LineRecord.restarted levels s.lines.line, false⟩

/-- R128, R150: one coach side at a restart. -/
def restartSide (d : Side) (s : State) : State :=
  let proof := s.lineProof d
  let s1 := s.setSide d { s.side d with proof := proof, held := proof != .proved }
  match (s.side d).state with
  | .released | .closing => if proof = .proved then enterClosed d s1 else enterClosing d s1
  | .closed | .stuck => s1

/-- R150: the door unit at a restart. -/
def restartDoors (s : State) : State :=
  let s1 := stopTimers [.t7, .t8] (restartSide .b (restartSide .a s))
  s1.setDoor { s1.door with
    commandCounter := 0, walk := 0, outstanding := none, startPending := false, alert := false
    doorsClosed := false }

/-- R74: the consist unit at a restart, before it evaluates its role. -/
def restartConsist (s : State) : State :=
  let s1 := enterUninaugurated s
  s1.setConsist { s1.consist with restartReport := true }

/-- R173: the heat unit at a restart. -/
def restartHeat (s : State) : State :=
  let s1 := stopTimers [.t11, .t12, .t13, .t14] s
  judgeFeedback (s1.setHeat { s1.heat with
    applied := 0, fallback := true, walkRecord := none, walk := 0, outstanding := none, startPending := false })

/-- R23, R74, R102, R118, R150, R173, R182, R198, R205: the node restarts, taking this sample of the raw levels; at the
end it evaluates its role (R42). The door unit goes before the consist unit, so that a released side begins a full
close timeout (log 22). -/
def restartNode (levels : Levels) (s : State) : State :=
  evaluateRole (restartHeat (restartConsist (restartDoors (restartLines levels (restartRelay (restartPorts s))))))

/-- PENDING_RESTART (R196): the response of a TRAIN RESTART leaves its queue, or has left it, and the node restarts
(log 11). -/
def execPendingRestart (levels : Levels) (s : State) : Host.Outcome State Fault Refusal :=
  .next (if s.operating && s.mgmt.restart != .none then restartNode levels s else s)

/-! ### Withdraw (R21, R22) -/

/-- R119: the line unit at the entry to WITHDRAWING. -/
def withdrawLines (s : State) : State :=
  s.setLines { s.lines with line := s.lines.line.map fun l => { l with generalOut := false, change := .none } }

/-- R151: the door unit at the entry to WITHDRAWING; `master` is the role before it. -/
def withdrawDoors (master : Bool) (s : State) : State :=
  if master then
    s.setDoor { s.door with
      doorsClosed := false, walk := 0, outstanding := none, startPending := false, alert := false }
  else s.setDoor { s.door with doorsClosed := false }

/-- R174: the heat unit at the entry to WITHDRAWING. -/
def withdrawHeat (s : State) : State :=
  s.setHeat { s.heat with applied := 0, walkRecord := none, walk := 0, outstanding := none, startPending := false }

/-- R21, R182: the last of the entry: every running count is stopped, and the node state is WITHDRAWING. -/
def withdrawEnd (s : State) : State :=
  let s1 := s.setTimers { s.timers with counts := Counts.stopped }
  s1.setBypass { s1.bypass with node := .withdrawing }

/-- R21, R119, R151, R174, R182: the node enters WITHDRAWING. -/
def enterWithdrawing (s : State) : State :=
  let s1 := enterUninaugurated (sendBreaks s.upPorts s)
  withdrawEnd (withdrawHeat (withdrawDoors s.isMaster (withdrawLines s1)))

/-- R11, R21, R22: one port at the entry to WITHDRAWN. -/
def withdrawnPort (p : Port) (s : State) : State := (takeDown p s).setQueues p Queues.empty

/-- WITHDRAW_COMPLETE (R21, R22): BYPASS_HOLD goes inactive and the node is WITHDRAWN. -/
def execWithdrawComplete (s : State) : Host.Outcome State Fault Refusal :=
  .next (if s.bypass.node = .withdrawing then
    withdrawnPort .e2 (withdrawnPort .e1
      (s.setBypass { s.bypass with node := .withdrawn, hold := false, cause := .requested }))
  else s)

end Sys2Proof.Machine
end

