-- ==== Sys2Proof/Machine/Objects.lean ====
section
/-! DEFINITION. The objects of management requests: their element layouts (R40), what a READ returns and changes
(R187, R203), and what a WRITE of each accepts and does (R188, R189 and the rules R186 names). -/

namespace Sys2Proof.Machine

open Sys2Proof

/-- The access classes (R183, R184). -/
inductive Access where
  | ownTap
  | train
deriving DecidableEq, Repr

/-- The objects, in the order of their codes 1 to 17 (R40). -/
inductive Object where
  | identity
  | status
  | consist
  | service
  | groups
  | lines
  | lineLevels
  | lineReport
  | generalOut
  | doorInhibit
  | coachDescriptor
  | heatProfile
  | heatSettings
  | heatDemand
  | supplyLimit
  | timers
  | faults
deriving DecidableEq, Repr

/-- R40: the object of an object byte's code. -/
def objectOf (b : Byte) : Option Object :=
  decodeCode 1 [.identity, .status, .consist, .service, .groups, .lines, .lineLevels, .lineReport, .generalOut,
    .doorInhibit, .coachDescriptor, .heatProfile, .heatSettings, .heatDemand, .supplyLimit, .timers, .faults]
    (objectCode b)

/-- R39: the bank bit of an object byte names the staged bank. -/
def stagedBank (b : Byte) : Bool := b.getLsbD 7

/-- R40: the size of an element in bytes. -/
def Object.size : Object → Nat
  | .identity | .lineReport => 4
  | .status => 15
  | .consist => 6
  | .service | .heatProfile | .supplyLimit | .timers => 2
  | .lines => 3
  | .groups | .lineLevels | .generalOut | .doorInhibit | .coachDescriptor | .heatSettings | .heatDemand => 1
  | .faults => 13

/-- R40, R187: the first index of an object and the first index beyond it. -/
def State.indexRange (s : State) : Object → Nat × Nat
  | .identity | .status | .lineReport | .coachDescriptor | .heatDemand | .supplyLimit => (0, 1)
  | .consist => (1, s.consist.table.length + 1)
  | .service => (0, 64)
  | .groups | .lines | .lineLevels | .generalOut | .timers => (0, 16)
  | .doorInhibit | .heatSettings => (0, 2)
  | .heatProfile | .faults => (0, 8)

/-- R187, R188: the indices `i` to `i + c - 1` lie in the object's index range. -/
def State.indexOk (s : State) (o : Object) (i c : Nat) : Bool :=
  decide ((s.indexRange o).1 ≤ i) && decide (i + c ≤ (s.indexRange o).2)

/-- R186: the classes that hold the read right. -/
def Object.readable (o : Object) (a : Access) : Bool := o != .lineReport || a == .ownTap

/-- R186: the class that holds the write right, if any. -/
def Object.writer : Object → Option Access
  | .service | .groups => some .train
  | .lines | .generalOut | .doorInhibit | .coachDescriptor | .heatProfile | .heatSettings | .heatDemand
  | .supplyLimit | .timers => some .ownTap
  | .identity | .status | .consist | .lineLevels | .lineReport | .faults => none

/-! ### Codes of element fields (R40) -/

def NodeState.code : NodeState → Nat
  | .starting => 0
  | .operating => 1
  | .withdrawing => 2
  | .withdrawn => 3

def WithdrawCause.code : WithdrawCause → Nat
  | .none => 0
  | .requested => 1
  | .startCheck => 2

def Role.code : Role → Nat
  | .member => 0
  | .master => 1

def ConsistState.code : ConsistState → Nat
  | .uninaugurated => 0
  | .inaugurating => 1
  | .stable => 2
  | .suspect => 3
  | .blocked => 4
  | .settling => 5
  | .calling => 6
  | .confirming => 7

def BlockedReason.code : BlockedReason → Nat
  | .none => 0
  | .overlong => 1
  | .conflict => 2
  | .duplicate => 3
  | .noReturn => 4

def LinkState.code : LinkState → Nat
  | .down => 0
  | .arriving => 1
  | .up => 2
  | .faulted => 3

def DoorState.code : DoorState → Nat
  | .closed => 0
  | .released => 1
  | .closing => 2
  | .stuck => 3

def Proof.code : Proof → Nat
  | .proved => 0
  | .notProved => 1
  | .absent => 2

def TapDelivery.code : TapDelivery → Nat
  | .never => 0
  | .addressed => 1
  | .copy => 2

def Arming.code : Arming → Nat
  | .off => 0
  | .assertion => 1
  | .release => 2
  | .both => 3

def LineFunction.code : LineFunction → Nat
  | .none => 0
  | .cabActive => 1
  | .zeroSpeed => 2
  | .doorProof d => 3 + d.code
  | .doorInhibit d => 5 + d.code
  | .heatFeedback => 7
  | .heatDemand0 => 8
  | .heatDemand1 => 9
  | .heatDemand2 => 10
  | .generalIn => 11
  | .doorRelease d => 16 + d.code
  | .doorClose d => 18 + d.code
  | .trainDoorsClosed => 20
  | .heatStage0 => 21
  | .heatStage1 => 22
  | .heatStage2 => 23
  | .generalOut => 24

/-- R40: the line function of a code; none for a code the table does not list. -/
def functionOf (n : Nat) : Option LineFunction :=
  if n < 16 then
    decodeCode 0 [.none, .cabActive, .zeroSpeed, .doorProof .a, .doorProof .b, .doorInhibit .a, .doorInhibit .b,
      .heatFeedback, .heatDemand0, .heatDemand1, .heatDemand2, .generalIn] n
  else
    decodeCode 16 [.doorRelease .a, .doorRelease .b, .doorClose .a, .doorClose .b, .trainDoorsClosed, .heatStage0,
      .heatStage1, .heatStage2, .generalOut] n

def FaultKind.code : FaultKind → Nat
  | .portFaulted => 1
  | .portLost => 2
  | .badKind => 3
  | .queueFull => 4
  | .tapOverrun => 5
  | .staleEpoch => 6
  | .misroute => 7
  | .oversize => 8
  | .rollMismatch => 9
  | .cabMid => 10
  | .inaugurationFailed => 11
  | .summaryLost => 12
  | .heatLost => 13
  | .heatCount => 14
  | .heatFeedback => 15
  | .doorStuck => 16
  | .doorAlertRaised => 17
  | .drainDiscard => 18
  | .denied => 19

def FaultSource.code : FaultSource → Nat
  | .port p => p.code
  | .tap => 3
  | .side d => 4 + d.code
  | .node => 6
  | .line n => 16 + n

/-! ### Elements as a READ returns them -/

/-- R40: a side in the STATUS element. The bits 7 to 5, which the layout does not name, are 0: DESIGN CHOICE, unsafe
(log 37). -/
def State.sideByte (s : State) (d : Side) : Byte :=
  byte ((s.side d).state.code + (s.side d).proof.code * 4 + flag (s.inhibited d) * 16)

/-- R40: the STATUS element. The bits 5 to 3 of byte 14, which the layout does not name, are 0: DESIGN CHOICE, unsafe
(log 37). -/
def State.statusBytes (s : State) : List Byte :=
  [byte s.consist.role.code, byte (s.bypass.node.code * 16 + s.bypass.cause.code), byte s.consist.state.code,
   byte s.consist.blocked.code, byte s.consist.epoch, byte s.consist.position, byte s.consist.orientation.code,
   byte (s.port .e1).link.code, byte (s.port .e1).score, byte (s.port .e2).link.code, byte (s.port .e2).score,
   byte s.relay.generation, s.sideByte .a, s.sideByte .b,
   byte (s.heat.applied + flag s.heat.fallback * 64 + flag s.heat.lockedOut * 128)]

/-- R40: a SERVICE element. The bits 2 to 0 of byte 0, which the layout does not name, are 0: DESIGN CHOICE, unsafe
(log 37). -/
def ServiceEntry.bytes (e : ServiceEntry) : List Byte :=
  [byte (flag (e.forward == .stop) * 128 + e.delivery.code * 32 + flag e.control * 16 + flag e.originate * 8),
   byte e.maxPayload]

/-- R40: a LINES element. The bits 6 to 2 of byte 1, which the layout does not name, are 0: DESIGN CHOICE, unsafe
(log 37). -/
def LineEntry.bytes (e : LineEntry) : List Byte :=
  [byte e.function.code, byte (flag (e.polarity == .activeLow) * 128 + e.arming.code), byte e.debounce]

/-- R40, R112: a LINE_LEVELS element. The bits 7 to 2 are 0: DESIGN CHOICE, unsafe (log 37). -/
def State.levelByte (s : State) (l : LineRecord) : Byte := byte (flag (s.readback l) * 2 + flag l.raw)

/-- The number whose bit n is set where the function is true of line n. -/
def State.lineMask (s : State) (f : LineRecord → Bool) : Nat :=
  ((s.lines.line.map f).mapIdx fun n b => flag b * 2 ^ n).sum

/-- R40, R115: the LINE_REPORT element. -/
def State.reportBytes (s : State) : List Byte :=
  be16 (s.lineMask LineRecord.reported) ++ be16 (s.lineMask fun l => l.reported && l.recorded)

/-- R36, R40: the coach descriptor byte. Its spare bit 3 reads as 0: DESIGN CHOICE, unsafe (log 37). -/
def State.descriptorByte (s : State) : Byte := byte (s.consist.coachClass * 16 + s.consist.doors)

/-- R40, R177: a TIMERS element. -/
def Setting.bytes (x : Setting) : List Byte := be16 (flag (x.scale == .coarse) * 32768 + x.value)

/-- R40, R199: a FAULTS element. In a slot in use the bits 5 to 1 of the flag byte, which the layout does not name, are 0:
DESIGN CHOICE, unsafe (log 37). -/
def State.faultBytes (s : State) (slot : Option FaultRecord) : List Byte :=
  match slot with
  | some r =>
    [byte r.kind.code, byte r.source.code, byte r.count] ++ be32 r.first ++ be32 r.last
      ++ [byte r.epoch, byte (128 + flag r.unread * 64 + flag s.faults.overflow)]
  | none => List.replicate 12 0 ++ [byte (flag s.faults.overflow)]

/-- The local inhibit flag of an index (R123). -/
def sideAt (i : Nat) : Side := if i = 0 then .a else .b

/-- R40, R187: one element of an object as it stands, from the bank named. -/
def State.element (s : State) (staged : Bool) (o : Object) (i : Nat) : List Byte :=
  match o with
  | .identity => be32 s.identity
  | .status => s.statusBytes
  | .consist =>
    match s.consist.table[i - 1]? with
    | some e => e.bytes
    | none => []
  | .service =>
    ((if staged then s.relay.serviceStaged else s.relay.serviceActive).getD i ServiceEntry.powerOn).bytes
  | .groups => [byte (flag ((if staged then s.relay.groupsStaged else s.relay.groupsActive).getLsbD i))]
  | .lines => (s.lineAt i).entry.bytes
  | .lineLevels => [s.levelByte (s.lineAt i)]
  | .lineReport => s.reportBytes
  | .generalOut => [byte (flag (s.lineAt i).generalOut)]
  | .doorInhibit => [byte (flag (s.side (sideAt i)).localInhibit)]
  | .coachDescriptor => [s.descriptorByte]
  | .heatProfile => be16 (s.profileAt i)
  | .heatSettings => [byte (if i = 0 then s.heat.doorCap else s.heat.fallbackStage)]
  | .heatDemand => [byte s.heat.writtenDemand]
  | .supplyLimit => be16 s.heat.supplyLimit
  | .timers => (s.setting i).bytes
  | .faults => s.faultBytes (s.faults.slots.getD i none)

/-- R187: the elements of a READ, in index order. -/
def State.elements (s : State) (staged : Bool) (o : Object) (i c : Nat) : List Byte :=
  (List.range c).flatMap fun k => s.element staged o (i + k)

/-- R203: the unread flags of the records returned are cleared. -/
def markRead (i c : Nat) (s : State) : State :=
  s.setFaults { s.faults with
    slots := s.faults.slots.mapIdx fun n x =>
      if i ≤ n ∧ n < i + c then x.map (fun r => { r with unread := false }) else x }

/-- R187: what a READ changes. -/
def readEffect (o : Object) (i c : Nat) (s : State) : State :=
  match o with
  | .lineReport => collectReport s
  | .faults => markRead i c s
  | _ => s

/-- The answer to a request: its status and its data; none while a draining COMMIT waits (R190). -/
abbrev Answer := Option (Status × List Byte)

/-- An answer without data. -/
def answered (st : Status) : Answer := some (st, [])

/-- R186, R187: a READ. -/
def readObject (a : Access) (q : Req) (s : State) : State × Answer :=
  match objectOf q.object with
  | none => (s, answered .denied)
  | some o =>
    if !o.readable a then (s, answered .denied)
    else if q.count = 0 ∨ 236 < q.count * o.size then (s, answered .invalid)
    else if !s.indexOk o q.index q.count then (s, answered .absent)
    else (readEffect o q.index q.count s, some (.ok, s.elements (stagedBank q.object) o q.index q.count))

/-! ### Elements as a WRITE gives them -/

/-- The data of a write in elements of two bytes. -/
def pairs : List Byte → List (Byte × Byte)
  | a :: b :: rest => (a, b) :: pairs rest
  | _ => []

/-- The data of a write in elements of three bytes. -/
def triples : List Byte → List (Byte × Byte × Byte)
  | a :: b :: c :: rest => (a, b, c) :: triples rest
  | _ => []

/-- The data of a write as 16-bit elements. -/
def words (l : List Byte) : List Nat := (pairs l).map fun x => word16 x.1 x.2

/-- What a list becomes when the elements of a write replace those from index `i` on. -/
def replaceAt {α : Type} (l : List α) (i : Nat) (new : List α) : List α :=
  l.take i ++ new ++ l.drop (i + new.length)

/-- R189: every byte is 0 or 1. -/
def allFlags (l : List Byte) : Bool := l.all fun b => decide (b.toNat ≤ 1)

/-- R40: the tap delivery of a code. -/
def tapDeliveryOf (n : Nat) : Option TapDelivery := decodeCode 0 [.never, .addressed, .copy] n

/-- R40, R189: a SERVICE element written; none where it is refused. -/
def serviceOf (b0 b1 : Byte) : Option ServiceEntry :=
  match tapDeliveryOf (b0.toNat / 32 % 4) with
  | some t =>
    if b1.toNat ≤ 240 then
      some ⟨if b0.getLsbD 7 then .stop else .pass, t, b0.getLsbD 4, b0.getLsbD 3, b1.toNat⟩
    else none
  | none => none

/-- R40: the arming of a code of two bits. -/
def armingOf (n : Nat) : Arming :=
  if n = 0 then .off else if n = 1 then .assertion else if n = 2 then .release else .both

/-- R40, R105: a LINES element written; none where its function code is not listed. -/
def lineEntryOf (b0 b1 b2 : Byte) : Option LineEntry :=
  (functionOf b0.toNat).map fun f =>
    ⟨f, if b1.getLsbD 7 then .activeLow else .activeHigh, min 250 b2.toNat, armingOf (b1.toNat % 4)⟩

/-- R177: a TIMERS element written, as it is stored. -/
def settingOf (w : Nat) : Setting :=
  ⟨max 1 (min 1023 (w % 32768)), if w / 32768 % 2 = 1 then .coarse else .fine⟩

/-- R188: OK, or OK_CLAMPED where an element was clamped. -/
def stored (clamped : Bool) : Status := if clamped then .okClamped else .ok

/-- What a WRITE whose elements are judged comes to: the state and the status. -/
abbrev Written := State × Status

/-- R75, R77, R189: a WRITE of SERVICE. -/
def writeServiceTable (q : Req) (s : State) : Written :=
  match (pairs q.data).mapM (fun x => serviceOf x.1 x.2) with
  | some l => (s.setRelay { s.relay with serviceStaged := replaceAt s.relay.serviceStaged q.index l }, .ok)
  | none => (s, .invalid)

/-- R76: the flags of a bank with those from index `i` on replaced. -/
def setFlags (bank : BitVec 16) (i : Nat) (l : List Bool) : BitVec 16 :=
  (l.zipIdx i).foldl
    (fun b x => if x.1 then b ||| (1#16 <<< x.2) else b &&& ~~~(1#16 <<< x.2)) bank

/-- A byte that is a flag (R189). -/
def isOne (b : Byte) : Bool := b == 1

/-- R76, R77, R189: a WRITE of GROUPS. -/
def writeGroupTable (q : Req) (s : State) : Written :=
  if allFlags q.data then
    (s.setRelay { s.relay with groupsStaged := setFlags s.relay.groupsStaged q.index (q.data.map isOne) }, .ok)
  else (s, .invalid)

/-- R105: a WRITE of LINES. -/
def writeLineTable (q : Req) (s : State) : Written :=
  match (triples q.data).mapM (fun x => lineEntryOf x.1 x.2.1 x.2.2) with
  | some l =>
    if (s.functionsAfter q.index l).Nodup then
      (applyLines q.index l s, stored ((triples q.data).any fun x => decide (250 < x.2.2.toNat)))
    else (s, .invalid)
  | none => (s, .invalid)

/-- R111: a WRITE of GENERAL_OUT. -/
def writeOutputs (q : Req) (s : State) : Written :=
  if allFlags q.data
      && ((List.range q.count).all fun k => (s.lineAt (q.index + k)).entry.function == .generalOut) then
    ((q.data.zipIdx q.index).foldl
      (fun s x => s.setLine x.2 { s.lineAt x.2 with generalOut := isOne x.1 }) s, .ok)
  else (s, .invalid)

/-- R123: the LOCAL inhibit flag of one side is written; R130 where the side becomes inhibited. -/
def setInhibit (d : Side) (x : Bool) (s : State) : State :=
  let s1 := s.setSide d { s.side d with localInhibit := x }
  if x then closeReleased d s1 else s1

/-- R123: a WRITE of DOOR_INHIBIT. -/
def writeInhibits (q : Req) (s : State) : Written :=
  if allFlags q.data then
    ((q.data.zipIdx q.index).foldl (fun s x => setInhibit (sideAt x.2) (isOne x.1) s) s, .ok)
  else (s, .invalid)

/-- R132: a side of a coach that has no doors any more. -/
def closeDoorless (d : Side) (s : State) : State :=
  if (s.side d).state = .closed then s else enterClosed d s

/-- R73, R132: the coach descriptor is written. -/
def setDescriptor (coachClass doors : Nat) (s : State) : State :=
  let s1 := s.setConsist { s.consist with coachClass := coachClass, doors := doors }
  heatRefresh (if s.consist.doors ≠ 0 ∧ doors = 0 then closeDoorless .b (closeDoorless .a s1) else s1)

/-- R73, R189: a WRITE of COACH_DESCRIPTOR. -/
def writeDescriptor (q : Req) (s : State) : Written :=
  match q.data with
  | [b] => (setDescriptor (b.toNat / 16) (b.toNat % 8) s, .ok)
  | _ => (s, .invalid)

/-- R152: a profile is acceptable. -/
def profileOk (l : List Nat) : Bool :=
  l.head? == some 0 && (l.all fun x => decide (x ≤ 1023)) && decide (l.Pairwise (· ≤ ·))

/-- R152, R166: a WRITE of HEAT_PROFILE. -/
def writeProfile (q : Req) (s : State) : Written :=
  if profileOk (words q.data) then
    (s.setHeat { s.heat with profile := words q.data, walkRecord := none }, .ok)
  else (s, .invalid)

/-- R154: one heat setting is stored. -/
def setHeatSetting (i v : Nat) (s : State) : State :=
  if i = 0 then s.setHeat { s.heat with doorCap := min 7 v } else s.setHeat { s.heat with fallbackStage := min 7 v }

/-- R155, R169: after a write of the heat settings, d_eff and, in fallback, the fallback ceiling are applied. -/
def heatSettingsTaken (s : State) : State :=
  let s1 := heatRefresh s
  if s1.heat.fallback then setApplied s1.fallbackCeiling s1 else s1

/-- R154, R169: a WRITE of HEAT_SETTINGS. -/
def writeSettings (q : Req) (s : State) : Written :=
  (heatSettingsTaken ((q.data.zipIdx q.index).foldl (fun s x => setHeatSetting x.2 x.1.toNat s) s),
   stored (q.data.any fun b => decide (7 < b.toNat)))

/-- R153: a WRITE of HEAT_DEMAND. -/
def writeDemand (q : Req) (s : State) : Written :=
  match q.data with
  | [b] => (heatRefresh (s.setHeat { s.heat with writtenDemand := min 7 b.toNat }), stored (decide (7 < b.toNat)))
  | _ => (s, .invalid)

/-- R154: a WRITE of SUPPLY_LIMIT. -/
def writeLimit (q : Req) (s : State) : Written :=
  match words q.data with
  | [w] => (s.setHeat { s.heat with supplyLimit := min 4095 w }, stored (decide (4095 < w)))
  | _ => (s, .invalid)

/-- R181: the running counts of a timer number. -/
def timerCounts : Nat → List TimerId
  | 0 => [.t0 .e1, .t0 .e2]
  | 1 => [.t1 .e1, .t1 .e2]
  | 2 => [.t2]
  | 3 => [.t3]
  | 4 => [.t4]
  | 5 => [.t5]
  | 6 => [.t6]
  | 7 => [.t7]
  | 8 => [.t8]
  | 9 => [.t9]
  | 10 => [.t10 .a, .t10 .b]
  | 11 => [.t11]
  | 12 => [.t12]
  | 13 => [.t13]
  | 14 => [.t14]
  | 15 => [.t15]
  | _ => []

/-- R180: a count that is running is restarted; a stopped one stays stopped. -/
def rerun (t : TimerId) (s : State) : State := if (s.count t).isSome then startTimer t s else s

/-- R180, R181: the running counts of the timers from number `i` on, `c` of them, are restarted. -/
def rerunTimers (i c : Nat) (s : State) : State :=
  ((List.range c).flatMap fun k => timerCounts (i + k)).foldl (fun s t => rerun t s) s

/-- R177, R180: a WRITE of TIMERS. -/
def writeTimerSettings (q : Req) (s : State) : Written :=
  let new := (words q.data).map settingOf
  let s1 := s.setTimers { s.timers with settings := replaceAt s.timers.settings q.index new }
  (rerunTimers q.index new.length s1,
   stored ((words q.data).any fun w => w % 32768 == 0 || decide (1023 < w % 32768)))

/-- R189: the values of a write are judged, and the write is applied. -/
def writeValues (o : Object) (q : Req) (s : State) : Written :=
  match o with
  | .service => writeServiceTable q s
  | .groups => writeGroupTable q s
  | .lines => writeLineTable q s
  | .generalOut => writeOutputs q s
  | .doorInhibit => writeInhibits q s
  | .coachDescriptor => writeDescriptor q s
  | .heatProfile => writeProfile q s
  | .heatSettings => writeSettings q s
  | .heatDemand => writeDemand q s
  | .supplyLimit => writeLimit q s
  | .timers => writeTimerSettings q s
  | .identity | .status | .consist | .lineLevels | .lineReport | .faults => (s, .denied)

/-- R188, step 2: the object has banks. -/
def Object.banked : Object → Bool
  | .service | .groups => true
  | _ => false

/-- R188, step 3: the count and the data fit. -/
def Object.shapeOk (o : Object) (q : Req) : Bool :=
  q.count != 0 && q.data.length == q.count * o.size
    && (o != .heatProfile || (q.index == 0 && q.count == 8))

/-- R186, R188: a WRITE. -/
def writeObject (a : Access) (q : Req) (s : State) : State × Answer :=
  match objectOf q.object with
  | none => (s, answered .denied)
  | some o =>
    if o.writer ≠ some a then (s, answered .denied)
    else if o.banked && !stagedBank q.object then (s, answered .denied)
    else if !o.shapeOk q then (s, answered .invalid)
    else if !s.indexOk o q.index q.count then (s, answered .absent)
    else ((writeValues o q s).1, answered (writeValues o q s).2)

end Sys2Proof.Machine
end

