-- ==== Sys2Proof/Machine/Tap.lean ====
section
/-! DEFINITION. The tap exchange and the intake of frames from the coach controller, with the TAP commands (Relay
and Delivery, 4.6 and 4.7; R133, R134). -/

namespace Sys2Proof.Machine

open Sys2Proof

/-! ### The exchange (R94, R95) -/

/-- R94: what the node sends in an exchange that begins now. -/
def State.tapReport (s : State) : TapReport :=
  { result := s.relay.intake
    occupancy := s.relay.tapQueue.length
    causeQueue := !s.relay.tapQueue.isEmpty
    causeReport := s.reportPending
    causeFaults := s.faults.news
    head := s.relay.tapQueue.head? }

/-- R20, R94: the select is asserted, and an exchange begins: the node makes out the report that it sends, with the frame
that stands at the head of the tap delivery queue now. In STARTING it does not respond. In a select period that is under
way nothing begins. -/
def beginExchange (s : State) : State :=
  match s.relay.select with
  | .idle =>
    if s.bypass.node = .starting then s.setRelay { s.relay with select := .unserved }
    else s.setRelay { s.relay with report := some s.tapReport, select := .serving (!s.relay.tapQueue.isEmpty) }
  | .unserved | .serving _ => s

/-- R94: the select is released: a frame that the node's part carried leaves the queue if that part completed. -/
def endExchange (done : Bool) (s : State) : State :=
  s.setRelay { s.relay with
    select := .idle
    tapQueue := if done && s.relay.select.carriesHead then s.relay.tapQueue.tail else s.relay.tapQueue }

/-- R94: the node's part of an exchange at its release. An exchange whose beginning was no command of its own begins here,
so that nothing happened in it (log 9). -/
def nodePart (done : Bool) (s : State) : State := endExchange done (beginExchange s)

/-- R20, R94: the exchange that is released now is one the node serves. -/
abbrev State.tapServes (s : State) : Prop := s.bypass.node ≠ .starting ∧ s.relay.select ≠ .unserved

/-- R95: the intake result is set. -/
def setIntake (x : IntakeResult) (s : State) : State := s.setRelay { s.relay with intake := x }

/-- R94, R95: an exchange is released. The controller's part is judged on the state at the release, before the node's part
is taken (log 10): `part` gives the result and what taking the frame does. An exchange that is not served exchanges
nothing. -/
def exchange (done : Bool) (part : State → IntakeResult × (State → State)) (s : State) : State :=
  if s.tapServes then setIntake (part s).1 ((part s).2 (nodePart done s))
  else s.setRelay { s.relay with select := .idle }

/-- A controller's part that takes nothing and has this result. -/
def refusedPart (why : RefuseReason) : IntakeResult × (State → State) := (.refused why, id)

/-- R95: a controller's part refused by the first check that fails, or accepted with an effect. -/
def intakePart (why : Option RefuseReason) (effect : State → State) : IntakeResult × (State → State) :=
  match why with
  | some x => refusedPart x
  | none => (.accepted, effect)

/-- R96, steps 1 and 2, for a frame not addressed to SELF as a management request: the form, and the node state. -/
def State.intakeGate (s : State) (f : Frame) : Option RefuseReason :=
  if !f.tapFormOk then some .invalid
  else if s.bypass.node = .operating then none
  else some .denied

/-- R24, R25, R27, R35: the header of a tap frame as the node stamps it, with phase and spare bits 0 (log 24). -/
def State.stamped (s : State) (sel : Selector) (tag : Nat) : Header := { s.ownHeader tag with sel := sel }

/-- R98, R99: the ports on which a frame from the tap needs a copy. -/
def State.copyPorts (s : State) (sel : Selector) : List Port :=
  match sel.type with
  | .position => [s.portToward sel.value]
  | .group | .all => s.upPorts
  | .self => []

/-- R98: every copy fits its queue. -/
def State.copiesFit (s : State) (l : List Port) (level : Level) : Bool := l.all fun p => s.hasRoom p level

/-- R98: the copies are queued. -/
def sendCopies (l : List Port) (level : Level) (q : Queued) (s : State) : State :=
  l.foldl (fun s p => enqueue p level q s) s

/-! ### DATA from the tap (R97, R98) -/

/-- R97: POSITION and equal to the own position. -/
def State.addressesSelf (s : State) (sel : Selector) : Bool :=
  sel.type == .self || (sel.type == .position && sel.value == s.consist.position)

/-- R97: POSITION above the number of entries of the consist table. -/
def State.beyondConsist (s : State) (sel : Selector) : Bool :=
  sel.type == .position && decide (s.consist.table.length < sel.value)

/-- R97, R98: the first check a DATA frame from the tap fails. -/
def State.dataRefused (s : State) (sel : Selector) (service size : Nat) : Option RefuseReason :=
  let e := s.service service
  if !s.settled then some .notInaugurated
  else if !e.originate then some .denied
  else if s.addressesSelf sel then some .self
  else if e.maxPayload < size then some .invalid
  else if s.beyondConsist sel then some .invalid
  else if sel.type = .position ∧ s.isUp (s.portToward sel.value) = false then some .denied
  else if s.copiesFit (s.copyPorts sel) e.level then none
  else some .queueFull

/-- R98: a DATA frame from the tap, as it is queued. -/
def State.tapDataQueued (s : State) (sel : Selector) (tag : Nat) (payload : List Byte) : Queued :=
  ⟨⟨s.stamped sel tag, .data payload⟩, some s.relay.generation, false⟩

/-- R98: the copies of a DATA frame from the tap are queued. -/
def originateData (sel : Selector) (tag : Nat) (payload : List Byte) (s : State) : State :=
  sendCopies (s.copyPorts sel) (s.service tag).level (s.tapDataQueued sel tag payload) s

/-- The record the controller sends (R35); its epoch and origin position are not examined. -/
def tapRecord (sel : Selector) (m : TapMark) (b : Body) : Frame := ⟨⟨m.phase, sel, m.spare, 0, 0, m.tag⟩, b⟩

/-- R96 to R98: a DATA record is judged and taken. -/
def dataPart (sel : Selector) (m : TapMark) (payload : List Byte) (s : State) : IntakeResult × (State → State) :=
  match s.intakeGate (tapRecord sel m (.data payload)) with
  | some why => refusedPart why
  | none => intakePart (s.dataRefused sel m.tag payload.length) (originateData sel m.tag payload)

/-- TAP_DATA (R94 to R98). -/
def execTapData (done : Bool) (sel : Selector) (m : TapMark) (payload : List Byte) (s : State) :
    Host.Outcome State Fault Refusal :=
  .next (exchange done (dataPart sel m payload) s)

/-! ### Door commands from the tap (R100, R133, R134) -/

/-- R133: the door unit's check of a RELEASE. -/
def State.releaseRefused (s : State) (side : TrainSide) : Option RefuseReason :=
  if side = .both then some .invalid
  else if !s.present .zeroSpeed then some .invalid
  else if !s.asserted .zeroSpeed then some .denied
  else none

/-- R100: the port of a door command's one copy, if it needs one. -/
def State.doorCopy (s : State) (sel : Selector) : List Port :=
  if sel.type = .position ∧ sel.value = 1 then [] else [s.rearwardPort].filter (fun p => s.isUp p)

/-- R100: the relay unit's checks on a door command before the door unit's. -/
def State.doorGate (s : State) (sel : Selector) : Option RefuseReason :=
  if !s.stableMaster then some .denied
  else if sel.type = .self then some .self
  else if s.beyondConsist sel then some .invalid
  else none

/-- R100: the copy of a door command does not fit. -/
def State.doorFull (s : State) (sel : Selector) : Option RefuseReason :=
  if s.copiesFit (s.doorCopy sel) .urgent then none else some .queueFull

/-- R134, steps 3 and 4 at the master's own coach. -/
def actOwnCoach (c : DoorCommand) (sel : Selector) (side : TrainSide) (s : State) : State :=
  let s1 := if c = .release then dropInterlock s else s
  if s1.inScope sel 1 then
    match c with
    | .release => applyReleases (coachSides s1.consist.orientation side) s1
    | .close => applyCloses (coachSides s1.consist.orientation side) s1
  else s1

/-- R134: a door command is originated: its number, its at-rest flag, the master's own coach, and the copy. -/
def originateDoor (c : DoorCommand) (sel : Selector) (side : TrainSide) (s : State) : State :=
  let f : Frame :=
    ⟨{ s.stamped sel s.door.commandCounter with origin := 1 }, .doorCmd c side (s.asserted .zeroSpeed)⟩
  let s1 := s.setDoor { s.door with commandCounter := next256 s.door.commandCounter }
  sendCopies (s.doorCopy sel) .urgent (plain f) (actOwnCoach c sel side s1)

/-- R96, R100: a DOOR_CMD record is judged by the checks in order, `own` being the door unit's, and taken. -/
def doorPart (c : DoorCommand) (own : Option RefuseReason) (sel : Selector) (m : TapMark) (side : TrainSide)
    (atRest : Bool) (s : State) : IntakeResult × (State → State) :=
  intakePart
    ((s.intakeGate (tapRecord sel m (.doorCmd c side atRest))).or
      ((s.doorGate sel).or (own.or (s.doorFull sel))))
    (originateDoor c sel side)

/-- TAP_DOOR_CMD_RELEASE (R94 to R96, R100, R133, R134). -/
def execTapDoorCmdRelease (done : Bool) (sel : Selector) (m : TapMark) (side : TrainSide) (atRest : Bool)
    (s : State) : Host.Outcome State Fault Refusal :=
  .next (exchange done (fun s => doorPart .release (s.releaseRefused side) sel m side atRest s) s)

/-- TAP_DOOR_CMD_CLOSE (R94 to R96, R100, R133, R134). -/
def execTapDoorCmdClose (done : Bool) (sel : Selector) (m : TapMark) (side : TrainSide) (atRest : Bool)
    (s : State) : Host.Outcome State Fault Refusal :=
  .next (exchange done (fun s => doorPart .close none sel m side atRest s) s)

/-! ### Management requests to the train (R99) -/

/-- R99: a destination as a selector. -/
def selectorOf : Dest → Selector
  | .position k => ⟨.position, k⟩
  | .group g => ⟨.group, g⟩
  | .all => ⟨.all, 0⟩

/-- R99: the first check a MGMT_REQ to the train fails. -/
def State.requestRefused (s : State) (sel : Selector) : Option RefuseReason :=
  if !s.stableMaster then some .denied
  else if s.addressesSelf sel then some .self
  else if s.beyondConsist sel then some .invalid
  else if s.copiesFit (s.copyPorts sel) .control then none
  else some .queueFull

/-- R99: the copies of a MGMT_REQ are queued, with origin position 1 and the request number kept. -/
def originateRequest (sel : Selector) (tag : Nat) (b : Body) (s : State) : State :=
  sendCopies (s.copyPorts sel) .control (plain ⟨{ s.stamped sel tag with origin := 1 }, b⟩) s

/-- R96, R99: a MGMT_REQ record to the train is judged and taken. -/
def requestPart (sel : Selector) (m : TapMark) (b : Body) (s : State) : IntakeResult × (State → State) :=
  intakePart ((s.intakeGate (tapRecord sel m b)).or (s.requestRefused sel)) (originateRequest sel m.tag b)

/-- TAP_MGMT_REQ_TO_TRAIN (R94 to R96, R99). -/
def execTapMgmtReqToTrain (done : Bool) (dest : Dest) (m : TapMark) (code : ReqCode) (q : Req) (s : State) :
    Host.Outcome State Fault Refusal :=
  .next (exchange done (requestPart (selectorOf dest) m (.mgmtReq code q)) s)

/-! ### Exchanges without a frame for the node (R94 to R96) -/

/-- R35, R94, R96: the intake result of a record refused before its kind's own rule sees it. -/
def State.refusal (s : State) : RecordFailure → RefuseReason
  | .kind => .badKind
  | .notOriginable => if s.bypass.node = .operating then .badKind else .denied
  | .cutShort | .length | .crc | .form => .invalid

/-- TAP_EXCHANGE (R94 to R96): the beginning of an exchange, or the release of one in which the controller sent no frame
or a record that is refused. -/
def execTapExchange (done : Bool) (part : TapPart) (s : State) : Host.Outcome State Fault Refusal :=
  .next (match part with
    | .begins => beginExchange s
    | .nothing => exchange done (fun _ => (.none, id)) s
    | .refusedRecord why => exchange done (fun s => refusedPart (s.refusal why)) s)

end Sys2Proof.Machine
end

