-- ==== Sys2Proof/Machine/Management.lean ====
section
/-! DEFINITION. Management requests: the two ways they arrive, their class, the checks before a request's own rule,
the answers, and one meaning for each request command (Management Requests). -/

namespace Sys2Proof.Machine

open Sys2Proof

/-! ### Judging (R185) -/

/-- R185: the table of what each class may ask. -/
def requestAllowed (a : Access) : ReqCode → Bool
  | .read | .write | .clearFaults | .restart => true
  | .commit => a == .train
  | .reinaugurate | .withdraw | .clearLockout => a == .ownTap

/-- R185, checks 1 to 3: the status of a request that fails one. -/
def State.requestGate (s : State) (a : Access) (c : ReqCode) : Option Status :=
  if s.bypass.node ≠ .operating ∧ c ≠ .read then some .denied
  else if s.mgmt.restart ≠ .none ∧ c ≠ .read then some .busy
  else if requestAllowed a c then none
  else some .denied

/-- R192: the payload of the response to a request. -/
def responseTo (c : ReqCode) (q : Req) (st : Status) (data : List Byte) : RspBody := ⟨st, c, q.object, q.index, data⟩

/-- R192: the way an answer goes: to the own tap, or toward position 1. -/
def place (a : Access) (tag : Nat) (x : RspBody) (s : State) : State :=
  match a with
  | .ownTap => answerLocal tag x s
  | .train => answerTrain 1 tag x s

/-- R185, R192: a request is judged, carried out by `act`, and answered. -/
def serve (c : ReqCode) (q : Req) (act : Access → Nat → State → State × Answer) (a : Access) (tag : Nat)
    (s : State) : State :=
  match s.requestGate a c with
  | some st => place a tag (responseTo c q st []) s
  | none =>
    match act a tag s with
    | (s1, some (st, data)) => place a tag (responseTo c q st data) s1
    | (s1, none) => s1

/-! ### The two ways (R99, R183, R184) -/

/-- R99, R183: the record of a request to the own node. -/
def selfRecord (tag : Nat) (c : ReqCode) (q : Req) : Frame := ⟨⟨false, ⟨.self, 0⟩, false, 0, 0, tag⟩, .mgmtReq c q⟩

/-- R96, R99: the intake of a request to the own node. -/
def selfPart (tag : Nat) (c : ReqCode) (q : Req) (take : State → State) (s : State) :
    IntakeResult × (State → State) :=
  if !(selfRecord tag c q).tapFormOk then refusedPart .invalid
  else if 12 ≤ s.relay.tapQueue.length then refusedPart .queueFull
  else (.accepted, take)

/-- R184: a request in scope belongs to the TRAIN class. -/
def State.trainClass (s : State) (h : Header) : Bool :=
  h.origin == 1 && s.epochMatches h.epoch && s.settled && s.consist.position != 1

/-- R184: a request that was not misrouted reaches the management unit, if it is in scope. -/
def takeTrainRequest (p : Port) (h : Header) (take : State → State) (s : State) : State :=
  if s.inScope h.sel s.consist.position then
    if s.trainClass h then take s else recordFault .denied (.port p) s
  else s

/-- R82, R183, R184: a request arrives, and `take` is what the management unit does with it. -/
def request (v : Via) (c : ReqCode) (q : Req) (take : Access → Nat → State → State) (s : State) : State :=
  match v with
  | .tap done tag => exchange done (selfPart tag c q (take .ownTap tag)) s
  | .train p h =>
    let f : Frame := ⟨h, .mgmtReq c q⟩
    frameArrives p f (routed p f (takeTrainRequest p h (take .train h.tag))) s

/-- R39: a request for the object of code `n`, with the bank and spare bits the request gives. -/
def forObject (n : Nat) (q : Req) : Req := { q with object := (q.object &&& 0xE0#8) ||| byte n }

/-! ### READ (R187) and WRITE (R188) -/

/-- R187: a READ as the management unit carries it out. -/
def carryRead (q : Req) (a : Access) (_tag : Nat) (s : State) : State × Answer := readObject a q s

/-- R188: a WRITE as the management unit carries it out. -/
def carryWrite (q : Req) (a : Access) (_tag : Nat) (s : State) : State × Answer := writeObject a q s

/-- R187: a READ request. -/
def readRequest (v : Via) (q : Req) (s : State) : State := request v .read q (serve .read q (carryRead q)) s

/-- R188: a WRITE request. -/
def writeRequest (v : Via) (q : Req) (s : State) : State := request v .write q (serve .write q (carryWrite q)) s

/-- READ (R187). -/
def execRead (v : Via) (q : Req) (s : State) : Host.Outcome State Fault Refusal := .next (readRequest v q s)

/-- READ_LINE_REPORT (R115, R187): a READ of object 8. -/
def execReadLineReport (v : Via) (q : Req) (s : State) : Host.Outcome State Fault Refusal :=
  .next (readRequest v (forObject 8 q) s)

/-- READ_FAULTS (R187, R203): a READ of object 17. -/
def execReadFaults (v : Via) (q : Req) (s : State) : Host.Outcome State Fault Refusal :=
  .next (readRequest v (forObject 17 q) s)

/-- WRITE (R186, R188). -/
def execWrite (v : Via) (q : Req) (s : State) : Host.Outcome State Fault Refusal := .next (writeRequest v q s)

/-- WRITE_SERVICE (R75, R77): a WRITE of object 4. -/
def execWriteService (v : Via) (q : Req) (s : State) : Host.Outcome State Fault Refusal :=
  .next (writeRequest v (forObject 4 q) s)

/-- WRITE_GROUPS (R76, R77): a WRITE of object 5. -/
def execWriteGroups (v : Via) (q : Req) (s : State) : Host.Outcome State Fault Refusal :=
  .next (writeRequest v (forObject 5 q) s)

/-- WRITE_LINES (R105, R107, R108, R116): a WRITE of object 6. -/
def execWriteLines (v : Via) (q : Req) (s : State) : Host.Outcome State Fault Refusal :=
  .next (writeRequest v (forObject 6 q) s)

/-- WRITE_GENERAL_OUT (R111): a WRITE of object 9. -/
def execWriteGeneralOut (v : Via) (q : Req) (s : State) : Host.Outcome State Fault Refusal :=
  .next (writeRequest v (forObject 9 q) s)

/-- WRITE_DOOR_INHIBIT (R123, R130): a WRITE of object 10. -/
def execWriteDoorInhibit (v : Via) (q : Req) (s : State) : Host.Outcome State Fault Refusal :=
  .next (writeRequest v (forObject 10 q) s)

/-- WRITE_COACH_DESCRIPTOR (R73, R132): a WRITE of object 11. -/
def execWriteCoachDescriptor (v : Via) (q : Req) (s : State) : Host.Outcome State Fault Refusal :=
  .next (writeRequest v (forObject 11 q) s)

/-- WRITE_HEAT_PROFILE (R152, R166): a WRITE of object 12. -/
def execWriteHeatProfile (v : Via) (q : Req) (s : State) : Host.Outcome State Fault Refusal :=
  .next (writeRequest v (forObject 12 q) s)

/-- WRITE_HEAT_SETTINGS (R154, R169): a WRITE of object 13. -/
def execWriteHeatSettings (v : Via) (q : Req) (s : State) : Host.Outcome State Fault Refusal :=
  .next (writeRequest v (forObject 13 q) s)

/-- WRITE_HEAT_DEMAND (R153): a WRITE of object 14. -/
def execWriteHeatDemand (v : Via) (q : Req) (s : State) : Host.Outcome State Fault Refusal :=
  .next (writeRequest v (forObject 14 q) s)

/-- WRITE_SUPPLY_LIMIT (R154): a WRITE of object 15. -/
def execWriteSupplyLimit (v : Via) (q : Req) (s : State) : Host.Outcome State Fault Refusal :=
  .next (writeRequest v (forObject 15 q) s)

/-- WRITE_TIMERS (R177, R180): a WRITE of object 16. -/
def execWriteTimers (v : Via) (q : Req) (s : State) : Host.Outcome State Fault Refusal :=
  .next (writeRequest v (forObject 16 q) s)

/-! ### COMMIT (R86, R88, R190, R191) -/

/-- R86: both tables are copied from the staged to the active bank, and the generation is raised. -/
def commitBanks (s : State) : State :=
  s.setRelay { s.relay with
    serviceActive := s.relay.serviceStaged, groupsActive := s.relay.groupsStaged
    generation := next256 s.relay.generation }

/-- R88, R190, R191: a drain is pending, for the COMMIT with this request number. -/
def beginDrain (tag : Nat) (s : State) : State :=
  let s1 := startTimer .t15 (s.setRelay { s.relay with draining := true })
  s1.setMgmt { s1.mgmt with commit := some ⟨tag, 1⟩ }

/-- R190: a COMMIT as the management unit carries it out; the index is the drain flag. -/
def carryCommit (q : Req) (_a : Access) (tag : Nat) (s : State) : State × Answer :=
  if 1 < q.index then (s, answered .invalid)
  else if s.relay.draining then (s, answered .busy)
  else
    let s1 := commitBanks s
    if q.index = 0 then (s1, answered .ok)
    else if s1.olderCount = 0 then (s1, some (.ok, [0]))
    else (beginDrain tag s1, none)

/-- COMMIT (R86, R190). -/
def execCommit (v : Via) (q : Req) (s : State) : Host.Outcome State Fault Refusal :=
  .next (request v .commit q (serve .commit q (carryCommit q)) s)

/-- R39: a COMMIT whose index asks for a drain. -/
def withDrain (q : Req) : Req := { q with index := 1 }

/-- COMMIT_WITH_DRAIN (R88, R190, R191): a COMMIT with index 1. -/
def execCommitWithDrain (v : Via) (q : Req) (s : State) : Host.Outcome State Fault Refusal :=
  .next (request v .commit (withDrain q) (serve .commit (withDrain q) (carryCommit (withDrain q))) s)

/-! ### The other requests (R194 to R197) -/

/-- R194, R204: slots are freed. -/
def clearTable (i : Nat) (t : FaultTable) : FaultTable :=
  if i = 255 then ⟨t.slots.map fun _ => none, false⟩ else { t with slots := t.slots.set i none }

/-- R194: CLEAR_FAULTS as the management unit carries it out. -/
def carryClear (q : Req) (_a : Access) (_tag : Nat) (s : State) : State × Answer :=
  if q.index ≤ 7 ∨ q.index = 255 then (s.setFaults (clearTable q.index s.faults), answered .ok)
  else (s, answered .absent)

/-- CLEAR_FAULTS (R194, R204). -/
def execClearFaults (v : Via) (q : Req) (s : State) : Host.Outcome State Fault Refusal :=
  .next (request v .clearFaults q (serve .clearFaults q (carryClear q)) s)

/-- R195: REINAUGURATE as the management unit carries it out. -/
def carryReinaugurate (_a : Access) (_tag : Nat) (s : State) : State × Answer :=
  if s.isMaster then (trigger s, answered .ok) else (s, answered .denied)

/-- REINAUGURATE (R46, R195). -/
def execReinaugurate (v : Via) (q : Req) (s : State) : Host.Outcome State Fault Refusal :=
  .next (request v .reinaugurate q (serve .reinaugurate q carryReinaugurate) s)

/-- R171: LOCKED_OUT is cleared, and the comparison is judged afresh. -/
def clearLockedOut (s : State) : State :=
  if s.heat.lockedOut then judgeFeedback (s.setHeat { s.heat with lockedOut := false }) else s

/-- R171, R195: CLEAR_LOCKOUT as the management unit carries it out. -/
def carryClearLockout (_a : Access) (_tag : Nat) (s : State) : State × Answer := (clearLockedOut s, answered .ok)

/-- CLEAR_LOCKOUT (R171, R195). -/
def execClearLockout (v : Via) (q : Req) (s : State) : Host.Outcome State Fault Refusal :=
  .next (request v .clearLockout q (serve .clearLockout q carryClearLockout) s)

/-- R196: the response of a TRAIN RESTART, marked as such while it waits. -/
def State.restartResponse (s : State) (q : Req) (tag : Nat) : Queued :=
  ⟨s.answer ⟨.position, 1⟩ tag (responseTo .restart q .ok []), none, true⟩

/-- R196: a TRAIN RESTART: its response is queued and the restart is pending, or the node restarts at once. -/
def restartAfterResponse (levels : Levels) (q : Req) (tag : Nat) (s : State) : State :=
  let s1 := enqueue s.answerPort .control (s.restartResponse q tag) s
  if s.isUp s.answerPort && s.hasRoom s.answerPort .control then s1.setMgmt { s1.mgmt with restart := .waiting }
  else restartNode levels s1

/-- R196: RESTART as the management unit carries it out. -/
def carryRestart (levels : Levels) (q : Req) (a : Access) (tag : Nat) (s : State) : State × Answer :=
  match a with
  | .ownTap => (restartNode levels s, answered .ok)
  | .train => (restartAfterResponse levels q tag s, none)

/-- RESTART (R196). -/
def execRestart (v : Via) (q : Req) (levels : Levels) (s : State) : Host.Outcome State Fault Refusal :=
  .next (request v .restart q (serve .restart q (carryRestart levels q)) s)

/-- R21, R197: WITHDRAW as the management unit carries it out: the response is placed, and the node then enters
WITHDRAWING. -/
def carryWithdraw (q : Req) (a : Access) (tag : Nat) (s : State) : State × Answer :=
  (enterWithdrawing (place a tag (responseTo .withdraw q .ok []) s), none)

/-- WITHDRAW (R21, R197). -/
def execWithdraw (v : Via) (q : Req) (s : State) : Host.Outcome State Fault Refusal :=
  .next (request v .withdraw q (serve .withdraw q (carryWithdraw q)) s)

end Sys2Proof.Machine
end

