-- ==== Sys2Proof/Machine/Relay.lean ====
section
/-! DEFINITION. The commands of the relay unit: DATA and MGMT_RSP frames from the train, and the expiry of T15
(Relay and Delivery; R193). -/

namespace Sys2Proof.Machine

open Sys2Proof

/-! ### DATA (R78 to R81) -/

/-- R80: the selector addresses this node, for a frame that does not end its way here. -/
def State.addressed (s : State) (sel : Selector) : Bool :=
  match sel.type with
  | .all => true
  | .group => s.inGroup sel.value
  | _ => false

/-- R80: a frame of this service is delivered to the tap. -/
def ServiceEntry.delivers (e : ServiceEntry) (addressed : Bool) : Bool :=
  match e.delivery with
  | .never => false
  | .addressed => addressed
  | .copy => true

/-- R80, R81: the delivery of an arriving DATA frame. -/
def deliverData (e : ServiceEntry) (addressed : Bool) (f : Frame) (s : State) : State :=
  if e.delivers addressed then deliver f s else s

/-- R80, R81, R87: the forwarding of a DATA frame out of a port, with its generation tag. -/
def forwardData (e : ServiceEntry) (p : Port) (f : Frame) (s : State) : State :=
  match e.forward with
  | .pass => enqueue p e.level ⟨f, some s.relay.generation, false⟩ s
  | .stop => s

/-- R78 to R81: a DATA frame reaches the relay unit. -/
def takeData (p : Port) (h : Header) (payload : List Byte) (s : State) : State :=
  let f : Frame := ⟨h, .data payload⟩
  let e := s.service h.tag
  if !(s.settled && s.epochMatches h.epoch) then recordFault .staleEpoch (.port p) s
  else if e.maxPayload < payload.length then recordFault .oversize (.port p) s
  else match s.route p h.sel with
    | .misrouted => recordFault .misroute (.port p) s
    | .here => deliverData e true f s
    | .onward => forwardData e p.other f (deliverData e (s.addressed h.sel) f s)

/-- DATA (R78 to R81). -/
def execData (p : Port) (h : Header) (payload : List Byte) (s : State) : Host.Outcome State Fault Refusal :=
  .next (frameArrives p ⟨h, .data payload⟩ (takeData p h payload) s)

/-! ### MGMT_RSP (R193) -/

/-- R193: this node is the addressee of a response under its epoch. -/
def State.responseMine (s : State) (h : Header) : Bool :=
  h.sel.type == .position && s.inScope h.sel s.consist.position && s.epochMatches h.epoch

/-- R193: a MGMT_RSP reaches the management unit. -/
def takeResponse (f : Frame) (s : State) : State := if s.responseMine f.header then deliver f s else s

/-- MGMT_RSP (R82, R193). -/
def execMgmtRsp (p : Port) (h : Header) (x : RspBody) (s : State) : Host.Outcome State Fault Refusal :=
  let f : Frame := ⟨h, .mgmtRsp x⟩
  .next (frameArrives p f (routed p f (takeResponse f)) s)

/-! ### Drain timeout (R89) -/

/-- R89: the frame being sent stands at the head of this queue and is older; an earlier drain may have left it there
already. -/
def State.sendingOlder (s : State) (p : Port) (l : Level) : Bool :=
  match (s.port p).tx with
  | .frame l' q .queued | .frame l' q .doomed => l' == l && s.older q
  | _ => false

/-- R89: a queue with its older frames discarded, but for one that is being sent. -/
def State.keptAtDrain (s : State) (p : Port) (l : Level) : List Queued :=
  let old := (s.queues p).get l
  if s.sendingOlder p l then old.take 1 ++ (old.drop 1).filter (fun q => !s.older q)
  else old.filter (fun q => !s.older q)

/-- R89: the queues of a port after the expiry of the drain timeout. -/
def State.drainedQueues (s : State) (p : Port) : Queues :=
  ⟨s.keptAtDrain p .urgent, s.keptAtDrain p .control, s.keptAtDrain p .bulk⟩

/-- R89: a frame being sent that is older runs to its end, and is then discarded if it was not sent. -/
def State.doomed (s : State) (t : Transmitter) : Transmitter :=
  match t with
  | .frame l q .queued => if s.older q then .frame l q .doomed else t
  | _ => t

/-- R89: the number of frames a queue lost. -/
def State.discardedAt (s : State) (p : Port) : Nat :=
  (s.queues p).frames.length - (s.drainedQueues p).frames.length

/-- R89: the older frames of both ports are discarded. -/
def discardOlder (s : State) : State :=
  let s1 := s.setRelay { s.relay with queues := ⟨s.drainedQueues .e1, s.drainedQueues .e2⟩ }
  s1.setPorts ⟨{ s.ports.e1 with tx := s.doomed s.ports.e1.tx }, { s.ports.e2 with tx := s.doomed s.ports.e2.tx }⟩

/-- R89: the drain timeout at a pending drain. -/
def drainTimedOut (s : State) : State :=
  drainDone (s.discardedAt .e1 + s.discardedAt .e2) (recordFault .drainDiscard .node (discardOlder s))

/-- DRAIN_TIMEOUT (R89): T15 has run out. -/
def execDrainTimeout (s : State) : Host.Outcome State Fault Refusal :=
  .next (if s.ranOut .t15 then
    let s1 := takeExpiry .t15 s
    if s1.relay.draining then drainTimedOut s1 else s1
  else s)

end Sys2Proof.Machine
end

