-- ==== Sys2Proof/Machine/Dispatch.lean ====
section
/-! DEFINITION. One arm for each command: its meaning. -/

namespace Sys2Proof.Machine

open Sys2Proof

def exec (i : Instr) (s : State) : Host.Outcome State Fault Refusal :=
  match i with
  | .powerOn => Sys2Proof.Machine.execPowerOn s
  | .startCheckComplete pass => Sys2Proof.Machine.execStartCheckComplete pass s
  | .portStart => Sys2Proof.Machine.execPortStart s
  | .probeIntervalExpiry p => Sys2Proof.Machine.execProbeIntervalExpiry p s
  | .probeSend p => Sys2Proof.Machine.execProbeSend p s
  | .frameBegin p => Sys2Proof.Machine.execFrameBegin p s
  | .arbitrationLost p place => Sys2Proof.Machine.execArbitrationLost p place s
  | .frameSent p => Sys2Proof.Machine.execFrameSent p s
  | .probeReceived x => Sys2Proof.Machine.execProbeReceived x s
  | .invalidItem p cause => Sys2Proof.Machine.execInvalidItem p cause s
  | .breakReceived x => Sys2Proof.Machine.execBreakReceived x s
  | .breakHoldoffEnd => Sys2Proof.Machine.execBreakHoldoffEnd s
  | .linkSilenceTimeout p => Sys2Proof.Machine.execLinkSilenceTimeout p s
  | .data p h payload => Sys2Proof.Machine.execData p h payload s
  | .doorCmdRelease p h side atRest => Sys2Proof.Machine.execDoorCmdRelease p h side atRest s
  | .doorCmdClose p h side atRest => Sys2Proof.Machine.execDoorCmdClose p h side atRest s
  | .doorAlert p h x => Sys2Proof.Machine.execDoorAlert p h x s
  | .sumOut p h x => Sys2Proof.Machine.execSumOut p h x s
  | .sumBack p h x => Sys2Proof.Machine.execSumBack p h x s
  | .topo p h x => Sys2Proof.Machine.execTopo p h x s
  | .rollCall p h x => Sys2Proof.Machine.execRollCall p h x s
  | .rollBack p h x => Sys2Proof.Machine.execRollBack p h x s
  | .confirmOut p h x => Sys2Proof.Machine.execConfirmOut p h x s
  | .confirmDone p h master => Sys2Proof.Machine.execConfirmDone p h master s
  | .heatOut p h x => Sys2Proof.Machine.execHeatOut p h x s
  | .heatBack p h x => Sys2Proof.Machine.execHeatBack p h x s
  | .mgmtRsp p h x => Sys2Proof.Machine.execMgmtRsp p h x s
  | .tapExchange done part => Sys2Proof.Machine.execTapExchange done part s
  | .tapData done sel m payload => Sys2Proof.Machine.execTapData done sel m payload s
  | .tapDoorCmdRelease done sel m side atRest => Sys2Proof.Machine.execTapDoorCmdRelease done sel m side atRest s
  | .tapDoorCmdClose done sel m side atRest => Sys2Proof.Machine.execTapDoorCmdClose done sel m side atRest s
  | .tapMgmtReqToTrain done dest m code q => Sys2Proof.Machine.execTapMgmtReqToTrain done dest m code q s
  | .read v q => Sys2Proof.Machine.execRead v q s
  | .readLineReport v q => Sys2Proof.Machine.execReadLineReport v q s
  | .readFaults v q => Sys2Proof.Machine.execReadFaults v q s
  | .write v q => Sys2Proof.Machine.execWrite v q s
  | .writeService v q => Sys2Proof.Machine.execWriteService v q s
  | .writeGroups v q => Sys2Proof.Machine.execWriteGroups v q s
  | .writeLines v q => Sys2Proof.Machine.execWriteLines v q s
  | .writeGeneralOut v q => Sys2Proof.Machine.execWriteGeneralOut v q s
  | .writeDoorInhibit v q => Sys2Proof.Machine.execWriteDoorInhibit v q s
  | .writeCoachDescriptor v q => Sys2Proof.Machine.execWriteCoachDescriptor v q s
  | .writeHeatProfile v q => Sys2Proof.Machine.execWriteHeatProfile v q s
  | .writeHeatSettings v q => Sys2Proof.Machine.execWriteHeatSettings v q s
  | .writeHeatDemand v q => Sys2Proof.Machine.execWriteHeatDemand v q s
  | .writeSupplyLimit v q => Sys2Proof.Machine.execWriteSupplyLimit v q s
  | .writeTimers v q => Sys2Proof.Machine.execWriteTimers v q s
  | .commit v q => Sys2Proof.Machine.execCommit v q s
  | .commitWithDrain v q => Sys2Proof.Machine.execCommitWithDrain v q s
  | .clearFaults v q => Sys2Proof.Machine.execClearFaults v q s
  | .reinaugurate v q => Sys2Proof.Machine.execReinaugurate v q s
  | .restart v q levels => Sys2Proof.Machine.execRestart v q levels s
  | .pendingRestart levels => Sys2Proof.Machine.execPendingRestart levels s
  | .withdraw v q => Sys2Proof.Machine.execWithdraw v q s
  | .withdrawComplete => Sys2Proof.Machine.execWithdrawComplete s
  | .clearLockout v q => Sys2Proof.Machine.execClearLockout v q s
  | .qualifiedEdge n => Sys2Proof.Machine.execQualifiedEdge n s
  | .settleExpiry => Sys2Proof.Machine.execSettleExpiry s
  | .callTimeout => Sys2Proof.Machine.execCallTimeout s
  | .confirmTimeout => Sys2Proof.Machine.execConfirmTimeout s
  | .pendingTimeout => Sys2Proof.Machine.execPendingTimeout s
  | .suspectTimeout => Sys2Proof.Machine.execSuspectTimeout s
  | .masterSilenceTimeout => Sys2Proof.Machine.execMasterSilenceTimeout s
  | .summaryPeriodExpiry => Sys2Proof.Machine.execSummaryPeriodExpiry s
  | .summaryReturnTimeout => Sys2Proof.Machine.execSummaryReturnTimeout s
  | .closeTimeout side => Sys2Proof.Machine.execCloseTimeout side s
  | .heatPeriodExpiry => Sys2Proof.Machine.execHeatPeriodExpiry s
  | .heatReturnTimeout => Sys2Proof.Machine.execHeatReturnTimeout s
  | .heatSupervisionTimeout => Sys2Proof.Machine.execHeatSupervisionTimeout s
  | .feedbackMismatchTimeout => Sys2Proof.Machine.execFeedbackMismatchTimeout s
  | .drainTimeout => Sys2Proof.Machine.execDrainTimeout s
  | .timebaseStep now => Sys2Proof.Machine.execTimebaseStep now s
  | .returnBetweenFrames p => Sys2Proof.Machine.execReturnBetweenFrames p s

end Sys2Proof.Machine
end

