-- ==== Sys2Proof/Safety.lean ====
section
/-! DEFINITION. What the manual says holds of a node at every moment, as conditions on its state: the invariants the
statements speak of. -/

namespace Sys2Proof.Machine

open Sys2Proof

/-! ### Queues (R83, R84, R92) -/

/-- R83: a port holds at most 4 URGENT, 6 CONTROL and 12 BULK frames. -/
abbrev QueuesBounded (x : Queues) : Prop := x.urgent.length ≤ 4 ∧ x.control.length ≤ 6 ∧ x.bulk.length ≤ 12

/-- R16, R84: a port whose link state is not UP holds no queued frame. -/
abbrev State.DownEmpty (s : State) (p : Port) : Prop := s.isUp p = true ∨ s.queues p = Queues.empty

/-- R20: no port is UP before the ports are started. -/
abbrev State.StartedUp (s : State) : Prop := s.bypass.started = true ∨ s.isUp .e1 = false ∧ s.isUp .e2 = false

/-- R16, R20, R83, R84: the transmit queues of both ports. -/
abbrev State.QueuesSafe (s : State) : Prop :=
  QueuesBounded (s.queues .e1) ∧ QueuesBounded (s.queues .e2) ∧ s.DownEmpty .e1 ∧ s.DownEmpty .e2 ∧ s.StartedUp

/-- The frames of a list that are of no urgent kind (R29). -/
def ordinary (l : List Frame) : List Frame := l.filter fun f => !Body.urgent f.body

/-- R20, R92, R94: the tap delivery queue holds at most 16 frames, of which at most 12 are of non-urgent kinds; an exchange
that sends the head frame finds it there, and none is served in STARTING. -/
abbrev State.TapSafe (s : State) : Prop :=
  s.relay.tapQueue.length ≤ 16 ∧ (ordinary s.relay.tapQueue).length ≤ 12
    ∧ (s.relay.select = .serving true → s.relay.tapQueue ≠ [])
    ∧ (∀ b, s.relay.select = .serving b → s.bypass.node ≠ .starting)

/-! ### Fault table (R199) -/

/-- R199: what no two records share. -/
def FaultTable.keys (t : FaultTable) : List (FaultKind × FaultSource) :=
  t.slots.filterMap fun x => x.map fun r => (r.kind, r.source)

/-- R199: the count of every record is from 1 to 255. -/
abbrev FaultTable.CountsOk (t : FaultTable) : Prop := ∀ x ∈ t.slots, ∀ r ∈ x, 1 ≤ r.count ∧ r.count ≤ 255

/-- R199: eight slots, no two records of one kind and source, and every count from 1 to 255. -/
abbrev FaultTable.Safe (t : FaultTable) : Prop := t.slots.length = 8 ∧ t.keys.Nodup ∧ t.CountsOk

/-! ### Lines (R104, R105, R111, R113) -/

/-- R105: the functions that stand on at most one line. -/
def State.uniqueFunctions (s : State) : List LineFunction :=
  (s.lines.line.map fun x => x.entry.function).filter fun f => f != .none && f != .generalIn && f != .generalOut

/-- R104, R111, R113: one line: debounce at most 250 ms, a general output level only where GENERAL_OUT stands, and in
the change report exactly while LATCHED. -/
abbrev LineOk (l : LineRecord) : Prop :=
  l.entry.debounce ≤ 250 ∧ (l.generalOut = true → l.entry.function = .generalOut)
    ∧ (l.reported = true ↔ l.condition = .latched)

/-- R104, R105: sixteen lines, and no other function than GENERAL_IN, GENERAL_OUT and NONE on two of them. -/
abbrev State.LinesSafe (s : State) : Prop :=
  s.lines.line.length = 16 ∧ s.uniqueFunctions.Nodup ∧ ∀ l ∈ s.lines.line, LineOk l

/-- R117: before the first sample in OPERATING no line is qualified asserted and no change is timed. -/
abbrev State.SampleSafe (s : State) : Prop :=
  s.lines.firstSample = false ∨ ∀ l ∈ s.lines.line, l.qualified = false ∧ (l.change = .none ∨ l.change = .afresh)

/-! ### Consist (R41, R44, R72) -/

/-- R44: the MASTER role needs the cab and at most one UP port. -/
abbrev State.RoleSafe (s : State) : Prop :=
  s.consist.role = .member ∨ s.cab = true ∧ s.upPorts.length ≤ 1

/-- R41: the consist states of each role. -/
abbrev State.StateOfRole (s : State) : Prop :=
  match s.consist.role, s.consist.state with
  | .member, .settling | .member, .calling | .member, .confirming => False
  | .master, .uninaugurated | .master, .inaugurating | .master, .suspect => False
  | _, _ => True

/-- R63, R69: outside a consist the node has no epoch, no position and no table. -/
abbrev State.ConsistCleared (s : State) : Prop :=
  s.consist.epoch = 0 ∧ s.consist.position = 0 ∧ s.consist.orientation = .normal ∧ s.consist.table = []

/-- R63, R69: the node holds no consist in UNINAUGURATED and BLOCKED. -/
abbrev State.OutsideSafe (s : State) : Prop :=
  (s.consist.state = .uninaugurated ∨ s.consist.state = .blocked) → s.ConsistCleared

/-! ### Doors (R126, R148) -/

/-- R126: a side may be RELEASED only in a consist state other than UNINAUGURATED and BLOCKED, and not inhibited. -/
abbrev State.SideSafe (s : State) (d : Side) : Prop :=
  (s.side d).state = .released →
    s.inhibited d = false ∧ s.consist.state ≠ .uninaugurated ∧ s.consist.state ≠ .blocked

/-- R126: both sides. -/
abbrev State.DoorsSafe (s : State) : Prop := s.SideSafe .a ∧ s.SideSafe .b

/-- R109, R122: the proof of each side is what the line that carries its DOOR_PROOF shows, and ABSENT without one. -/
abbrev State.ProofSafe (s : State) : Prop := ∀ d, (s.side d).proof = s.lineProof d

/-- R148: TRAIN_DOORS_CLOSED is active only at a STABLE master, and no walk is outstanding at another node. -/
abbrev State.InterlockSafe (s : State) : Prop :=
  s.stableMaster = true ∨ s.door.doorsClosed = false ∧ s.door.outstanding = none ∧ s.heat.outstanding = none

/-! ### Heating (R156) -/

/-- R156: the applied stage is at most d_eff, at most the fallback stage in fallback, and 0 while locked out. -/
abbrev State.HeatSafe (s : State) : Prop :=
  s.heat.applied ≤ s.effectiveDemand ∧ (s.heat.fallback = true → s.heat.applied ≤ s.heat.fallbackStage)
    ∧ (s.heat.lockedOut = true → s.heat.applied = 0)

/-- R168: outside STABLE and SUSPECT the node is in fallback and holds no walk record. -/
abbrev State.FallbackSafe (s : State) : Prop :=
  s.settled = true ∨ s.heat.fallback = true ∧ s.heat.walkRecord = none

/-! ### Timers (R181) -/

/-- The timer runs. -/
abbrev State.Runs (s : State) (t : TimerId) : Prop := (s.count t).isSome = true

/-- R181: the timers of a master run only there, those of a member only there. -/
abbrev State.TimersSafe (s : State) : Prop :=
  (s.isMaster = false → s.count .t2 = none ∧ s.count .t3 = none ∧ s.count .t4 = none ∧ s.count .t7 = none
      ∧ s.count .t8 = none ∧ s.count .t11 = none ∧ s.count .t12 = none)
    ∧ (s.isMaster = true → s.count .t5 = none ∧ s.count .t6 = none ∧ s.count .t9 = none)

/-- R141, R157: the walk timers run only at a STABLE master. -/
abbrev State.WalkTimersSafe (s : State) : Prop :=
  s.stableMaster = true
    ∨ s.count .t7 = none ∧ s.count .t8 = none ∧ s.count .t11 = none ∧ s.count .t12 = none

/-- R129: the close timer of a side runs only while the side is CLOSING. -/
abbrev State.CloseTimerSafe (s : State) : Prop :=
  ((s.side .a).state = .closing ∨ s.count (.t10 .a) = none) ∧ ((s.side .b).state = .closing ∨ s.count (.t10 .b) = none)

/-! ### Drains (R88, R191) -/

/-- R88, R191: T15 runs and the management unit holds a reference exactly while a drain is pending. -/
abbrev State.DrainSafe (s : State) : Prop :=
  if s.relay.draining = true then s.mgmt.commit.isSome = true else s.count .t15 = none ∧ s.mgmt.commit = none

/-! ### Settings (R75, R86, R152 to R154, R176) -/

/-- R75: an entry of the service action table. -/
abbrev ServiceEntry.Safe (e : ServiceEntry) : Prop := e.maxPayload ≤ 240

/-- R152: eight profile entries, the first 0, none above 1023 and none below the one before it. -/
abbrev HeatUnit.ProfileSafe (x : HeatUnit) : Prop :=
  x.profile.length = 8 ∧ x.profile.head? = some 0 ∧ (∀ y ∈ x.profile, y ≤ 1023) ∧ x.profile.Pairwise (· ≤ ·)

/-- R153, R154: demand, door cap and fallback stage from 0 to 7, the supply limit from 0 to 4095. -/
abbrev HeatUnit.SettingsSafe (x : HeatUnit) : Prop :=
  x.writtenDemand ≤ 7 ∧ x.doorCap ≤ 7 ∧ x.fallbackStage ≤ 7 ∧ x.supplyLimit ≤ 4095 ∧ x.ProfileSafe

/-- R75, R86: 64 entries in each bank, and a generation of one byte. -/
abbrev RelayUnit.SettingsSafe (x : RelayUnit) : Prop :=
  x.serviceActive.length = 64 ∧ x.serviceStaged.length = 64 ∧ (∀ e ∈ x.serviceActive, e.Safe)
    ∧ (∀ e ∈ x.serviceStaged, e.Safe) ∧ x.generation < 256

/-- R176: sixteen timer settings from 1 to 1023. -/
abbrev TimerUnit.SettingsSafe (x : TimerUnit) : Prop :=
  x.settings.length = 16 ∧ ∀ y ∈ x.settings, 1 ≤ y.value ∧ y.value ≤ 1023

/-- Every stored setting is in its range; the coach descriptor has a class below 16 and doors below 8 (R40). -/
abbrev State.SettingsSafe (s : State) : Prop :=
  s.heat.SettingsSafe ∧ s.relay.SettingsSafe ∧ s.timers.SettingsSafe ∧ s.consist.coachClass < 16 ∧ s.consist.doors < 8

/-! ### Outcomes -/

/-- A run does not stop: the step answers a next state. -/
abbrev Completes (o : Host.Outcome State Fault Refusal) : Prop := ∃ t, o = .next t

/-! ### What the statements say of an arriving frame -/

/-- R4, R5, R8: the port can take a frame to its frame end: it runs, sends no frame and is not discarding. -/
abbrev State.hears (s : State) (p : Port) : Prop :=
  s.portsRun = true ∧ (s.port p).tx.sending = false ∧ (s.port p).rx.open = true

/-- R5: a valid frame on this port goes to its owner. -/
abbrev State.takesFrame (s : State) (p : Port) : Prop := s.hears p ∧ s.isUp p = true

/-- R4, R13, R15: what a valid frame in UP has done to its port before its owner takes it: between frames, nothing
assembled, the score one lower, T1 in full, unless all its bits were taken before the latest step of the timebase (log 4),
since when T1 has run on. -/
def State.afterFrame (s : State) (p : Port) : State :=
  (s.setPort p { s.port p with rx := .betweenFrames, assembly := [], score := (s.port p).score - 1 }).setCount (.t1 p)
    (if (s.port p).rx = .bitsOver then s.count (.t1 p) else some (s.period (.t1 p)))

/-- R83, R84: every port that is UP has room for one more frame of this level. -/
abbrev State.roomy (s : State) (l : Level) : Prop :=
  (s.isUp .e1 = true → s.hasRoom .e1 l = true) ∧ (s.isUp .e2 = true → s.hasRoom .e2 l = true)

/-- R84: a frame queued on a port that has room; a port that is not UP takes none. -/
def State.queued (s : State) (p : Port) (l : Level) (q : Queued) : State :=
  if s.isUp p = true then s.setQueues p ((s.queues p).set l ((s.queues p).get l ++ [q])) else s

/-! ### What the statements say of a request -/

/-- R39, R185: the way, the code and the request of a request command. -/
def requestOf : Instr → Option (Via × ReqCode × Req)
  | .read v q | .readLineReport v q | .readFaults v q => some (v, .read, q)
  | .write v q | .writeService v q | .writeGroups v q | .writeLines v q | .writeGeneralOut v q | .writeDoorInhibit v q
  | .writeCoachDescriptor v q | .writeHeatProfile v q | .writeHeatSettings v q | .writeHeatDemand v q
  | .writeSupplyLimit v q | .writeTimers v q => some (v, .write, q)
  | .commit v q | .commitWithDrain v q => some (v, .commit, q)
  | .clearFaults v q => some (v, .clearFaults, q)
  | .reinaugurate v q => some (v, .reinaugurate, q)
  | .restart v q _ => some (v, .restart, q)
  | .withdraw v q => some (v, .withdraw, q)
  | .clearLockout v q => some (v, .clearLockout, q)
  | _ => none

/-- R183, R184: the access class of a way. -/
def accessOf : Via → Access
  | .tap _ _ => .ownTap
  | .train _ _ => .train

/-- R99, R183, R184: a request on this way reaches the management unit. -/
abbrev State.reaches (s : State) (v : Via) (c : ReqCode) (q : Req) : Prop :=
  match v with
  | .tap _ tag =>
    s.tapServes ∧ s.relay.tapQueue.length < 12 ∧ (selfRecord tag c q).tapFormOk = true
  | .train p h =>
    s.takesFrame p ∧ (⟨h, .mgmtReq c q⟩ : Frame).formOk = true ∧ s.route p h.sel ≠ .misrouted
      ∧ s.inScope h.sel s.consist.position = true ∧ s.trainClass h = true

/-- R82, R94, R184: the state in which the management unit takes a request: after the node's part of the exchange, or
after the frame was taken and, unless it ends its way here, queued toward the other port. -/
def State.whenTaken (s : State) (v : Via) (c : ReqCode) (q : Req) : State :=
  match v with
  | .tap done _ => nodePart done s
  | .train p h =>
    if s.route p h.sel = .here then s.afterFrame p else sendFrame p.other ⟨h, .mgmtReq c q⟩ (s.afterFrame p)

/-- R95, R192: the response to a request, placed by its class as the node then stands. -/
def State.replied (s : State) (v : Via) (c : ReqCode) (q : Req) (st : Status) (data : List Byte) : State :=
  match v with
  | .tap _ tag => setIntake .accepted (deliver (s.answer ⟨.self, 0⟩ tag (responseTo c q st data)) s)
  | .train _ h => sendFrame s.answerPort (s.answer ⟨.position, 1⟩ h.tag (responseTo c q st data)) s

/-- R186, R188: the class holds the write right, the bank is the staged one where there are banks, and count, data and
indices fit the object. -/
abbrev State.admits (s : State) (v : Via) (o : Object) (q : Req) : Prop :=
  objectOf q.object = some o ∧ o.writer = some (accessOf v) ∧ (o.banked = true → stagedBank q.object = true)
    ∧ o.shapeOk q = true ∧ s.indexOk o q.index q.count = true

/-- R185: no check before a request's own rule refuses it. -/
abbrev State.judges (s : State) (v : Via) (c : ReqCode) (q : Req) : Prop :=
  s.reaches v c q ∧ s.operating = true ∧ s.mgmt.restart = .none

end Sys2Proof.Machine
end

