-- ==== Sys2Proof/WellFormed.lean ====
section
/-! DEFINITION. Well-formed commands: each operand is one the outside can send. Frames have correct form (R33), tap
records correct form with SELF allowed (R35), and an arbitration is lost at a bit that a frame can have (R24). -/

namespace Sys2Proof

/-- A tap record as intake checks its form; its epoch and origin position are not examined (R35). -/
def tapFrame (sel : Selector) (phase spare : Bool) (tag : Nat) (b : Body) : Frame := ⟨⟨phase, sel, spare, 0, 0, tag⟩, b⟩

/-- R24, R33: a frame of a two-phase kind in the phase its row fixes has correct form. -/
def phasedOk (back : Bool) (h : Header) (b : Body) : Bool := (⟨{ h with phase := back }, b⟩ : Frame).formOk

/-- R33, R35: a request, on the way it comes. -/
def Via.wf (v : Via) (c : ReqCode) (q : Req) : Bool :=
  match v with
  | .tap _ tag => (tapFrame ⟨.self, 0⟩ false false tag (.mgmtReq c q)).tapFormOk
  | .train _ h => (⟨h, .mgmtReq c q⟩ : Frame).formOk

/-- R39, R40: a request whose row fixes its object has that object's code. -/
def Req.names (q : Req) (n : Nat) : Bool := objectCode q.object == n

/-- R40: the objects whose WRITE has a row of its own. -/
def ownWriteRow (n : Nat) : Bool := [4, 5, 6, 9, 10, 11, 12, 13, 14, 15, 16].contains n

/-- R99: a destination as a selector's type and value. -/
def Dest.wf : Dest → Bool
  | .position k => 1 ≤ k && k ≤ 32
  | .group g => g ≤ 15
  | .all => true

/-- R24: the largest frame has 248 bytes. -/
def frameBitLimit : Nat := 248 * 8

/-- The command's operands are ones the outside can send. -/
def Instr.wf : Instr → Bool
  | .powerOn | .startCheckComplete _ | .portStart | .probeIntervalExpiry _ | .probeSend _ | .frameBegin _ => true
  | .arbitrationLost _ place => decide (place < frameBitLimit)
  | .frameSent _ | .probeReceived _ | .invalidItem _ _ | .breakReceived _ | .breakHoldoffEnd
  | .linkSilenceTimeout _ => true
  | .data _ h l => (⟨h, .data l⟩ : Frame).formOk
  | .doorCmdRelease _ h side r => (⟨h, .doorCmd .release side r⟩ : Frame).formOk
  | .doorCmdClose _ h side r => (⟨h, .doorCmd .close side r⟩ : Frame).formOk
  | .doorAlert _ h x => (⟨h, .doorAlert x⟩ : Frame).formOk
  | .sumOut _ h x => phasedOk false h (.sum x)
  | .sumBack _ h x => phasedOk true h (.sum x)
  | .topo _ h x => (⟨h, .topo x⟩ : Frame).formOk
  | .rollCall _ h x => phasedOk false h (.roll x)
  | .rollBack _ h x => phasedOk true h (.roll x)
  | .confirmOut _ h x => phasedOk false h (.confirmOut x)
  | .confirmDone _ h m => phasedOk true h (.confirmDone m)
  | .heatOut _ h x => phasedOk false h (.heat x)
  | .heatBack _ h x => phasedOk true h (.heat x)
  | .mgmtRsp _ h x => (⟨h, .mgmtRsp x⟩ : Frame).formOk
  | .tapExchange _ _ => true
  | .tapData _ sel m l => (tapFrame sel m.phase m.spare m.tag (.data l)).tapFormOk
  | .tapDoorCmdRelease _ sel m side r => (tapFrame sel m.phase m.spare m.tag (.doorCmd .release side r)).tapFormOk
  | .tapDoorCmdClose _ sel m side r => (tapFrame sel m.phase m.spare m.tag (.doorCmd .close side r)).tapFormOk
  | .tapMgmtReqToTrain _ dest m c q =>
    dest.wf && (tapFrame ⟨.all, 0⟩ m.phase m.spare m.tag (.mgmtReq c q)).tapFormOk
  | .read v q => v.wf .read q && !q.names 8 && !q.names 17
  | .readLineReport v q => v.wf .read q && q.names 8
  | .readFaults v q => v.wf .read q && q.names 17
  | .write v q => v.wf .write q && !ownWriteRow (objectCode q.object)
  | .writeService v q => v.wf .write q && q.names 4
  | .writeGroups v q => v.wf .write q && q.names 5
  | .writeLines v q => v.wf .write q && q.names 6
  | .writeGeneralOut v q => v.wf .write q && q.names 9
  | .writeDoorInhibit v q => v.wf .write q && q.names 10
  | .writeCoachDescriptor v q => v.wf .write q && q.names 11
  | .writeHeatProfile v q => v.wf .write q && q.names 12
  | .writeHeatSettings v q => v.wf .write q && q.names 13
  | .writeHeatDemand v q => v.wf .write q && q.names 14
  | .writeSupplyLimit v q => v.wf .write q && q.names 15
  | .writeTimers v q => v.wf .write q && q.names 16
  | .commit v q => v.wf .commit q && q.index != 1
  | .commitWithDrain v q => v.wf .commit q && q.index == 1
  | .clearFaults v q => v.wf .clearFaults q
  | .reinaugurate v q => v.wf .reinaugurate q
  | .restart v q _ => v.wf .restart q
  | .pendingRestart _ => true
  | .withdraw v q => v.wf .withdraw q
  | .withdrawComplete => true
  | .clearLockout v q => v.wf .clearLockout q
  | .qualifiedEdge _ | .settleExpiry | .callTimeout | .confirmTimeout | .pendingTimeout | .suspectTimeout
  | .masterSilenceTimeout | .summaryPeriodExpiry | .summaryReturnTimeout | .closeTimeout _ | .heatPeriodExpiry
  | .heatReturnTimeout | .heatSupervisionTimeout | .feedbackMismatchTimeout | .drainTimeout | .timebaseStep _
  | .returnBetweenFrames _ => true

end Sys2Proof
end

