-- ==== Sys2Proof/Certificates/Slice0/Obligations.lean ====
section
/-! DEFINITION. The statements for the provers. A statement that rests on one of the model's own choices says so and
names the log entry. -/

open Sys2Proof Sys2Proof.Machine

/-! ### Frames (R24 to R39) -/

/-- R24, R25, R31 to R33, R35 to R39, R94: the bits of every frame of correct form, sent and received, are accepted as
that same frame; a record that a port accepts has 8 to 248 bytes and correct form, and sending the accepted frame on
sends the same bytes, CRC and spare bits included; and a record from the tap is read by its declared end: bytes sent
after it are ignored, a record cut short of it is refused; and an exchange without a byte carried none, which is the
model's choice of the indication that R94 gives no form (log 39). -/
def Obligations.FramesAndBytesAgree : Prop :=
  (∀ f : Frame, f.formOk = true → acceptBits (bitsOf f.bytes) = .frame f)
  ∧ (∀ (l : List Byte) (f : Frame), accept l = .frame f →
    f.bytes = l ∧ f.formOk = true ∧ 8 ≤ l.length ∧ l.length ≤ 248)
  ∧ (∀ (done : Bool) (levels : Levels) (f : Frame) (extra : List Byte), f.tapFormOk = true → f.header.epoch ≤ 255 →
    f.header.origin ≤ 255 →
    commandOfTapBytes done levels (f.bytes ++ extra) = commandOfTapFrame done levels f
    ∧ commandOfTapBytes done levels [] = .tapExchange done .nothing
    ∧ ∀ k, 0 < k → k < f.bytes.length →
      commandOfTapBytes done levels (f.bytes.take k) = .tapExchange done (.refusedRecord .cutShort))

/-! ### The step -/

/-- The model's queue of commands: a step runs the command at the front on the state with the queue's rest, and an
empty queue idles. The queue and its idling are the model's choice (log 2). -/
def Obligations.StepRunsFrontCommand : Prop :=
  (∀ (c : Instr) (l : List Instr) (s : State), step (s.setPending (c :: l)) = exec c (s.setPending l))
    ∧ ∀ s : State, s.pending = [] → step s = .next s

/-- Every command in every state has an effect: no step stops, the queue loses the command at its front and nothing
else, and the node identity is never changed (00_scope.md: factory-set, read-only). That commands wait in a queue and are
taken one at a time is the form of the model (log 2). -/
def Obligations.EveryStepCompletes : Prop :=
  ∀ s : State, ∃ t, step s = .next t ∧ t.pending = s.pending.tail ∧ t.identity = s.identity

/-! ### Power-on and start-up (R20, R41, R101, R117, R149, R172, R182, R198, R199) -/

/-- R20, R23, R41, R75, R101, R117, R149, R172, R176, R182, R198, R199: POWER_ON leaves the waiting commands and the
identity and sets every block to its power-on values. The line levels before the first sample are left out of the
list: they are the model's choice (log 6). The link states that stand as DOWN before the ports are started (log 8) and the
waiting commands that stay (log 2) are the model's choice too, and so is the select period that goes on unserved (log 9). -/
def Obligations.PowerOnValues : Prop :=
  ∀ s : State, ∃ t, exec .powerOn s = .next t ∧ t.pending = s.pending ∧ t.identity = s.identity
    ∧ t.bypass = ⟨.starting, false, .none, false, false⟩
    ∧ (∀ p, t.port p = ⟨.down, 0, 0, .betweenFrames, [], .idle, false⟩ ∧ t.queues p = ⟨[], [], []⟩)
    ∧ t.relay.serviceActive = List.replicate 64 ⟨.pass, .addressed, false, true, 240⟩
    ∧ t.relay.serviceStaged = List.replicate 64 ⟨.pass, .addressed, false, true, 240⟩
    ∧ t.relay.groupsActive = 0 ∧ t.relay.groupsStaged = 0 ∧ t.relay.generation = 0 ∧ t.relay.tapQueue = []
    ∧ t.relay.select = (if s.relay.select = .idle then .idle else .unserved)
    ∧ t.relay.intake = .none ∧ t.relay.draining = false
    ∧ t.consist = ⟨.member, .uninaugurated, .none, 0, 0, .normal, [], none, none, false, 0, 0⟩
    ∧ t.door = ⟨⟨⟨.closed, .absent, false, false⟩, ⟨.closed, .absent, false, false⟩⟩, 0, 0, none, false, false, false⟩
    ∧ t.heat = ⟨[0, 0, 0, 0, 0, 0, 0, 0], 0, 2, 1, 0, 0, true, false, none, 0, none, false⟩
    ∧ t.lines.line.length = 16
    ∧ (∀ l ∈ t.lines.line, l.entry = ⟨.none, .activeHigh, 20, .off⟩ ∧ l.generalOut = false ∧ l.reported = false
        ∧ l.recorded = false ∧ l.condition = .ready ∧ l.change = .none)
    ∧ t.timers.timebase = 0 ∧ (∀ u, t.count u = none)
    ∧ t.timers.settings.map Setting.period
        = [2, 10, 300, 3000, 2000, 6000, 10000, 250, 600, 2000, 15000, 2000, 1500, 6000, 2000, 200]
    ∧ t.faults.slots = List.replicate 8 none ∧ t.faults.overflow = false
    ∧ t.mgmt = ⟨none, .none⟩

/-- R16, R20, R41, R44, R63, R69, R75, R83, R84, R86, R88, R92, R104, R105, R109, R111, R113, R117, R122, R126, R129, R148,
R152 to R154, R156, R168, R176, R181, R191, R199: the invariants stated below hold right after power-on: of the queues, the
tap delivery queue, the fault table, the interlock, the timers, the doors, the heating, role and consist state, the lines,
the drain and the settings. That no line is asserted before the first sample is the model's choice (log 6). -/
def Obligations.ResetKeepsInvariants : Prop :=
  State.reset.QueuesSafe ∧ State.reset.TapSafe ∧ State.reset.faults.Safe ∧ State.reset.InterlockSafe
    ∧ State.reset.WalkTimersSafe ∧ State.reset.TimersSafe ∧ State.reset.DoorsSafe ∧ State.reset.CloseTimerSafe
    ∧ State.reset.HeatSafe ∧ State.reset.FallbackSafe ∧ State.reset.RoleSafe ∧ State.reset.SampleSafe
    ∧ State.reset.StateOfRole ∧ State.reset.OutsideSafe ∧ State.reset.LinesSafe ∧ State.reset.DrainSafe
    ∧ State.reset.ProofSafe ∧ State.reset.SettingsSafe

/-- R20 to R23, R93, R110, R119, R125, R156: the start-up check passes or fails, the ports are started in DOWN with T0
running and the probe due flag set, and a withdraw ends in WITHDRAWN with both ports DOWN and their queues empty; the
1 ms waits are left to the sender (log 3), and that a PROBE or BREAK being driven is cut off at DOWN is the model's
choice (log 41). Only power-on, the end of the start-up check and the end of a withdraw change BYPASS_HOLD or the
withdraw cause, and only these and WITHDRAW change the node state; a restart changes none of them. In OPERATING an
output line is driven at the level its owner commands, by the line's polarity: the release and close outputs by the
side's state, the interlock, the stage lines as the bits of the applied stage, a general output as written; outside
OPERATING it is driven inactive, and no other line is driven. TAP_ATTN is active exactly while a frame, a line report
or an unread fault waits, and never in STARTING. -/
def Obligations.NodeStatesChange : Prop :=
  (∀ s : State,
    (s.bypass.node = .starting →
      exec (.startCheckComplete true) s = .next { s with bypass := { s.bypass with node := .operating, hold := true } }
      ∧ exec (.startCheckComplete false) s
          = .next { s with bypass := { s.bypass with node := .withdrawn, cause := .startCheck } })
    ∧ (s.bypass.node = .operating → s.bypass.started = false →
      exec .portStart s = .next { s with
        bypass := { s.bypass with started := true }
        ports := ⟨⟨.down, 0, 0, .betweenFrames, [], .idle, true⟩, ⟨.down, 0, 0, .betweenFrames, [], .idle, true⟩⟩
        timers := { s.timers with counts := { s.timers.counts with
          t0 := ⟨some (s.setting 0).period, some (s.setting 0).period⟩, t1 := ⟨none, none⟩ } } })
    ∧ (s.bypass.node = .withdrawing →
      exec .withdrawComplete s = .next { s with
        bypass := { s.bypass with node := .withdrawn, hold := false, cause := .requested }
        ports := ⟨⟨.down, 0, 0, .betweenFrames, [], .idle, s.ports.e1.probeDue⟩,
          ⟨.down, 0, 0, .betweenFrames, [], .idle, s.ports.e2.probeDue⟩⟩
        relay := { s.relay with queues := ⟨⟨[], [], []⟩, ⟨[], [], []⟩⟩ }
        timers := { s.timers with counts := { s.timers.counts with t1 := ⟨none, none⟩ } } })
    ∧ (s.bypass.node ≠ .operating → ∀ n : Fin 16, s.drivenLevel n.val =
      if (s.lineAt n.val).entry.function.isOutput = true then
        some (decide ((s.lineAt n.val).entry.polarity = .activeLow)) else none))
  ∧ (∀ (c : Instr) (s t : State), exec c s = .next t →
    (c = .powerOn ∨ (∃ b, c = .startCheckComplete b) ∨ c = .withdrawComplete
      ∨ (t.bypass.hold = s.bypass.hold ∧ t.bypass.cause = s.bypass.cause
        ∧ ((∃ v q, c = .withdraw v q) ∨ t.bypass.node = s.bypass.node))))
  ∧ (∀ (n : Fin 16) (s : State),
    let l := s.lineAt n.val
    let drives (b : Bool) : Prop := s.drivenLevel n.val = some (if l.entry.polarity = .activeHigh then b else !b)
    (s.bypass.node = .operating →
      (∀ d, l.entry.function = .doorRelease d → drives (decide ((s.side d).state = .released)))
      ∧ (∀ d, l.entry.function = .doorClose d → drives (decide ((s.side d).state = .closing)))
      ∧ (l.entry.function = .trainDoorsClosed → drives s.door.doorsClosed)
      ∧ (l.entry.function = .heatStage0 → drives (s.heat.applied.testBit 0))
      ∧ (l.entry.function = .heatStage1 → drives (s.heat.applied.testBit 1))
      ∧ (l.entry.function = .heatStage2 → drives (s.heat.applied.testBit 2))
      ∧ (l.entry.function = .generalOut → drives l.generalOut)
      ∧ (l.entry.function.isOutput = false → s.drivenLevel n.val = none))
    ∧ (s.tapAttn = true ↔ s.bypass.node ≠ .starting ∧ (s.relay.tapQueue ≠ []
      ∨ (∃ x ∈ s.lines.line, x.reported = true) ∨ ∃ r, some r ∈ s.faults.slots ∧ r.unread = true)))

/-! ### Segment controllers (R3 to R19) -/

/-- R6, R10, R15, R83: T0's expiry sets the probe due flag and T0 runs on. An idle port with the flag set and nothing
queued sends a PROBE and clears the flag, and without the flag, or with a frame queued, sends no PROBE. An idle UP
port begins the head of its highest queue that is not empty, T1 stops and the probe due flag is cleared; the frame
stays in its queue. With nothing queued nothing begins. -/
def Obligations.IdlePortSends : Prop :=
  ((∀ (p : Port) (s : State), s.operating = true → s.count (.t0 p) = some 0 →
    exec (.probeIntervalExpiry p) s
      = .next ((s.setPort p { s.port p with probeDue := true }).setCount (.t0 p) (some (s.period (.t0 p)))))
  ∧ (∀ (p : Port) (s : State), s.portsRun = true → (s.port p).rx = .betweenFrames → (s.port p).tx.sending = false →
    exec (.probeSend p) s =
      if (s.port p).probeDue = true ∧ s.queues p = ⟨[], [], []⟩ then
        .next (s.setPort p { s.port p with tx := .probe, probeDue := false })
      else .next s))
  ∧ (∀ (p : Port) (s : State), s.portsRun = true → (s.port p).rx = .betweenFrames → (s.port p).tx.sending = false →
    s.isUp p = true →
    (∀ (l : Level) (q : Queued) (rest : List Queued), (s.queues p).get l = q :: rest →
      (l = .control → (s.queues p).urgent = []) →
      (l = .bulk → (s.queues p).urgent = [] ∧ (s.queues p).control = []) →
      exec (.frameBegin p) s
        = .next ((s.setPort p { s.port p with tx := .frame l q .queued, probeDue := false }).setCount (.t1 p) none))
    ∧ (s.queues p = ⟨[], [], []⟩ → exec (.frameBegin p) s = .next s))

/-- R8, R9, R15, R18, R89, R196: a frame sent leaves the head of its queue; one that a flush took from its queue only ends.
A frame that lost arbitration stays where it is, and the node goes on as the receiver of the bits both ends sent and the
partner's bit 0; one that a drain timeout left in its queue only to run to its end is then discarded from it. In each case
T1 starts again in full. The response of a TRAIN RESTART that leaves makes the restart due: that the restart then waits for
its own command is the model's choice (log 11). Where a frame leaves, no drain is pending here. -/
def Obligations.FrameEnds : Prop :=
  (∀ (p : Port) (s : State) (l : Level) (q : Queued) (how : Place), s.portsRun = true → (s.port p).tx = .frame l q how →
    let ended (t : State) : State := t.setCount (.t1 p) (some (s.period (.t1 p)))
    let removed : State := (s.setQueues p ((s.queues p).set l ((s.queues p).get l).tail)).setMgmt
      { s.mgmt with restart := if s.mgmt.restart = .waiting ∧ q.restart = true then .due else s.mgmt.restart }
    let receiving (place : Nat) (t : State) : State := t.setPort p { s.port p with
      tx := .idle, rx := .inFrame, assembly := (bitsOf q.frame.bytes).take place ++ [false] }
    (how = .queued ∨ how = .doomed → s.relay.draining = false →
      exec (.frameSent p) s = .next (ended (removed.setPort p { s.port p with tx := .idle })))
    ∧ (how = .flushed → exec (.frameSent p) s = .next (ended (s.setPort p { s.port p with tx := .idle })))
    ∧ ∀ place : Nat, (bitsOf q.frame.bytes)[place]? = some true →
      (how = .queued ∨ how = .flushed → exec (.arbitrationLost p place) s = .next (ended (receiving place s)))
      ∧ (how = .doomed → s.relay.draining = false →
        exec (.arbitrationLost p place) s = .next (ended (receiving place removed))))

/-- R4, R10 to R12, R14 to R16: what a PROBE between frames does in each link state: the arrival count from DOWN and
ARRIVING, UP after the fourth valid item, T1 in UP, the score down to UP in FAULTED. An interval that holds the
controller's own PROBE yields no item. A valid frame of any kind on a port that is not UP is counted in the same way
and goes no farther; T1 starts with the move to ARRIVING, and else is in full from the frame's bits, unless all of
them were taken before the latest step of the timebase (log 4); the one that completes the qualification brings the
port UP with score 0, and became UP is reported. -/
def Obligations.LinkCountsArrivals : Prop :=
  (∀ (p : Port) (s : State), s.portsRun = true → (s.port p).tx.sending = false → (s.port p).rx = .betweenFrames →
    exec (.probeReceived ⟨p, true⟩) s = .next s
    ∧ ((s.port p).link = .down →
      exec (.probeReceived ⟨p, false⟩) s
        = .next ((s.setPort p { s.port p with link := .arriving, arrival := 1 }).setCount (.t1 p)
            (some (s.period (.t1 p)))))
    ∧ ((s.port p).link = .arriving → (s.port p).arrival < 3 →
      exec (.probeReceived ⟨p, false⟩) s
        = .next ((s.setPort p { s.port p with arrival := (s.port p).arrival + 1 }).setCount (.t1 p)
            (some (s.period (.t1 p)))))
    ∧ ((s.port p).link = .arriving → (s.port p).arrival = 3 →
      ∃ t, exec (.probeReceived ⟨p, false⟩) s = .next t ∧ (t.port p).link = .up ∧ (t.port p).score = 0
        ∧ t.port p.other = s.port p.other)
    ∧ ((s.port p).link = .up → exec (.probeReceived ⟨p, false⟩) s = .next (s.setCount (.t1 p) (some (s.period (.t1 p)))))
    ∧ ((s.port p).link = .faulted → 1 < (s.port p).score →
      exec (.probeReceived ⟨p, false⟩) s
        = .next ((s.setPort p { s.port p with score := (s.port p).score - 1 }).setCount (.t1 p)
            (some (s.period (.t1 p)))))
    ∧ ((s.port p).link = .faulted → (s.port p).score = 1 →
      ∃ t, exec (.probeReceived ⟨p, false⟩) s = .next t ∧ (t.port p).link = .up ∧ (t.port p).score = 0
        ∧ t.port p.other = s.port p.other))
  ∧ (∀ (p : Port) (levels : Levels) (f : Frame) (s : State), f.formOk = true → s.hears p →
    let full : Option Nat := some (s.period (.t1 p))
    let ended : Option Nat := if (s.port p).rx = .bitsOver then s.count (.t1 p) else full
    let left (x : PortState) (t1 : Option Nat) : State :=
      (s.setPort p { x with rx := .betweenFrames, assembly := [] }).setCount (.t1 p) t1
    let counted (x : PortState) : Host.Outcome State Fault Refusal := .next (left x ended)
    let qualified (x : PortState) : Host.Outcome State Fault Refusal := .next (portReport .portUp p (left x ended))
    ((s.port p).link = .down →
      exec (commandOfFrame p levels f) s = .next (left { s.port p with link := .arriving, arrival := 1 } full))
    ∧ ((s.port p).link = .arriving → (s.port p).arrival < 3 →
      exec (commandOfFrame p levels f) s = counted { s.port p with arrival := (s.port p).arrival + 1 })
    ∧ ((s.port p).link = .faulted → 1 < (s.port p).score →
      exec (commandOfFrame p levels f) s = counted { s.port p with score := (s.port p).score - 1 })
    ∧ ((s.port p).link = .arriving → (s.port p).arrival = 3 →
      exec (commandOfFrame p levels f) s = qualified { s.port p with link := .up, arrival := 4, score := 0 })
    ∧ ((s.port p).link = .faulted → (s.port p).score = 1 →
      exec (commandOfFrame p levels f) s = qualified { s.port p with link := .up, score := 0 }))

/-- R4, R5, R11 to R16, R32: an invalid item. A lone bit or an invalid width between frames leaves the port discarding
and T1 as it was; an invalid width or a PROBE in a frame aborts it, with T1 in full from its bits since the latest
step of the timebase; a frame that fails its checks leaves it between frames, and an aborted or overlong one leaves it
discarding, with T1 in full from its bits. Where all the bits of the frame were taken before that step (log 4) T1 has
run on since, but for the bit that makes a frame overlong. The item is ignored in DOWN, empties the arrival count in
ARRIVING and adds 8 to the score in UP and FAULTED; only an intact frame of an invalid kind is recorded. The item, of
any cause, that brings the score of an UP port to 96 or more makes it FAULTED, with PORT_FAULTED recorded against it
and its queues empty; here no drain is pending and the other port is not UP, so that no other fault can follow. That
BAD_KIND is recorded before PORT_FAULTED is the model's choice (log 13). -/
def Obligations.InvalidItemByLinkState : Prop :=
  (∀ (p : Port) (s : State), s.portsRun = true → (s.port p).tx.sending = false →
    let hit (u : State) (rx : RxCondition) : State :=
      match (s.port p).link with
      | .down => u.setPort p { s.port p with rx := rx, assembly := [] }
      | .arriving => u.setPort p { s.port p with rx := rx, assembly := [], arrival := 0 }
      | .up | .faulted =>
        u.setPort p { s.port p with rx := rx, assembly := [], score := min 255 ((s.port p).score + 8) }
    let alive : State := keepAlive p s
    let ended : State := if (s.port p).rx = .bitsOver then s else alive
    ((s.port p).link = .up → (s.port p).score + 8 < 96) →
    ((s.port p).rx = .betweenFrames →
      exec (.invalidItem p .loneBit) s = .next (hit s .discarding)
      ∧ exec (.invalidItem p .invalidWidth) s = .next (hit s .discarding))
    ∧ ((s.port p).rx = .inFrame →
      exec (.invalidItem p .invalidWidth) s = .next (hit alive .discarding)
      ∧ exec (.probeReceived ⟨p, false⟩) s = .next (hit alive .discarding))
    ∧ ((s.port p).rx = .bitsOver →
      exec (.invalidItem p .invalidWidth) s = .next (hit s .discarding)
      ∧ exec (.probeReceived ⟨p, false⟩) s = .next (hit s .discarding))
    ∧ ((s.port p).rx.open = true →
      exec (.invalidItem p .abortedFrame) s = .next (hit ended .discarding)
      ∧ exec (.invalidItem p .overlongFrame) s = .next (hit alive .discarding)
      ∧ (∀ why, why ≠ .kind → exec (.invalidItem p (.badFrame why)) s = .next (hit ended .betweenFrames))
      ∧ exec (.invalidItem p (.badFrame .kind)) s
          = .next (hit (if (s.port p).link = .up ∨ (s.port p).link = .faulted
              then recordFault .badKind (.port p) ended else ended) .betweenFrames)))
  ∧ (∀ (p : Port) (s : State), s.portsRun = true → (s.port p).tx.sending = false → (s.port p).link = .up →
    96 ≤ (s.port p).score + 8 → s.relay.draining = false → s.isUp p.other = false →
    let falls (c : Instr) (rx : RxCondition) (t1 : Option Nat) (faults : FaultTable) : Prop :=
      ∃ t, exec c s = .next t
        ∧ t.port p = { s.port p with
            link := .faulted, score := min 255 ((s.port p).score + 8), rx := rx, assembly := [] }
        ∧ t.port p.other = s.port p.other ∧ t.count (.t1 p) = t1
        ∧ t.queues p = ⟨[], [], []⟩ ∧ t.queues p.other = s.queues p.other
        ∧ t.faults = faults.record .portFaulted (.port p) s.timers.timebase s.consist.epoch
        ∧ t.lines = s.lines ∧ t.bypass = s.bypass
    let alive : Option Nat := some (s.period (.t1 p))
    let ended : Option Nat := if (s.port p).rx = .bitsOver then s.count (.t1 p) else alive
    ((s.port p).rx = .betweenFrames →
      falls (.invalidItem p .loneBit) .discarding (s.count (.t1 p)) s.faults
        ∧ falls (.invalidItem p .invalidWidth) .discarding (s.count (.t1 p)) s.faults)
    ∧ ((s.port p).rx = .inFrame →
      falls (.invalidItem p .invalidWidth) .discarding alive s.faults
        ∧ falls (.probeReceived ⟨p, false⟩) .discarding alive s.faults)
    ∧ ((s.port p).rx = .bitsOver →
      falls (.invalidItem p .invalidWidth) .discarding (s.count (.t1 p)) s.faults
        ∧ falls (.probeReceived ⟨p, false⟩) .discarding (s.count (.t1 p)) s.faults)
    ∧ ((s.port p).rx.open = true →
      falls (.invalidItem p .abortedFrame) .discarding ended s.faults
        ∧ falls (.invalidItem p .overlongFrame) .discarding alive s.faults
        ∧ (∀ why, why ≠ .kind → falls (.invalidItem p (.badFrame why)) .betweenFrames ended s.faults)
        ∧ falls (.invalidItem p (.badFrame .kind)) .betweenFrames ended
            (s.faults.record .badKind (.port p) s.timers.timebase s.consist.epoch)))

/-- R3, R18, R19, R65: a BREAK classified on a port that is not DOWN empties all queues of both ports, ends this port's
reception and transmission without touching score, arrival count or link state, restarts T1, is repeated on the other
port only if that port is UP and the hold-off is clear, and makes a STABLE member SUSPECT. T1 of the port that repeats it
restarts too where that port was sending, or in a frame whose bits since the latest step have restarted it; else it goes
on. Here no drain is pending. An interval in which the controller began a BREAK of its own is not classified, and nothing
changes. That T1 of a port in a frame that begins the repeated BREAK stands by what the latest TIMEBASE_STEP said of that
frame (log 4), that the other port is between frames while it drives it (log 35), that its frame in flight runs on without a place in a queue
(log 15), and that one flush serves the BREAK and its repeat (log 14) is the model's choice. -/
def Obligations.BreakFlushesAndRepeats : Prop :=
  ∀ (p : Port) (s : State), s.portsRun = true → (s.port p).link ≠ .down → (s.port p).rx ≠ .breakHeld →
    s.relay.draining = false →
    exec (.breakReceived ⟨p, true⟩) s = .next s
    ∧ ∃ t, exec (.breakReceived ⟨p, false⟩) s = .next t
      ∧ t.relay = { s.relay with queues := ⟨⟨[], [], []⟩, ⟨[], [], []⟩⟩ }
      ∧ (t.port p).link = (s.port p).link ∧ (t.port p).score = (s.port p).score
      ∧ (t.port p).arrival = (s.port p).arrival ∧ (t.port p).rx = .breakHeld ∧ (t.port p).assembly = []
      ∧ (t.port p).tx.sending = false ∧ t.count (.t1 p) = some (s.period (.t1 p))
      ∧ (if s.isUp p.other = true ∧ s.bypass.holdoff = false then
          t.port p.other = { s.port p.other with tx := .brk, rx := .betweenFrames, assembly := [] }
            ∧ t.bypass = { s.bypass with holdoff := true }
            ∧ t.count (.t1 p.other) =
              (if (s.port p.other).tx.sending = true ∨ (s.port p.other).rx = .inFrame then some (s.period (.t1 p.other))
                else s.count (.t1 p.other))
        else t.port p.other = { s.port p.other with tx := (s.port p.other).tx.flushed } ∧ t.bypass = s.bypass
          ∧ t.count (.t1 p.other) = s.count (.t1 p.other))
      ∧ (if s.isMaster = false ∧ s.consist.state = .stable then
          t.consist = { s.consist with state := .suspect } ∧ t.count .t9 = none ∧ t.count .t6 = some (s.period .t6)
        else t.consist = s.consist)
      ∧ t.door = s.door ∧ t.heat = s.heat ∧ t.lines = s.lines ∧ t.faults = s.faults

/-- R4, R11, R15, R16, R19: the expiry of T1. From ARRIVING and FAULTED the port enters DOWN and reports nothing, with
PORT_LOST from FAULTED; from UP it enters DOWN, PORT_LOST is recorded and its queues are empty, here with no drain
pending and the other port not UP, so that no other fault can follow. A port that was discarding, or held by a BREAK,
is between frames again, and the break hold-off ends, with nothing else changed. That a port that enters DOWN also
cuts off a PROBE or BREAK it drives is the model's choice (log 41). -/
def Obligations.PortTimersEnd : Prop :=
  (∀ (p : Port) (s : State), s.portsRun = true → s.count (.t1 p) = some 0 →
    let down : State := (s.setPort p
      { s.port p with link := .down, arrival := 0, score := 0, rx := .betweenFrames, assembly := [], tx := .idle }).setCount
      (.t1 p) none
    ((s.port p).link = .arriving → exec (.linkSilenceTimeout p) s = .next down)
    ∧ ((s.port p).link = .faulted → exec (.linkSilenceTimeout p) s = .next (recordFault .portLost (.port p) down))
    ∧ ((s.port p).link = .up → s.relay.draining = false → s.isUp p.other = false →
      ∃ t, exec (.linkSilenceTimeout p) s = .next t ∧ t.port p = down.port p ∧ t.port p.other = s.port p.other
        ∧ t.queues p = ⟨[], [], []⟩ ∧ t.queues p.other = s.queues p.other
        ∧ t.faults = s.faults.record .portLost (.port p) s.timers.timebase s.consist.epoch
        ∧ t.lines = s.lines ∧ t.bypass = s.bypass))
  ∧ ((∀ (p : Port) (s : State), s.portsRun = true → (s.port p).rx = .discarding ∨ (s.port p).rx = .breakHeld →
    exec (.returnBetweenFrames p) s = .next (s.setPort p { s.port p with rx := .betweenFrames, assembly := [] }))
  ∧ ∀ s : State, exec .breakHoldoffEnd s = .next { s with bypass := { s.bypass with holdoff := false } })

/-! ### Relay and delivery (R75 to R100, R193) -/

/-- R29, R30, R83, R84, R92: where the relay unit puts a frame. A port that is not UP takes none, an UP port with room takes
it at the tail, with nothing else changed, and a full queue keeps what it holds and QUEUE_FULL is recorded. A frame that is
not DATA goes to the level its kind fixes: DOOR_CMD, DOOR_ALERT, SUM and TOPO to URGENT, ROLL, CONFIRM, HEAT, MGMT_REQ and
MGMT_RSP to CONTROL. The tap delivery queue takes an urgent kind below 16 and any other below 12, and TAP_OVERRUN is recorded
for a frame it does not admit. -/
def Obligations.PlacementRules : Prop :=
  (∀ (p : Port) (l : Level) (q : Queued) (s : State),
    (s.isUp p = false → enqueue p l q s = s)
    ∧ (s.isUp p = true → ((s.queues p).get l).length < l.capacity →
      (∀ p' l', ((enqueue p l q s).queues p').get l'
          = if p' = p ∧ l' = l then ((s.queues p).get l) ++ [q] else (s.queues p').get l')
        ∧ enqueue p l q s = s.setRelay { s.relay with queues := (enqueue p l q s).relay.queues })
    ∧ (s.isUp p = true → l.capacity ≤ ((s.queues p).get l).length →
      enqueue p l q s = recordFault .queueFull (.port p) s))
  ∧ (∀ (p : Port) (f : Frame) (s : State), (∀ l, f.body ≠ .data l) →
    let level : Level := match f.body with
      | .doorCmd .. | .doorAlert .. | .sum .. | .topo .. => .urgent
      | .roll .. | .confirmOut .. | .confirmDone .. | .heat .. | .mgmtReq .. | .mgmtRsp .. => .control
      | .data .. => .bulk
    sendFrame p f s = enqueue p level ⟨f, none, false⟩ s)
  ∧ ∀ (f : Frame) (s : State),
    let limit := if Body.urgent f.body = true then 16 else 12
    (s.relay.tapQueue.length < limit →
      deliver f s = s.setRelay { s.relay with tapQueue := s.relay.tapQueue ++ [f] })
    ∧ (limit ≤ s.relay.tapQueue.length → deliver f s = recordFault .tapOverrun .tap s)

/-- R78 to R81, R87: a DATA frame on an UP port. The epoch and size checks, the frame that travels away from its
addressee, the frame addressed here, and the frame that goes on: the table of R80. The frame placed toward the train
carries the generation. A full tap queue is TAP_OVERRUN and a full transmit queue QUEUE_FULL, each without effect on the
other copy; that the tap copy is placed first is the model's choice (log 13). -/
def Obligations.DataFrameDecided : Prop :=
  ∀ (p : Port) (h : Header) (l : List Byte) (s : State), s.takesFrame p → (⟨h, .data l⟩ : Frame).formOk = true →
    let e := s.service h.tag
    let u := s.afterFrame p
    let f : Frame := ⟨h, .data l⟩
    let known : Prop :=
      (s.consist.state = .stable ∨ s.consist.state = .suspect) ∧ h.epoch = s.consist.epoch ∧ h.epoch ≠ 0
    let onward : Prop :=
      h.sel.type ≠ .position ∨ s.consist.position = 0
        ∨ h.sel.value ≠ s.consist.position ∧ s.portToward h.sel.value ≠ p
    (¬known → exec (.data p h l) s = .next (recordFault .staleEpoch (.port p) u))
    ∧ (known → e.maxPayload < l.length → exec (.data p h l) s = .next (recordFault .oversize (.port p) u))
    ∧ (known → l.length ≤ e.maxPayload →
      (h.sel.type = .position → s.consist.position ≠ 0 → h.sel.value ≠ s.consist.position →
        s.portToward h.sel.value = p → exec (.data p h l) s = .next (recordFault .misroute (.port p) u))
      ∧ (h.sel.type = .position → s.consist.position ≠ 0 → h.sel.value = s.consist.position →
        exec (.data p h l) s = .next
          (if e.delivery = .never then u
          else if s.relay.tapQueue.length < 12 then u.setTapQueue (s.relay.tapQueue ++ [f])
          else recordFault .tapOverrun .tap u))
      ∧ (onward →
        let taken : Prop := e.delivery = .copy ∨ e.delivery = .addressed
          ∧ (h.sel.type = .all ∨ h.sel.type = .group ∧ s.relay.groupsActive.getLsbD h.sel.value = true)
        let delivered := if ¬taken then u
          else if s.relay.tapQueue.length < 12 then u.setTapQueue (s.relay.tapQueue ++ [f])
          else recordFault .tapOverrun .tap u
        exec (.data p h l) s = .next
          (if e.forward = .stop ∨ s.isUp p.other = false then delivered
          else if s.hasRoom p.other e.level = true then
            delivered.queued p.other e.level ⟨f, some s.relay.generation, false⟩
          else recordFault .queueFull (.port p.other) delivered)))

/-- R193: a response that reaches the node whose own position its selector names is delivered there under the node's
epoch, and dropped without a fault under another; every other response is only routed (R82), or recorded as MISROUTE.
The consist state plays no part. -/
def Obligations.ResponsesDelivered : Prop :=
  ∀ (p : Port) (h : Header) (x : RspBody) (s : State), s.takesFrame p → (⟨h, .mgmtRsp x⟩ : Frame).formOk = true →
    let u := s.afterFrame p
    let f : Frame := ⟨h, .mgmtRsp x⟩
    let mine : Prop := h.sel.type = .position ∧ s.consist.position ≠ 0 ∧ h.sel.value = s.consist.position
    let away : Prop := h.sel.type = .position ∧ s.consist.position ≠ 0 ∧ h.sel.value ≠ s.consist.position
      ∧ s.portToward h.sel.value = p
    (mine → h.epoch = s.consist.epoch → h.epoch ≠ 0 →
      exec (.mgmtRsp p h x) s = .next
        (if s.relay.tapQueue.length < 12 then u.setTapQueue (s.relay.tapQueue ++ [f])
        else recordFault .tapOverrun .tap u))
    ∧ (mine → ¬(h.epoch = s.consist.epoch ∧ h.epoch ≠ 0) → exec (.mgmtRsp p h x) s = .next u)
    ∧ (away → exec (.mgmtRsp p h x) s = .next (recordFault .misroute (.port p) u))
    ∧ (¬mine → ¬away → exec (.mgmtRsp p h x) s = .next (sendFrame p.other f u))

/-- R20, R94 to R96: an exchange begins, and one that brings no frame, or a record refused before its kind's own rule, is
released. At the beginning the node makes out what it sends: the previous intake result, the occupancy, the causes and
the head frame as they stand then. At the release a completed part takes from the queue the head frame it carried, if
it carried one, whatever arrived meanwhile, and the result of this exchange is set. What began in STARTING, or is
released there, exchanges nothing. A release whose beginning was no command begins and ends at once. The beginning as a
command of its own, and the select periods that are not served, are the model's choice (log 9). -/
def Obligations.TapExchangeWithoutFrame : Prop :=
  ∀ (done : Bool) (part : TapPart) (s : State),
    let now : TapReport :=
      { result := s.relay.intake, occupancy := s.relay.tapQueue.length
        causeQueue := decide (s.relay.tapQueue ≠ []), causeReport := s.reportPending
        causeFaults := s.faults.news, head := s.relay.tapQueue.head? }
    let outcome : IntakeResult := match part with
      | .begins => s.relay.intake
      | .nothing => .none
      | .refusedRecord .kind => .refused .badKind
      | .refusedRecord .notOriginable => if s.bypass.node = .operating then .refused .badKind else .refused .denied
      | .refusedRecord _ => .refused .invalid
    let left (head : Bool) : List Frame :=
      if done = true ∧ head = true then s.relay.tapQueue.drop 1 else s.relay.tapQueue
    let answers (r : RelayUnit) : Prop := exec (.tapExchange done part) s = .next (s.setRelay r)
    (part = .begins →
      (s.relay.select = .idle → s.bypass.node = .starting → answers { s.relay with select := .unserved })
      ∧ (s.relay.select = .idle → s.bypass.node ≠ .starting →
        answers { s.relay with report := some now, select := .serving (decide (s.relay.tapQueue ≠ [])) })
      ∧ (s.relay.select ≠ .idle → answers s.relay))
    ∧ (part ≠ .begins →
      (s.bypass.node = .starting ∨ s.relay.select = .unserved → answers { s.relay with select := .idle })
      ∧ (s.bypass.node ≠ .starting → s.relay.select = .idle →
        answers { s.relay with report := some now, tapQueue := left true, intake := outcome })
      ∧ (∀ head, s.bypass.node ≠ .starting → s.relay.select = .serving head →
        answers { s.relay with select := .idle, tapQueue := left head, intake := outcome }))

/-- R96 to R99: a DATA record of correct form from the tap, and a MGMT_REQ record to a position, a group or ALL. The
first check that fails refuses it and nothing is queued. Otherwise one copy stands on the port toward the position, or
on each UP port: DATA at its service's level, stamped with the epoch, the own position and the generation; a request
at level CONTROL, with the epoch, origin position 1 and the request number kept. That phase and spare bits are sent as
0 is the model's choice (log 24). -/
def Obligations.TapFramesQueued : Prop :=
  (∀ (done : Bool) (sel : Selector) (m : TapMark) (l : List Byte) (s : State),
    (tapRecord sel m (.data l)).tapFormOk = true → s.tapServes →
    let e := s.service m.tag
    let u := nodePart done s
    let answers (x : IntakeResult) (t : State) : Prop := exec (.tapData done sel m l) s = .next (setIntake x t)
    let settled : Prop := s.consist.state = .stable ∨ s.consist.state = .suspect
    let self : Prop := sel.type = .self ∨ sel.type = .position ∧ sel.value = s.consist.position
    let beyond : Prop := sel.type = .position ∧ s.consist.table.length < sel.value
    let cut : Prop := sel.type = .position ∧ s.isUp (s.portToward sel.value) = false
    let room : Prop :=
      if sel.type = .position then s.hasRoom (s.portToward sel.value) e.level = true else s.roomy e.level
    let q : Queued :=
      ⟨⟨⟨false, sel, false, s.consist.epoch, s.consist.position, m.tag⟩, .data l⟩, some s.relay.generation, false⟩
    if s.bypass.node ≠ .operating then answers (.refused .denied) u
    else if ¬settled then answers (.refused .notInaugurated) u
    else if e.originate = false then answers (.refused .denied) u
    else if self then answers (.refused .self) u
    else if e.maxPayload < l.length then answers (.refused .invalid) u
    else if beyond then answers (.refused .invalid) u
    else if cut then answers (.refused .denied) u
    else if ¬room then answers (.refused .queueFull) u
    else answers .accepted
      (if sel.type = .position then u.queued (s.portToward sel.value) e.level q
      else (u.queued .e1 e.level q).queued .e2 e.level q))
  ∧ (∀ (done : Bool) (dest : Dest) (m : TapMark) (c : ReqCode) (r : Req) (s : State),
    (tapRecord (selectorOf dest) m (.mgmtReq c r)).tapFormOk = true → s.tapServes →
    let u := nodePart done s
    let answers (x : IntakeResult) (t : State) : Prop :=
      exec (.tapMgmtReqToTrain done dest m c r) s = .next (setIntake x t)
    let q : Queued :=
      ⟨⟨⟨false, selectorOf dest, false, s.consist.epoch, 1, m.tag⟩, .mgmtReq c r⟩, none, false⟩
    let lead : Prop := s.consist.role = .master ∧ s.consist.state = .stable
    let sel := selectorOf dest
    let room : Prop :=
      if sel.type = .position then s.hasRoom (s.portToward sel.value) .control = true else s.roomy .control
    if s.bypass.node ≠ .operating ∨ ¬lead then answers (.refused .denied) u
    else if sel.type = .position ∧ sel.value = s.consist.position then answers (.refused .self) u
    else if sel.type = .position ∧ s.consist.table.length < sel.value then answers (.refused .invalid) u
    else if ¬room then answers (.refused .queueFull) u
    else answers .accepted
      (if sel.type = .position then u.queued (s.portToward sel.value) .control q
      else (u.queued .e1 .control q).queued .e2 .control q))

/-- R100, R133, R134: a DOOR_CMD record of correct form from the tap. The checks in their order refuse it without a
command number; otherwise the number is given out and the counter raised, a RELEASE drops the interlock and sets the
alert flag, the own coach acts when in scope, and one copy with the at-rest flag stands on the rearward port, unless
the command is for position 1 alone. That phase and spare bits are sent as 0 is the model's choice (log 24). -/
def Obligations.TapDoorCommandOriginated : Prop :=
  ∀ (c : DoorCommand) (done : Bool) (sel : Selector) (m : TapMark) (side : TrainSide) (atRest : Bool) (s : State),
    (tapRecord sel m (.doorCmd c side atRest)).tapFormOk = true → s.tapServes →
    let u := nodePart done s
    let cmd : Instr := match c with
      | .release => .tapDoorCmdRelease done sel m side atRest
      | .close => .tapDoorCmdClose done sel m side atRest
    let answers (x : IntakeResult) (t : State) : Prop := exec cmd s = .next (setIntake x t)
    let lead : Prop := s.consist.role = .master ∧ s.consist.state = .stable
    let own : Prop := sel.type = .position ∧ sel.value = 1
    let f : Frame :=
      ⟨⟨false, sel, false, s.consist.epoch, 1, s.door.commandCounter⟩, .doorCmd c side (s.asserted .zeroSpeed)⟩
    let numbered := u.setDoor { u.door with commandCounter := (u.door.commandCounter + 1) % 256 }
    let dropped := if c = .release then
        numbered.setDoor { numbered.door with doorsClosed := false, alert := true } else numbered
    let inScope : Prop := own ∨ sel.type = .all ∨ sel.type = .group ∧ s.relay.groupsActive.getLsbD sel.value = true
    let acted := if inScope then
        (match c with
        | .release => applyReleases (coachSides s.consist.orientation side) dropped
        | .close => applyCloses (coachSides s.consist.orientation side) dropped)
      else dropped
    if s.bypass.node ≠ .operating ∨ ¬lead then answers (.refused .denied) u
    else if sel.type = .self then answers (.refused .self) u
    else if sel.type = .position ∧ s.consist.table.length < sel.value then answers (.refused .invalid) u
    else if c = .release ∧ side = .both then answers (.refused .invalid) u
    else if c = .release ∧ s.present .zeroSpeed = false then answers (.refused .invalid) u
    else if c = .release ∧ s.asserted .zeroSpeed = false then answers (.refused .denied) u
    else if ¬own ∧ s.isUp s.rearwardPort = true ∧ s.hasRoom s.rearwardPort .urgent = false then
      answers (.refused .queueFull) u
    else answers .accepted (if own then acted else acted.queued s.rearwardPort .urgent ⟨f, none, false⟩)

/-! ### Doors (R120 to R148) -/

/-- R126, R127: what a RELEASE and a CLOSE applied to one side do to it: its state, its outputs and its close timer. The
applied stage at most falls, with T14 (R155, R170), which stays as it was where the stage does not turn to or from 0. The
other side, every other count, the timebase, the timer settings and every other block are unchanged. -/
def Obligations.SideCommandsApplied : Prop :=
  ∀ (d e : Side) (s : State), e ≠ d →
    let kept (t : State) : Prop :=
      t.side e = s.side e ∧ t.count (.t10 e) = s.count (.t10 e) ∧ t.heat.applied ≤ s.heat.applied
        ∧ t.door = { s.door with sides := t.door.sides }
        ∧ { t.heat with applied := s.heat.applied } = s.heat ∧ t.consist = s.consist ∧ t.relay = s.relay
        ∧ t.lines = s.lines ∧ t.faults = s.faults ∧ t.ports = s.ports ∧ t.bypass = s.bypass ∧ t.mgmt = s.mgmt
        ∧ t.timers.timebase = s.timers.timebase ∧ t.timers.settings = s.timers.settings
        ∧ (∀ k : TimerId, k ≠ .t10 d → k ≠ .t14 → t.count k = s.count k)
        ∧ ((s.heat.applied = 0 ↔ t.heat.applied = 0) → t.count .t14 = s.count .t14)
        ∧ t.pending = s.pending ∧ t.identity = s.identity
    let becomes (t : State) (x : DoorState) (close : Option Nat) : Prop :=
      t.side d = { s.side d with state := x } ∧ t.count (.t10 d) = close
        ∧ (∀ g, t.ownerLevel g (.doorRelease d) = (x == .released)
          ∧ t.ownerLevel g (.doorClose d) = (x == .closing && s.operating))
    let closed (t : State) : Prop := kept t ∧
      (if (s.side d).proof = .proved then becomes t .closed none
      else becomes t .closing (some (s.setting 10).period))
    (s.inhibited d = true ∨ s.consist.doors = 0 → applyRelease d s = s)
    ∧ (s.inhibited d = false → s.consist.doors ≠ 0 →
      ((s.side d).state = .closed ∨ (s.side d).state = .closing →
        kept (applyRelease d s) ∧ becomes (applyRelease d s) .released none)
      ∧ ((s.side d).state = .released ∨ (s.side d).state = .stuck → applyRelease d s = s))
    ∧ ((s.side d).state = .released ∨ (s.side d).state = .stuck → closed (applyClose d s))
    ∧ ((s.side d).state = .closed ∨ (s.side d).state = .closing → applyClose d s = s)

/-- R122, R128, R138: what a change of proof does to its side: the proof, the alert hold-off, and CLOSED with the close
timer stopped for a CLOSING or STUCK side that is proved. Where no alert is due nothing else changes but the heat unit's
stage, which at most falls, with T14 (R155, R170); where one is due DOOR_ALERT_RAISED is recorded, a member with a position sends the alert
forward, and a master drops its interlock and delivers the alert to its tap. That a master stamps position 1 in every
state is the model's choice (log 18). -/
def Obligations.ProofChangesAct : Prop :=
  ∀ (d e : Side) (new : Proof) (s : State), e ≠ d →
    let due : Prop := (s.side d).proof = .proved ∧ new = .notProved ∧ (s.side d).state = .closed
      ∧ (s.side d).held = false ∧ s.consist.doors ≠ 0
    let shut : Prop := new = .proved ∧ ((s.side d).state = .closing ∨ (s.side d).state = .stuck)
    let t := proofNotice d new s
    let f (k : Nat) : Frame := ⟨⟨false, ⟨.all, 0⟩, false, s.consist.epoch, k, 0⟩,
      .doorAlert ⟨k, d, if coachSide s.consist.orientation true = d then .left else .right, s.identity⟩⟩
    t.side d = ⟨if shut then .closed else (s.side d).state, new, (s.side d).localInhibit,
      if due then true else (s.side d).held && decide (new ≠ .proved)⟩
    ∧ t.count (.t10 d) = (if shut then none else s.count (.t10 d))
    ∧ t.side e = s.side e ∧ t.count (.t10 e) = s.count (.t10 e) ∧ t.heat.applied ≤ s.heat.applied
    ∧ { t.heat with applied := s.heat.applied } = s.heat
    ∧ t.timers.timebase = s.timers.timebase ∧ t.timers.settings = s.timers.settings
    ∧ (∀ k : TimerId, k ≠ .t10 d → k ≠ .t14 → t.count k = s.count k)
    ∧ ((s.heat.applied = 0 ↔ t.heat.applied = 0) → t.count .t14 = s.count .t14)
    ∧ t.consist = s.consist ∧ t.lines = s.lines ∧ t.ports = s.ports ∧ t.bypass = s.bypass ∧ t.mgmt = s.mgmt
    ∧ t.pending = s.pending ∧ t.identity = s.identity
    ∧ (¬due → t.faults = s.faults ∧ t.relay = s.relay)
    ∧ (due →
      let u := recordFault .doorAlertRaised (.side d) s
      let sent := if s.consist.role = .master then deliver (f 1) u
        else if s.consist.position = 0 then u else sendFrame s.forwardPort (f s.consist.position) u
      t.faults = sent.faults ∧ t.relay = sent.relay
        ∧ (s.consist.role = .master → t.door.doorsClosed = false ∧ t.door.alert = true))
    ∧ (¬(due ∧ s.consist.role = .master) → t.door = { s.door with sides := t.door.sides })

/-- R82, R135 to R137: a DOOR_CMD that arrives on an UP port. It is routed whatever its owner says, not given to the
door unit when misrouted, and applied and then delivered to the tap when it is accepted: a RELEASE by R135, a CLOSE
under the current epoch, under the pending epoch, or with scope ALL. Where an epoch is both, the current one is tried
first: the model's choice (log 19); that the frame is queued onward before the door unit acts and delivers it is another
(log 13). -/
def Obligations.DoorCommandArrives : Prop :=
  ∀ (c : DoorCommand) (p : Port) (h : Header) (side : TrainSide) (atRest : Bool) (s : State),
    let f : Frame := ⟨h, .doorCmd c side atRest⟩
    s.takesFrame p → f.formOk = true →
    let u := s.afterFrame p
    let cmd : Instr := match c with
      | .release => .doorCmdRelease p h side atRest
      | .close => .doorCmdClose p h side atRest
    let here : Prop := h.sel.type = .position ∧ s.consist.position ≠ 0 ∧ h.sel.value = s.consist.position
    let away : Prop := h.sel.type = .position ∧ s.consist.position ≠ 0 ∧ h.sel.value ≠ s.consist.position
      ∧ s.portToward h.sel.value = p
    let scope (k : Nat) : Prop := h.sel.type = .position ∧ h.sel.value = k ∧ k ≠ 0 ∨ h.sel.type = .all
      ∨ h.sel.type = .group ∧ s.relay.groupsActive.getLsbD h.sel.value = true
    let current : Prop := h.epoch = s.consist.epoch ∧ h.epoch ≠ 0
    let x := s.consist.state
    let m : Prop := s.consist.role = .master
    let known : Prop := x = .stable ∨ ¬m ∧ (x = .suspect ∨ x = .inaugurating)
      ∨ m ∧ (x = .settling ∨ x = .calling ∨ x = .confirming)
    let routed := if here then u else sendFrame p.other f u
    if away then exec cmd s = .next (recordFault .misroute (.port p) u)
    else
      (c = .release →
        exec cmd s = .next
          (if x = .stable ∧ current ∧ atRest = true ∧ side ≠ .both ∧ scope s.consist.position then
            deliver f (applyReleases (coachSides s.consist.orientation side) routed)
          else routed))
      ∧ (c = .close →
        let foreign : Option (List Side) :=
          if h.sel.type = .all then (if current then some (coachSides s.consist.orientation side) else some [.a, .b])
          else none
        let sides : Option (List Side) :=
          if current ∧ known ∧ scope s.consist.position then some (coachSides s.consist.orientation side)
          else if m then
            (match s.consist.attempt with
            | some a => if h.epoch = a.epoch ∧ scope 1 then some (coachSides a.orientation side) else foreign
            | none => foreign)
          else
            (match s.consist.joined with
            | some j => if h.epoch = j.epoch ∧ scope j.position then some (coachSides j.orientation side) else foreign
            | none => foreign)
        exec cmd s = .next (match sides with
          | some l => deliver f (applyCloses l routed)
          | none => routed))

/-- R139, R140, R129: a member relays a DOOR_ALERT unchanged out of its other port and changes nothing else; a master
drops its interlock, sets the alert flag and delivers the alert, under any epoch and in any state. -/
def Obligations.DoorAlertTaken : Prop :=
  ∀ (p : Port) (h : Header) (x : AlertBody) (s : State), s.takesFrame p → (⟨h, .doorAlert x⟩ : Frame).formOk = true →
    let u := s.afterFrame p
    let f : Frame := ⟨h, .doorAlert x⟩
    exec (.doorAlert p h x) s = .next
      (if s.consist.role = .member then
        (if s.isUp p.other = false then u
        else if ((s.queues p.other).urgent).length < 4 then
          u.setQueues p.other { s.queues p.other with urgent := (s.queues p.other).urgent ++ [⟨f, none, false⟩] }
        else recordFault .queueFull (.port p.other) u)
      else
        let v := u.setDoor { s.door with doorsClosed := false, alert := true }
        if s.relay.tapQueue.length < 16 then v.setTapQueue (s.relay.tapQueue ++ [f])
        else recordFault .tapOverrun .tap v)

/-- R129, R141, R142, R147: the close timer of a CLOSING side runs out: the side is STUCK, its close output inactive,
and DOOR_STUCK is recorded against it. At a STABLE master the expiry of T7 starts a walk, or marks the start pending
while a walk is outstanding, and T7 runs on; the expiry of T8 with a walk outstanding ends it, the interlock goes
inactive, SUMMARY_LOST is recorded, and a pending start begins the next walk. -/
def Obligations.DoorTimersEnd : Prop :=
  (∀ (d : Side) (s : State), s.bypass.node = .operating → s.count (.t10 d) = some 0 → (s.side d).state = .closing →
    ∃ t, exec (.closeTimeout d) s = .next t
      ∧ t = recordFault .doorStuck (.side d) ((s.setSide d { s.side d with state := .stuck }).setCount (.t10 d) none)
      ∧ ∀ g, t.ownerLevel g (.doorClose d) = false)
  ∧ (∀ s : State, s.bypass.node = .operating → s.consist.role = .master → s.consist.state = .stable →
    (s.count .t7 = some 0 →
      let u := s.setCount .t7 (some (s.setting 7).period)
      exec .summaryPeriodExpiry s = .next
        (if s.door.outstanding = none then startSummaryWalk u else u.setDoor { s.door with startPending := true }))
    ∧ (s.count .t8 = some 0 → s.door.outstanding ≠ none →
      let v := recordFault .summaryLost .node ((s.setCount .t8 none).setDoor
        { s.door with outstanding := none, doorsClosed := false, startPending := false })
      exec .summaryReturnTimeout s = .next (if s.door.startPending = true then startSummaryWalk v else v)))

/-- R143, R144: a SUM OUT that a STABLE or SUSPECT member accepts on its forward port goes on with this node's
contribution, rearward, or turned to BACK on the forward port when the rearward port is not UP; T9 restarts in STABLE.
Every other SUM OUT is dropped without a fault, at a master too. That a node at position 0 sets no bit of the fault mask (log 27),
that the count of released sides has no cap, and that spare bits are kept (log 24) is the model's choice. -/
def Obligations.SumOutTaken : Prop :=
  ∀ (p : Port) (h : Header) (x : SumBody) (s : State), s.takesFrame p → (⟨inPhase false h, .sum x⟩ : Frame).formOk = true →
    let u := s.afterFrame p
    let shut (d : Side) : Prop := s.consist.doors = 0 ∨ (s.side d).state = .closed ∧ (s.side d).proof = .proved
    let bothShut : Prop := shut .a ∧ shut .b
    let own : BitVec 32 := if s.consist.position = 0 then 0 else 1#32 <<< (s.consist.position - 1)
    let y : SumBody :=
      { contributions := min 32 (x.contributions + 1)
        allClosed := x.allClosed && decide bothShut
        suspect := x.suspect || decide (s.consist.state = .suspect)
        stuck := x.stuck || decide ((s.side .a).state = .stuck ∨ (s.side .b).state = .stuck)
        spare := x.spare
        released := x.released + (if (s.side .a).state = .released then 1 else 0)
          + (if (s.side .b).state = .released then 1 else 0)
        firstNotProved := if x.firstNotProved = 0 ∧ ¬bothShut then s.consist.position else x.firstNotProved
        faultMask := if s.faults.news = true then x.faultMask ||| own else x.faultMask }
    exec (.sumOut p h x) s = .next
      (if s.consist.role = .member ∧ (s.consist.state = .stable ∨ s.consist.state = .suspect)
          ∧ h.epoch = s.consist.epoch ∧ h.epoch ≠ 0 ∧ p = s.forwardPort then
        let v := if s.consist.state = .stable then u.setCount .t9 (some (s.setting 9).period) else u
        if s.isUp s.rearwardPort = true then sendFrame s.rearwardPort ⟨inPhase false h, .sum y⟩ v
        else sendFrame s.forwardPort ⟨inPhase true h, .sum y⟩ v
      else u)

/-- R145, R146: a SUM BACK. A STABLE or SUSPECT member relays it unchanged from its rearward to its forward port, and
drops any other without a fault. A STABLE master takes the one of its outstanding walk: T8 stops, the walk ends, the
interlock is set by the result, the result is delivered, a doubt is a trigger, and a pending start begins the next walk
if the master is still STABLE. It drops any other without a fault. -/
def Obligations.SumBackTaken : Prop :=
  ∀ (p : Port) (h : Header) (x : SumBody) (s : State), s.takesFrame p → (⟨inPhase true h, .sum x⟩ : Frame).formOk = true →
    let u := s.afterFrame p
    let f : Frame := ⟨inPhase true h, .sum x⟩
    let clean : Prop := x.contributions = s.consist.table.length ∧ x.allClosed = true ∧ x.suspect = false
      ∧ s.door.alert = false
    let doubt : Prop := x.suspect = true ∨ x.contributions ≠ s.consist.table.length
    exec (.sumBack p h x) s = .next
      (if s.consist.role = .member then
        (if (s.consist.state = .stable ∨ s.consist.state = .suspect) ∧ h.epoch = s.consist.epoch ∧ h.epoch ≠ 0
            ∧ p = s.rearwardPort then sendFrame s.forwardPort f u
        else u)
      else if s.consist.state = .stable ∧ s.door.outstanding = some h.tag ∧ h.epoch = s.consist.epoch
          ∧ p = s.rearwardPort then
        let v := deliver f ((u.setDoor { s.door with outstanding := none, doorsClosed := decide clean }).setCount .t8 none)
        if doubt then trigger v
        else if s.door.startPending = true then startSummaryWalk (v.setDoor { v.door with startPending := false })
        else v
      else u)

/-- R142, R158, R164: a walk starts: the walk number is raised and outstanding, the return timer starts, and the frame
with the master's own part is queued on the rearward port, here UP. A summary walk clears the alert flag and begins with an
empty payload; a heat walk begins with the supply limit and the number of coaches. A train of one, with no UP port, takes
the result as returned at once: nothing stays outstanding and the return timer stops; the interlock is set by a summary
result, which is delivered, and a doubt is a trigger; a heat walk ends with the master's own return step on the record it
has just stored, and is delivered. That a
start pending then starts no next walk (log 27), and that the spare bits of the summary payload begin as 0 (log 36), is the
model's choice. -/
def Obligations.WalksStart : Prop :=
  ∀ s : State,
    let n := (s.door.walk + 1) % 256
    let k := (s.heat.walk + 1) % 256
    let heading (back : Bool) (tag : Nat) : Header := ⟨back, ⟨.all, 0⟩, false, s.consist.epoch, 1, tag⟩
    let sum : SumBody := s.contribute ⟨0, true, false, false, 0, 0, 0, 0⟩
    let x : HeatBody := ⟨s.heat.supplyLimit, s.consist.table.length, 0, 0, 0⟩
    let y : HeatBody := s.outboundBody x
    let stepped : State := outboundStep k x (s.setHeat { s.heat with walk := k, outstanding := some k })
    (s.isUp s.rearwardPort = true →
      startSummaryWalk s = sendFrame s.rearwardPort ⟨heading false n, .sum sum⟩
        ((s.setDoor { s.door with walk := n, outstanding := some n, alert := false }).setCount .t8
          (some (s.setting 8).period))
      ∧ startHeatWalk s = sendFrame s.rearwardPort ⟨heading false k, .heat y⟩
        (stepped.setCount .t12 (some (s.setting 12).period)))
    ∧ (s.upPorts = [] →
      let closed : Prop := s.consist.table.length = 1 ∧ s.bothClosed = true ∧ s.consist.state ≠ .suspect
      let doubt : Prop := s.consist.state = .suspect ∨ s.consist.table.length ≠ 1
      let told : State := deliver ⟨heading true n, .sum sum⟩ ((s.setDoor
        { s.door with walk := n, outstanding := none, alert := false, doorsClosed := decide closed }).setCount .t8 none)
      startSummaryWalk s = (if doubt then trigger told else told)
      ∧ ∃ r : WalkRecord, stepped.heat.walkRecord = some r ∧ r.walk = k ∧ r.demand = s.effectiveDemand
        ∧ startHeatWalk s = deliver ⟨heading true k, .heat (s.returnBody r y)⟩
          (returnStep r y ((stepped.setHeat { stepped.heat with outstanding := none }).setCount .t12 none)))

/-- R126, R129 to R131, R148, R156, R168: TRAIN_DOORS_CLOSED is active only at a STABLE master, and the walks and
their timers are at rest elsewhere; no side is RELEASED while it is inhibited or while the consist state is
UNINAUGURATED or BLOCKED, and a close timer runs only for a CLOSING side; the applied stage never exceeds d_eff, nor
the fallback stage while in fallback, and is 0 while locked out; outside STABLE and SUSPECT the node is in fallback
without a walk record. Every command keeps each of these. -/
def Obligations.OutputsStaySafe : Prop :=
  (∀ (c : Instr) (s t : State), exec c s = .next t → s.InterlockSafe → s.WalkTimersSafe →
    t.InterlockSafe ∧ t.WalkTimersSafe)
  ∧ (∀ (c : Instr) (s t : State), exec c s = .next t → (s.DoorsSafe → t.DoorsSafe) ∧ (s.CloseTimerSafe → t.CloseTimerSafe))
  ∧ (∀ (c : Instr) (s t : State), exec c s = .next t → (s.HeatSafe → t.HeatSafe) ∧ (s.FallbackSafe → t.FallbackSafe))

/-- R148: TRAIN_DOORS_CLOSED becomes active only by the result of a summary walk that counted every coach of the table,
found all closed, no coach in doubt and no alert since it started: a SUM BACK, or the walk a train of one makes of
itself in the same command, by which the walk number is raised, with both its own sides closed. -/
def Obligations.InterlockRaisedOnlyByCleanWalk : Prop :=
  ∀ (c : Instr) (s t : State), exec c s = .next t → s.door.doorsClosed = false → t.door.doorsClosed = true →
    (∃ p h x, c = .sumBack p h x ∧ s.consist.role = .master ∧ s.consist.state = .stable
      ∧ s.door.outstanding = some h.tag ∧ x.contributions = s.consist.table.length ∧ x.allClosed = true
      ∧ x.suspect = false ∧ s.door.alert = false)
    ∨ t.upPorts = [] ∧ t.consist.role = .master ∧ t.consist.state = .stable ∧ t.consist.table.length = 1
      ∧ t.bothClosed = true ∧ t.door.alert = false ∧ t.door.walk = (s.door.walk + 1) % 256

/-- R73, R123, R130, R132: a LOCAL write of the inhibit flags stores them, closes a RELEASED side that becomes
inhibited, and keeps every other side state; a byte other than 0 and 1 is refused and no flag changes. A LOCAL write
of the coach descriptor stores class and doors per side; when the doors per side become 0 every side is CLOSED and the
close timer of a side that was not is stopped, and otherwise the sides and their timers keep their values. -/
def Obligations.DoorObjectsWritten : Prop :=
  (∀ (v : Via) (q : Req) (s : State), s.judges v .write q → s.admits v .doorInhibit q →
    let u := s.whenTaken v .write q
    ((∀ b ∈ q.data, b = 0 ∨ b = 1) →
      ∃ t, exec (.writeDoorInhibit v q) s = .next t
        ∧ (∀ d : Side,
          let n := if d = .a then 0 else 1
          let b := q.data.getD (n - q.index) 0
          t.side d = (if q.index ≤ n ∧ n < q.index + q.data.length then
            { s.side d with
              localInhibit := decide (b = 1)
              state := if b = 1 ∧ (s.side d).state = .released then
                  (if (s.side d).proof = .proved then .closed else .closing) else (s.side d).state }
          else s.side d))
        ∧ t.door = { s.door with sides := t.door.sides }
        ∧ t.relay = (u.replied v .write q .ok []).relay ∧ t.faults = (u.replied v .write q .ok []).faults
        ∧ t.consist = s.consist ∧ t.lines = s.lines ∧ t.ports = u.ports ∧ t.bypass = s.bypass ∧ t.mgmt = s.mgmt)
    ∧ ((∃ b ∈ q.data, b ≠ 0 ∧ b ≠ 1) →
      exec (.writeDoorInhibit v q) s = .next (u.replied v .write q .invalid [])))
  ∧ (∀ (v : Via) (q : Req) (b : Byte) (s : State), s.judges v .write q → s.admits v .coachDescriptor q → q.data = [b] →
    let u := s.whenTaken v .write q
    let gone : Prop := s.consist.doors ≠ 0 ∧ b.toNat % 8 = 0
    ∃ t, exec (.writeCoachDescriptor v q) s = .next t
      ∧ t.consist = { s.consist with coachClass := b.toNat / 16, doors := b.toNat % 8 }
      ∧ (∀ d : Side, t.side d = (if gone then { s.side d with state := .closed } else s.side d)
        ∧ t.count (.t10 d) = (if gone ∧ (s.side d).state ≠ .closed then none else s.count (.t10 d)))
      ∧ t.door = { s.door with sides := t.door.sides } ∧ t.heat.applied ≤ s.heat.applied
      ∧ t.relay = (u.replied v .write q .ok []).relay ∧ t.faults = (u.replied v .write q .ok []).faults
      ∧ t.lines = s.lines ∧ t.ports = u.ports ∧ t.bypass = s.bypass ∧ t.mgmt = s.mgmt)

/-! ### Consist (R42 to R74) -/

/-- R49 to R52: a ROLL CALL. A member with fewer than 32 entries before it joins the attempt, appends its entry and
sends the call on, or back when its other port is not UP; one that finds 32 entries sends it back with the overflow
flag and stays as it is. A master answers another master's call in the same way without any change of its own, and
records ROLL_MISMATCH for a call that bears its own identity. That the spare bits of its entry are 0 is the model's choice
(log 36). -/
def Obligations.RollCallTaken : Prop :=
  ∀ (p : Port) (h : Header) (x : RollBody) (s : State), s.takesFrame p → (⟨inPhase false h, .roll x⟩ : Frame).formOk = true →
    let u := s.afterFrame p
    let o : Orientation := if p = .e1 then .normal else .reversed
    let far : FarPort := match (s.port p.other).link with
      | .up => .up
      | .faulted => .faulted
      | .down | .arriving => .down
    let m : Prop := s.consist.role = .master
    let own : Entry :=
      ⟨s.identity, o, decide m, decide (¬m) && s.cab, far, 0, s.consist.coachClass, false, s.consist.doors⟩
    let longer : Body := .roll { x with entries := x.entries ++ [own] }
    let full : Body := .roll { x with overflow := true }
    let n := x.entries.length
    (m → exec (.rollCall p h x) s = .next
      (if x.master = s.identity then recordFault .rollMismatch (.port p) u
      else sendFrame p ⟨inPhase true h, if n < 32 then longer else full⟩ u))
    ∧ (¬m → 32 ≤ n → exec (.rollCall p h x) s = .next (sendFrame p ⟨inPhase true h, full⟩ u))
    ∧ (¬m → n < 32 →
      let sent := if s.isUp p.other = true then sendFrame p.other ⟨inPhase false h, longer⟩ u
        else sendFrame p ⟨inPhase true h, longer⟩ u
      ∃ t, exec (.rollCall p h x) s = .next t
        ∧ t.consist = { s.consist with
            state := .inaugurating, joined := some ⟨h.epoch, x.master, h.tag, n + 1, o⟩, blocked := .none }
        ∧ t.count .t5 = some (s.setting 5).period ∧ t.count .t6 = none ∧ t.count .t9 = none
        ∧ t.relay = sent.relay ∧ t.faults = sent.faults ∧ t.ports = u.ports ∧ t.door = s.door
        ∧ t.heat.walkRecord = none ∧ t.heat.fallback = true ∧ t.heat.applied ≤ s.heat.applied
        ∧ t.lines = s.lines ∧ t.bypass = s.bypass ∧ t.mgmt = s.mgmt ∧ t.identity = s.identity)

/-- R53 to R55: a ROLL BACK. A member relays it unchanged toward the master when it matches its pending record. A master
in CALLING takes the one of its attempt: it stops T3, keeps the list, forms the result, sends the CONFIRM OUT and goes
to CONFIRMING with T4 started, or to BLOCKED. Every other ROLL BACK is ROLL_MISMATCH, and nothing else. That the master's
own entry, with which the list must begin, is the whole entry its CALL carried is the model's reading (log 20). -/
def Obligations.RollBackTaken : Prop :=
  ∀ (p : Port) (h : Header) (x : RollBody) (s : State), s.takesFrame p → (⟨inPhase true h, .roll x⟩ : Frame).formOk = true →
    let u := s.afterFrame p
    let wrong := recordFault .rollMismatch (.port p) u
    let names (k : Nat) : Prop := ∃ e, x.entries[k]? = some e ∧ e.identity = s.identity
    (s.consist.role = .member →
      (∀ j, s.consist.joined = some j →
        h.epoch = j.epoch ∧ x.master = j.master ∧ h.tag = j.attempt ∧ p = (forwardOf j.orientation).other
          ∧ j.position ≠ 0 ∧ names (j.position - 1) →
        exec (.rollBack p h x) s = .next (sendFrame (forwardOf j.orientation) ⟨inPhase true h, .roll x⟩ u))
      ∧ ((∀ j, s.consist.joined = some j →
        ¬(h.epoch = j.epoch ∧ x.master = j.master ∧ h.tag = j.attempt ∧ p = (forwardOf j.orientation).other
          ∧ j.position ≠ 0 ∧ names (j.position - 1))) →
        exec (.rollBack p h x) s = .next wrong))
    ∧ (s.consist.role = .master → s.consist.attempt = none → exec (.rollBack p h x) s = .next wrong)
    ∧ (s.consist.role = .master → ∀ a, s.consist.attempt = some a →
      let mine : Prop := s.consist.state = .calling ∧ p = (forwardOf a.orientation).other ∧ h.epoch = a.epoch
        ∧ x.master = s.identity ∧ h.tag = a.attempt ∧ x.entries[0]? = some a.own
      (¬mine → exec (.rollBack p h x) s = .next wrong)
      ∧ (mine →
        let result : ConfirmResult :=
          if x.overflow = true then .overlong
          else if ∃ e ∈ x.entries.drop 1, e.cabActive = true ∨ e.cabMid = true then .conflict
          else if ¬(x.entries.map Entry.identity).Nodup then .duplicate
          else .ok
        let sent := sendFrame p
          ⟨⟨false, ⟨.all, 0⟩, false, a.epoch, 1, a.attempt⟩, .confirmOut ⟨result, s.identity, x.entries⟩⟩ u
        ∃ t, exec (.rollBack p h x) s = .next t ∧ t.relay = sent.relay ∧ t.faults = sent.faults
          ∧ t.ports = u.ports ∧ t.count .t3 = none ∧ t.lines = s.lines ∧ t.bypass = s.bypass ∧ t.mgmt = s.mgmt
          ∧ (result = .ok → t.consist = { s.consist with
              state := .confirming, attempt := some { a with returned := x.entries } }
            ∧ t.count .t4 = some (s.setting 4).period ∧ t.door = s.door)
          ∧ (result ≠ .ok → t.consist = { s.consist with
              state := .blocked, blocked := blockReason result, epoch := 0, position := 0, orientation := .normal
              table := [], joined := none, attempt := none }
            ∧ (∀ k ∈ consistTimers, t.count k = none)
            ∧ (∀ d, (t.side d).state ≠ .released))))

/-- R56 to R59: a CONFIRM OUT. A member whose pending record it matches installs the consist, clears consist groups 8 to
15 and passes the frame on, or answers DONE as the last coach; a refusal makes a member BLOCKED and goes on; another
master's refusal makes a master BLOCKED; and every other one is ROLL_MISMATCH, and nothing else. -/
def Obligations.ConfirmOutTaken : Prop :=
  ∀ (p : Port) (h : Header) (x : ConfirmBody) (s : State), s.takesFrame p →
    (⟨inPhase false h, .confirmOut x⟩ : Frame).formOk = true →
    let u := s.afterFrame p
    let f : Frame := ⟨inPhase false h, .confirmOut x⟩
    let wrong := recordFault .rollMismatch (.port p) u
    let blockedBy (t : State) : Prop :=
      t.consist = { s.consist with
        state := .blocked, blocked := blockReason x.result, epoch := 0, position := 0, orientation := .normal
        table := [], joined := none, attempt := none }
      ∧ (∀ k ∈ consistTimers, t.count k = none) ∧ (∀ d, (t.side d).state ≠ .released) ∧ t.ports = u.ports
      ∧ t.heat.walkRecord = none ∧ t.heat.fallback = true ∧ t.heat.applied ≤ s.heat.applied
      ∧ t.lines = s.lines ∧ t.bypass = s.bypass ∧ t.mgmt = s.mgmt
    let matched (j : Joined) : Prop := s.consist.joined = some j ∧ h.epoch = j.epoch ∧ x.master = j.master
      ∧ h.tag = j.attempt ∧ p = forwardOf j.orientation ∧ j.position ≠ 0
      ∧ ∃ e, x.entries[j.position - 1]? = some e ∧ e.identity = s.identity ∧ e.orientation = j.orientation
    (s.consist.role = .master →
      (x.result ≠ .ok → x.master ≠ s.identity →
        ∃ t, exec (.confirmOut p h x) s = .next t ∧ blockedBy t ∧ t.relay = s.relay ∧ t.faults = s.faults)
      ∧ (x.result = .ok ∨ x.master = s.identity → exec (.confirmOut p h x) s = .next wrong))
    ∧ (s.consist.role = .member →
      (x.result ≠ .ok →
        ∃ t, exec (.confirmOut p h x) s = .next t ∧ blockedBy t
          ∧ t.relay = (sendFrame p.other f u).relay
          ∧ t.faults.slots.length = s.faults.slots.length
          ∧ (s.isUp p.other = false ∨ s.hasRoom p.other .control = true → t.faults = s.faults))
      ∧ (x.result = .ok → ∀ j,
        (¬matched j → s.consist.joined = some j → exec (.confirmOut p h x) s = .next wrong)
        ∧ (s.consist.joined = none → exec (.confirmOut p h x) s = .next wrong)
        ∧ (matched j →
          let rear := (forwardOf j.orientation).other
          let groups := u.setRelay { s.relay with
            groupsActive := s.relay.groupsActive &&& 0x00FF#16, groupsStaged := s.relay.groupsStaged &&& 0x00FF#16 }
          let sent := if s.isUp rear = true then sendFrame rear f groups
            else if j.position = x.entries.length then
              sendFrame p ⟨⟨true, ⟨.all, 0⟩, false, j.epoch, j.position, h.tag⟩, .confirmDone x.master⟩ groups
            else groups
          ∃ t, exec (.confirmOut p h x) s = .next t
            ∧ t.consist = { s.consist with
                state := .stable, blocked := .none, epoch := j.epoch, position := j.position
                orientation := j.orientation, table := x.entries, joined := none }
            ∧ t.count .t5 = none ∧ t.count .t9 = some (s.setting 9).period
            ∧ t.relay = sent.relay ∧ t.ports = u.ports ∧ t.door = s.door ∧ t.heat = s.heat ∧ t.lines = s.lines
            ∧ t.bypass = s.bypass ∧ t.mgmt = s.mgmt)))

/-- R60, R61: a CONFIRM DONE. A STABLE member under its epoch relays it unchanged from its rearward to its forward port;
a master in CONFIRMING takes the one of its attempt: it stops T4, installs the returned list with the proposed epoch,
position 1 and the recorded orientation, clears consist groups 8 to 15, enters STABLE and starts its periods. Every
other one is ROLL_MISMATCH, and nothing else. -/
def Obligations.ConfirmDoneTaken : Prop :=
  ∀ (p : Port) (h : Header) (i : Identity) (s : State), s.takesFrame p →
    (⟨inPhase true h, .confirmDone i⟩ : Frame).formOk = true →
    let u := s.afterFrame p
    let wrong := recordFault .rollMismatch (.port p) u
    (s.consist.role = .member →
      exec (.confirmDone p h i) s = .next
        (if s.consist.state = .stable ∧ s.consist.epoch = h.epoch ∧ p = s.rearwardPort then
          sendFrame s.forwardPort ⟨inPhase true h, .confirmDone i⟩ u
        else wrong))
    ∧ (s.consist.role = .master →
      (s.consist.attempt = none → exec (.confirmDone p h i) s = .next wrong)
      ∧ ∀ a, s.consist.attempt = some a →
        let mine : Prop := s.consist.state = .confirming ∧ p = (forwardOf a.orientation).other ∧ h.epoch = a.epoch
          ∧ h.tag = a.attempt ∧ i = s.identity
        (¬mine → exec (.confirmDone p h i) s = .next wrong)
        ∧ (mine →
          ∃ t, exec (.confirmDone p h i) s = .next t
            ∧ t.consist = { s.consist with
                state := .stable, epoch := a.epoch, position := 1, orientation := a.orientation, table := a.returned
                attempt := none }
            ∧ t.count .t4 = none ∧ t.count .t7 = some (s.setting 7).period ∧ t.count .t11 = some (s.setting 11).period
            ∧ t.relay.groupsActive = s.relay.groupsActive &&& 0x00FF#16
            ∧ t.relay.groupsStaged = s.relay.groupsStaged &&& 0x00FF#16
            ∧ t.relay.serviceActive = s.relay.serviceActive ∧ t.relay.generation = s.relay.generation
            ∧ t.door.outstanding = some ((s.door.walk + 1) % 256)
            ∧ t.heat.outstanding = some ((s.heat.walk + 1) % 256)
            ∧ (s.InterlockSafe → t.door.doorsClosed = false) ∧ t.door.sides = s.door.sides ∧ t.ports = u.ports
            ∧ t.lines = s.lines ∧ t.bypass = s.bypass ∧ t.mgmt = s.mgmt))

/-- R46: a trigger puts a master in SETTLING with T2 started, and stops the timer and clears the record of an attempt in
flight; consist table, epoch, position and orientation are kept. REINAUGURATE from the own tap is a trigger at a
master, and is refused DENIED at a member (R195). That it is taken before the ports are started too is the model's choice
(log 40). -/
def Obligations.TriggerRestartsSettling : Prop :=
  (∀ s : State, s.consist.role = .master →
    let x := s.consist.state
    (trigger s).consist = { s.consist with
      state := .settling
      attempt := if x = .calling ∨ x = .confirming then none else s.consist.attempt
      blocked := if x = .blocked then .none else s.consist.blocked }
    ∧ (trigger s).count .t2 = some (s.setting 2).period
    ∧ (x = .calling → (trigger s).count .t3 = none) ∧ (x = .confirming → (trigger s).count .t4 = none)
    ∧ (trigger s).relay = s.relay ∧ (trigger s).ports = s.ports ∧ (trigger s).faults = s.faults
    ∧ (trigger s).lines = s.lines ∧ (trigger s).door.sides = s.door.sides
    ∧ (x = .stable → (trigger s).door.doorsClosed = false ∧ (trigger s).door.outstanding = none
      ∧ (trigger s).count .t7 = none ∧ (trigger s).count .t8 = none
      ∧ (trigger s).count .t11 = none ∧ (trigger s).count .t12 = none))
  ∧ ∀ (v : Via) (q : Req) (s : State), s.judges v .reinaugurate q → accessOf v = .ownTap →
    let u := s.whenTaken v .reinaugurate q
    exec (.reinaugurate v q) s = .next
      (if s.consist.role = .master then (trigger u).replied v .reinaugurate q .ok []
      else u.replied v .reinaugurate q .denied [])

/-- R71: a TOPO that reaches a master is a trigger in every state and is delivered to its tap; a member relays it
unchanged out of its other port, and its own state and timers do not change. -/
def Obligations.TopoTaken : Prop :=
  ∀ (p : Port) (h : Header) (x : TopoBody) (s : State), s.takesFrame p → (⟨h, .topo x⟩ : Frame).formOk = true →
    let u := s.afterFrame p
    let f : Frame := ⟨h, .topo x⟩
    exec (.topo p h x) s = .next
      (if s.consist.role = .member then
        (if s.isUp p.other = false then u
        else if ((s.queues p.other).urgent).length < 4 then
          u.setQueues p.other { s.queues p.other with urgent := (s.queues p.other).urgent ++ [⟨f, none, false⟩] }
        else recordFault .queueFull (.port p.other) u)
      else if s.relay.tapQueue.length < 16 then (trigger u).setTapQueue (s.relay.tapQueue ++ [f])
      else recordFault .tapOverrun .tap (trigger u))

/-- R45, R47, R48, R62: the timers of an attempt. The settle time's end begins attempt 1 under the next epoch at a master
with one UP port, and completes a train of one at a master with none, which is STABLE at once with T7 and T11 running and
its first walks already taken; the call and confirm timeouts begin the next attempt under the same epoch, or after the
third end in BLOCKED with NO_RETURN. The BREAK, the queued ROLL CALL and T3 go with every attempt. T1 of the port that
begins the BREAK is in full where it was sending, or in a frame with bits since the latest step (R15), and else as it was;
that it stands by what the latest TIMEBASE_STEP said of the frame is the model's choice (log 4). No drain and no restart waits here. That the CALL's spare bits are 0 and that the record keeps the
own entry are the model's choice (log 36, log 20), and so is that the settle time's end is taken before the ports are
started too (log 40). -/
def Obligations.AttemptTimers : Prop :=
  ∀ s : State, s.bypass.node = .operating → s.consist.role = .master → s.relay.draining = false →
    s.mgmt.restart = .none →
    let called (p : Port) (epoch attempt : Nat) (t : State) : Prop :=
      let o : Orientation := if p = .e1 then .reversed else .normal
      let far : FarPort := match (s.port p.other).link with
        | .faulted => .faulted
        | .up | .down | .arriving => .down
      let own : Entry := ⟨s.identity, o, true, false, far, 0, s.consist.coachClass, false, s.consist.doors⟩
      let call : Frame :=
        ⟨⟨false, ⟨.all, 0⟩, false, epoch, 1, attempt⟩, .roll ⟨s.identity, false, false, [own]⟩⟩
      t.consist = { s.consist with state := .calling, attempt := some ⟨epoch, attempt, o, [], own⟩ }
        ∧ t.count .t3 = some (s.setting 3).period ∧ (t.port p).tx = .brk
        ∧ t.count (.t1 p) = (if (s.port p).tx.sending = true ∨ (s.port p).rx = .inFrame then some (s.setting 1).period
          else s.count (.t1 p))
        ∧ t.bypass = { s.bypass with holdoff := true }
        ∧ t.queues p = ⟨[], [⟨call, none, false⟩], []⟩ ∧ t.queues p.other = ⟨[], [], []⟩ ∧ t.faults = s.faults
        ∧ t.door.sides = s.door.sides ∧ t.lines = s.lines ∧ t.mgmt = s.mgmt
    let blockedOut (t : State) : Prop :=
      t.consist = { s.consist with
        state := .blocked, blocked := .noReturn, epoch := 0, position := 0, orientation := .normal, table := []
        joined := none, attempt := none }
      ∧ t.faults = s.faults.record .inaugurationFailed .node s.timers.timebase s.consist.epoch
      ∧ t.relay = s.relay ∧ t.ports = s.ports ∧ t.lines = s.lines ∧ (∀ k ∈ consistTimers, t.count k = none)
      ∧ (∀ d, (t.side d).state ≠ .released)
    (s.consist.state = .settling → s.count .t2 = some 0 →
      let epoch := if s.consist.epoch = 255 then 1 else s.consist.epoch + 1
      (∀ p : Port, s.isUp p = true → s.isUp p.other = false → s.consist.epoch ≤ 255 →
        ∃ t, exec .settleExpiry s = .next t ∧ t.count .t2 = none ∧ called p epoch 1 t)
      ∧ (s.isUp .e1 = false → s.isUp .e2 = false → s.consist.epoch ≤ 255 →
        let far : FarPort := match (s.port .e1).link with
          | .faulted => .faulted
          | .up | .down | .arriving => .down
        let own : Entry := ⟨s.identity, .normal, true, false, far, 0, s.consist.coachClass, false, s.consist.doors⟩
        ∃ t, exec .settleExpiry s = .next t ∧ t.count .t2 = none ∧ t.consist.state = .stable
          ∧ t.count .t7 = some (s.setting 7).period ∧ t.count .t11 = some (s.setting 11).period
          ∧ t.count .t8 = none ∧ t.count .t12 = none
          ∧ t.door.outstanding = none ∧ t.heat.outstanding = none ∧ t.consist.epoch = epoch
          ∧ t.consist.position = 1 ∧ t.consist.orientation = .normal ∧ t.consist.table = [own]
          ∧ t.consist.attempt = none ∧ t.consist.role = .master
          ∧ t.relay.groupsActive = s.relay.groupsActive &&& 0x00FF#16
          ∧ t.relay.groupsStaged = s.relay.groupsStaged &&& 0x00FF#16 ∧ t.relay.queues = s.relay.queues
          ∧ t.ports = s.ports ∧ t.lines = s.lines))
    ∧ ∀ a, s.consist.attempt = some a →
      (s.consist.state = .calling → s.count .t3 = some 0 →
        (∀ p : Port, s.isUp p = true → s.isUp p.other = false → a.attempt < 3 →
          ∃ t, exec .callTimeout s = .next t ∧ called p a.epoch (a.attempt + 1) t)
        ∧ (3 ≤ a.attempt → ∃ t, exec .callTimeout s = .next t ∧ blockedOut t))
      ∧ (s.consist.state = .confirming → s.count .t4 = some 0 →
        (∀ p : Port, s.isUp p = true → s.isUp p.other = false → a.attempt < 3 →
          ∃ t, exec .confirmTimeout s = .next t ∧ t.count .t4 = none ∧ called p a.epoch (a.attempt + 1) t)
        ∧ (3 ≤ a.attempt → ∃ t, exec .confirmTimeout s = .next t ∧ blockedOut t))

/-- R66 to R69: the timers of a member. The end of T5 in INAUGURATING and of T6 in SUSPECT makes it UNINAUGURATED, with
the consist cleared and no side left RELEASED; the end of T9 in STABLE makes it SUSPECT with T6 started and the consist
kept. Nothing is sent. -/
def Obligations.MemberTimers : Prop :=
  ∀ s : State, s.bypass.node = .operating → s.consist.role = .member →
    let outside (t : State) : Prop :=
      t.consist = { s.consist with
        state := .uninaugurated, blocked := .none, epoch := 0, position := 0, orientation := .normal, table := []
        joined := none, attempt := none }
      ∧ (∀ k ∈ consistTimers, t.count k = none)
      ∧ (∀ d, (t.side d).state = (if (s.side d).state = .released then
          (if (s.side d).proof = .proved then .closed else .closing) else (s.side d).state))
      ∧ t.heat.walkRecord = none ∧ t.heat.fallback = true ∧ t.heat.applied ≤ s.heat.applied
      ∧ t.relay = s.relay ∧ t.ports = s.ports ∧ t.faults = s.faults ∧ t.lines = s.lines ∧ t.mgmt = s.mgmt
    (s.consist.state = .inaugurating → s.count .t5 = some 0 →
      ∃ t, exec .pendingTimeout s = .next t ∧ outside t)
    ∧ (s.consist.state = .suspect → s.count .t6 = some 0 → ∃ t, exec .suspectTimeout s = .next t ∧ outside t)
    ∧ (s.consist.state = .stable → s.count .t9 = some 0 →
      exec .masterSilenceTimeout s = .next
        (((s.setConsist { s.consist with state := .suspect }).setCount .t9 none).setCount .t6
          (some (s.setting 6).period)))

/-- R41, R44, R63, R69: a node is MASTER only with its cab asserted and at most one UP port, each role has its own
consist states, a node in UNINAUGURATED or BLOCKED has no epoch, no position, orientation NORMAL and no table, and the
timers of a master run only at a master, those of a member only at a member. Every command keeps it so. That no line is
asserted before the first sample is needed with the first (log 6, log 7). -/
def Obligations.ConsistStaysLegal : Prop :=
  ∀ (c : Instr) (s t : State), exec c s = .next t →
    (s.RoleSafe ∧ s.SampleSafe → t.RoleSafe ∧ t.SampleSafe) ∧ (s.StateOfRole → t.StateOfRole)
      ∧ (s.OutsideSafe → t.OutsideSafe) ∧ (s.StateOfRole → s.WalkTimersSafe → s.TimersSafe → t.TimersSafe)

/-! ### Heating (R152 to R171) -/

/-- R155 to R157, R165, R168 to R171: a change of the applied stage between 0 and above 0 is judged against the
feedback line: a mismatch that begins starts T14, one that goes on lets it run, and its end, or no feedback line, or
LOCKED_OUT, stops it. T11 starts a walk at a STABLE master or marks the start pending; T12 ends the walk without a
result and changes no stage; T13 puts the node in fallback at the lowest of the three stages; T14 locks the heating
out at stage 0 and records HEAT_FEEDBACK against its line. -/
def Obligations.HeatTimersEnd : Prop :=
  (∀ (stage : Nat) (s : State),
    let compared : Prop := s.present .heatFeedback = true ∧ s.heat.lockedOut = false
    let t := setApplied stage s
    t = ((s.setHeat { s.heat with applied := stage }).setCount .t14 (t.count .t14))
    ∧ ((s.heat.applied = 0 ↔ stage = 0) → t.count .t14 = s.count .t14)
    ∧ (¬(s.heat.applied = 0 ↔ stage = 0) →
      (compared → (s.asserted .heatFeedback = true ↔ stage = 0) →
        t.count .t14 = (if s.count .t14 = none then some (s.setting 14).period else s.count .t14))
      ∧ (¬(compared ∧ (s.asserted .heatFeedback = true ↔ stage = 0)) → t.count .t14 = none)))
  ∧ (∀ s : State, s.bypass.node = .operating →
    (s.consist.role = .master → s.consist.state = .stable → s.count .t11 = some 0 →
      let u := s.setCount .t11 (some (s.setting 11).period)
      exec .heatPeriodExpiry s = .next
        (if s.heat.outstanding = none then startHeatWalk u else u.setHeat { s.heat with startPending := true }))
    ∧ (s.consist.role = .master → s.consist.state = .stable → s.count .t12 = some 0 → s.heat.outstanding ≠ none →
      let v := recordFault .heatLost .node
        ((s.setCount .t12 none).setHeat { s.heat with outstanding := none, startPending := false })
      exec .heatReturnTimeout s = .next (if s.heat.startPending = true then startHeatWalk v else v))
    ∧ (s.count .t13 = some 0 → s.heat.fallback = false →
      exec .heatSupervisionTimeout s = .next
        (setApplied (min s.heat.applied (min s.heat.fallbackStage s.effectiveDemand))
          ((s.setCount .t13 none).setHeat { s.heat with fallback := true })))
    ∧ (∀ n, s.count .t14 = some 0 → s.lineCarrying .heatFeedback = some n →
      exec .feedbackMismatchTimeout s = .next (recordFault .heatFeedback (.line n)
        ((s.setCount .t14 none).setHeat { s.heat with lockedOut := true, applied := 0 }))))

/-- R159 to R161: a HEAT OUT. A STABLE or SUSPECT member takes the one under its epoch on its forward port with its
outbound step, `g` being the highest stage up to d_eff that fits the share, and sends it on rearward; the end node makes
its return step at once with the record it has just stored and sends it forward. Every other one is dropped without a
fault. -/
def Obligations.HeatOutTaken : Prop :=
  ∀ (p : Port) (h : Header) (x : HeatBody) (g : Nat) (s : State), s.takesFrame p →
    (⟨inPhase false h, .heat x⟩ : Frame).formOk = true →
    let u := s.afterFrame p
    let d := s.effectiveDemand
    let share := x.budget / x.remaining
    let taken : Prop := s.consist.role = .member ∧ (s.consist.state = .stable ∨ s.consist.state = .suspect)
      ∧ h.epoch = s.consist.epoch ∧ h.epoch ≠ 0 ∧ p = s.forwardPort
    let wants : Prop := s.profileAt g < s.profileAt d
    let locked := s.heat.lockedOut
    let fits : Prop := if x.remaining = 0 then g = 0
      else g ≤ d ∧ s.profileAt g ≤ share ∧ ∀ k ≤ d, g < k → share < s.profileAt k
    let y : HeatBody :=
      { budget := if x.remaining = 0 then x.budget else x.budget - s.profileAt g
        remaining := if x.remaining = 0 then 0 else x.remaining - 1
        wanting := if wants then min 32 (x.wanting + 1) else x.wanting
        requested := min 65535 (x.requested + s.profileAt d)
        locked := if locked = true then min 32 (x.locked + 1) else x.locked }
    let r : WalkRecord := ⟨h.tag, d, g, decide wants⟩
    let counted := if x.remaining = 0 then recordFault .heatCount .node u else u
    let lowered := setApplied (min s.heat.applied g) counted
    let v := (lowered.setHeat { lowered.heat with walkRecord := some r, fallback := false }).setCount .t13
      (some (s.setting 13).period)
    (¬taken → exec (.heatOut p h x) s = .next u)
    ∧ (taken → fits → exec (.heatOut p h x) s = .next
      (if s.isUp s.rearwardPort = true then sendFrame s.rearwardPort ⟨inPhase false h, .heat y⟩ v
      else sendFrame s.forwardPort ⟨inPhase true h, .heat (v.returnBody r y)⟩ (returnStep r y v)))

/-- R162 to R164: a HEAT BACK. A STABLE or SUSPECT member passes the one from its rearward port forward, with its return
step if it holds the record of that walk and unchanged if not; a STABLE master takes the one of its outstanding walk
with its own return step and delivers it, and a pending start begins the next walk. `g` is the final grant: the first grant, or for a wanting node the highest
stage up to the walk demand that the first grant and the new share afford. Every other one is dropped without a
fault. -/
def Obligations.HeatBackTaken : Prop :=
  ∀ (p : Port) (h : Header) (x : HeatBody) (g : Nat) (s : State), s.takesFrame p →
    (⟨inPhase true h, .heat x⟩ : Frame).formOk = true →
    let u := s.afterFrame p
    let passed : Prop := s.consist.role = .member ∧ (s.consist.state = .stable ∨ s.consist.state = .suspect)
      ∧ h.epoch = s.consist.epoch ∧ h.epoch ≠ 0 ∧ p = s.rearwardPort
    let returned : Prop := s.consist.role = .master ∧ s.consist.state = .stable ∧ s.heat.outstanding = some h.tag
      ∧ h.epoch = s.consist.epoch ∧ p = s.rearwardPort
    let granted (r : WalkRecord) : Prop :=
      let top := s.profileAt r.grant + x.budget / x.wanting
      if r.wanting = true ∧ x.wanting ≠ 0 then
        (r.grant ≤ g ∧ g ≤ r.demand ∧ s.profileAt g ≤ top ∧ ∀ k ≤ r.demand, g < k → top < s.profileAt k)
      else g = r.grant
    let y (r : WalkRecord) : HeatBody :=
      if r.wanting = true ∧ x.wanting ≠ 0 then
        { x with budget := x.budget - (s.profileAt g - s.profileAt r.grant), wanting := x.wanting - 1 }
      else x
    let stepped (r : WalkRecord) (t : State) : State :=
      let counted := if r.wanting = true ∧ x.wanting = 0 then recordFault .heatCount .node t else t
      let capped := if s.heat.fallback = true then min (min g s.effectiveDemand) s.heat.fallbackStage
        else min g s.effectiveDemand
      let set := setApplied capped counted
      set.setHeat { set.heat with walkRecord := none }
    (¬passed → ¬returned → exec (.heatBack p h x) s = .next u)
    ∧ (passed →
      (∀ r, s.heat.walkRecord = some r → r.walk = h.tag → granted r →
        exec (.heatBack p h x) s = .next (sendFrame s.forwardPort ⟨inPhase true h, .heat (y r)⟩ (stepped r u)))
      ∧ ((∀ r, s.heat.walkRecord = some r → r.walk ≠ h.tag) →
        exec (.heatBack p h x) s = .next (sendFrame s.forwardPort ⟨inPhase true h, .heat x⟩ u)))
    ∧ (returned →
      let v := (u.setHeat { s.heat with outstanding := none }).setCount .t12 none
      let ended (w : State) : State :=
        if s.heat.startPending = true then startHeatWalk (w.setHeat { w.heat with startPending := false }) else w
      (∀ r, s.heat.walkRecord = some r → r.walk = h.tag → granted r →
        exec (.heatBack p h x) s = .next (ended (deliver ⟨inPhase true h, .heat (y r)⟩ (stepped r v))))
      ∧ ((∀ r, s.heat.walkRecord = some r → r.walk ≠ h.tag) →
        exec (.heatBack p h x) s = .next (ended (deliver ⟨inPhase true h, .heat x⟩ v))))

/-- R152, R160, R163: with a legal profile a pass of a heat walk keeps the budget: what a node receives is what it sends on
and what it was granted in that pass, so what it sends never exceeds what it received. -/
def Obligations.HeatWalkKeepsBudget : Prop :=
  ∀ (x : HeatBody) (r : WalkRecord) (s : State), s.heat.ProfileSafe →
    let g := s.firstGrant x.budget x.remaining
    (x.remaining ≠ 0 → (s.outboundBody x).budget + s.profileAt g = x.budget ∧ g ≤ s.effectiveDemand)
    ∧ (x.remaining = 0 → (s.outboundBody x).budget = x.budget ∧ g = 0)
    ∧ (r.grant ≤ r.demand → r.demand ≤ 7 →
      let g2 := s.finalGrant r x
      (s.returnBody r x).budget + (s.profileAt g2 - s.profileAt r.grant) = x.budget
        ∧ s.profileAt r.grant ≤ s.profileAt g2 ∧ r.grant ≤ g2 ∧ g2 ≤ r.demand)

/-- R156: a rise of the applied stage comes from a return step alone: a HEAT BACK at a node with the record of its walk,
a HEAT OUT that the end node turns, or the walk that a train of one makes of itself in the same command, by which the
heat walk number is raised. -/
def Obligations.StageRaisedOnlyByReturnStep : Prop :=
  ∀ (c : Instr) (s t : State), exec c s = .next t → s.heat.applied < t.heat.applied →
    (∃ p h x, c = .heatBack p h x ∧ (s.recordOf h.tag).isSome = true)
    ∨ (∃ p h x, c = .heatOut p h x ∧ s.isUp s.rearwardPort = false)
    ∨ (t.upPorts = [] ∧ t.consist.role = .master ∧ t.consist.state = .stable
      ∧ t.heat.walk = (s.heat.walk + 1) % 256)

/-! ### Management requests (R183 to R198, and the objects) -/

/-- R82, R99, R183 to R186, R192: every request command. From the own tap it is refused QUEUE_FULL at an occupancy of 12
or more; that the occupancy is judged before a head frame leaves in the same exchange is the model's choice (log 10). From
the train it is routed, recorded as MISROUTE, passed by when out of scope, or recorded as DENIED when it
is not of the TRAIN class. One that reaches the management unit is answered DENIED outside OPERATING and BUSY while a
restart is pending, unless it is a READ, and DENIED where its class may not ask it. -/
def Obligations.RequestsJudged : Prop :=
  ∀ (i : Instr) (v : Via) (c : ReqCode) (q : Req) (s : State), i.wf = true → requestOf i = some (v, c, q) →
    (s.reaches v c q →
      let u := s.whenTaken v c q
      (s.bypass.node ≠ .operating → c ≠ .read → exec i s = .next (u.replied v c q .denied []))
      ∧ (s.bypass.node = .operating → s.mgmt.restart ≠ .none → c ≠ .read →
        exec i s = .next (u.replied v c q .busy []))
      ∧ (s.bypass.node = .operating → s.mgmt.restart = .none →
        accessOf v = .ownTap ∧ c = .commit
          ∨ accessOf v = .train ∧ (c = .reinaugurate ∨ c = .withdraw ∨ c = .clearLockout) →
        exec i s = .next (u.replied v c q .denied [])))
    ∧ (∀ done tag, v = .tap done tag → s.tapServes → 12 ≤ s.relay.tapQueue.length →
      exec i s = .next (setIntake (.refused .queueFull) (nodePart done s)))
    ∧ (∀ p h, v = .train p h → s.takesFrame p →
      let f : Frame := ⟨h, .mgmtReq c q⟩
      let u := s.afterFrame p
      let away : Prop := h.sel.type = .position ∧ s.consist.position ≠ 0 ∧ h.sel.value ≠ s.consist.position
        ∧ s.portToward h.sel.value = p
      let here : Prop := h.sel.type = .position ∧ s.consist.position ≠ 0 ∧ h.sel.value = s.consist.position
      let scope : Prop := here ∨ h.sel.type = .all
        ∨ h.sel.type = .group ∧ s.relay.groupsActive.getLsbD h.sel.value = true
      let train : Prop := h.origin = 1 ∧ h.epoch = s.consist.epoch ∧ h.epoch ≠ 0
        ∧ (s.consist.state = .stable ∨ s.consist.state = .suspect) ∧ s.consist.position ≠ 1
      let routed := if here then u else sendFrame p.other f u
      (away → exec i s = .next (recordFault .misroute (.port p) u))
      ∧ (¬away → ¬scope → exec i s = .next routed)
      ∧ (¬away → scope → ¬train → exec i s = .next (recordFault .denied (.port p) routed)))

/-- R186, R188: every WRITE that its class may ask for, judged step by step: DENIED without the write right or for the
active bank, INVALID for a count or data that do not fit, ABSENT for indices out of range; refused, it changes nothing. A
WRITE of an object that no class may write is always DENIED. A WRITE of an object whose WRITE has a row of its own does
what that row does, for the supply limit (R154) written out. -/
def Obligations.WritesJudged : Prop :=
  (∀ (i : Instr) (v : Via) (q : Req) (o : Object) (s : State), i.wf = true → requestOf i = some (v, .write, q) →
    s.judges v .write q → objectOf q.object = some o →
    let u := s.whenTaken v .write q
    let answers (st : Status) : Prop := exec i s = .next (u.replied v .write q st [])
    if o.writer ≠ some (accessOf v) then answers .denied
    else if (o = .service ∨ o = .groups) ∧ q.object.getLsbD 7 = false then answers .denied
    else if q.count = 0 ∨ q.data.length ≠ q.count * o.size ∨ o = .heatProfile ∧ (q.index ≠ 0 ∨ q.count ≠ 8) then
      answers .invalid
    else if q.index < (s.indexRange o).1 ∨ (s.indexRange o).2 < q.index + q.count then answers .absent
    else True)
  ∧ (∀ (v : Via) (q : Req) (s : State), exec (.write v q) s = exec (writeCommand v q) s)
  ∧ ∀ (v : Via) (q : Req) (w : Nat) (s : State), s.judges v .write q → s.admits v .supplyLimit q → words q.data = [w] →
    let u := s.whenTaken v .write q
    exec (.write v q) s = .next ((u.setHeat { s.heat with supplyLimit := min 4095 w }).replied v .write q
      (if 4095 < w then .okClamped else .ok) [])

/-- R36, R40, R112, R115, R187, R203: a READ from either way, in any node state but STARTING. It is refused by the
first check that fails; otherwise the elements are answered as they stand, and nothing changes but the answer, except
that a READ of the line report collects it and a READ of faults clears the unread flag of each record it returns.
Every element is spelled byte by byte in the layout of R40. That the bits the layouts leave without a name read as 0
is the model's choice (log 37). -/
def Obligations.ReadsAnswered : Prop :=
  (∀ (i : Instr) (v : Via) (q : Req) (o : Object) (s : State), i.wf = true → requestOf i = some (v, .read, q) →
    s.reaches v .read q → objectOf q.object = some o →
    let u := s.whenTaken v .read q
    let answers (st : Status) : Prop := exec i s = .next (u.replied v .read q st [])
    let taken (k : Nat) (x : Option FaultRecord) : Option FaultRecord :=
      if q.index ≤ k ∧ k < q.index + q.count then x.map (fun r => { r with unread := false }) else x
    let collected (l : LineRecord) : LineRecord :=
      let holds : Prop := l.entry.arming = .assertion ∧ l.qualified = true
        ∨ l.entry.arming = .release ∧ l.qualified = false
      { l with
        reported := false, recorded := false
        condition := if l.reported = true then (if holds then .held else .ready) else l.condition }
    let read : State :=
      match o with
      | .lineReport => u.setLines { u.lines with line := u.lines.line.map collected }
      | .faults => u.setFaults { u.faults with slots := u.faults.slots.mapIdx taken }
      | _ => u
    if o = .lineReport ∧ accessOf v = .train then answers .denied
    else if q.count = 0 ∨ 236 < q.count * o.size then answers .invalid
    else if q.index < (s.indexRange o).1 ∨ (s.indexRange o).2 < q.index + q.count then answers .absent
    else exec i s = .next (read.replied v .read q .ok
      ((List.range q.count).flatMap fun k => u.element (q.object.getLsbD 7) o (q.index + k))))
  ∧ (∀ (staged : Bool) (i : Nat) (s : State),
    let num (b : Bool) : Nat := if b = true then 1 else 0
    let one (n : Nat) : Byte := BitVec.ofNat 8 n
    let two (n : Nat) : List Byte := [one (n / 256), one (n % 256)]
    let four (w : BitVec 32) : List Byte :=
      [w.extractLsb' 24 8, w.extractLsb' 16 8, w.extractLsb' 8 8, w.extractLsb' 0 8]
    let side (d : Side) : Byte := one (
      [DoorState.closed, .released, .closing, .stuck].idxOf (s.side d).state
        + 4 * [Proof.proved, .notProved, .absent].idxOf (s.side d).proof
        + 16 * num (s.asserted (.doorInhibit d) || (s.side d).localInhibit))
    let link (p : Port) : Byte := one ([LinkState.down, .arriving, .up, .faulted].idxOf (s.port p).link)
    let source (x : FaultSource) : Nat := match x with
      | .port .e1 => 1
      | .port .e2 => 2
      | .tap => 3
      | .side .a => 4
      | .side .b => 5
      | .node => 6
      | .line n => 16 + n
    let kinds : List FaultKind := [.portFaulted, .portLost, .badKind, .queueFull, .tapOverrun, .staleEpoch, .misroute,
      .oversize, .rollMismatch, .cabMid, .inaugurationFailed, .summaryLost, .heatLost, .heatCount, .heatFeedback,
      .doorStuck, .doorAlertRaised, .drainDiscard, .denied]
    let functions : List LineFunction := [.none, .cabActive, .zeroSpeed, .doorProof .a, .doorProof .b, .doorInhibit .a,
      .doorInhibit .b, .heatFeedback, .heatDemand0, .heatDemand1, .heatDemand2, .generalIn, .none, .none, .none, .none,
      .doorRelease .a, .doorRelease .b, .doorClose .a, .doorClose .b, .trainDoorsClosed, .heatStage0, .heatStage1,
      .heatStage2, .generalOut]
    s.element staged .identity i = four s.identity
    ∧ s.element staged .status i =
      [one ([Role.member, .master].idxOf s.consist.role),
        one (16 * [NodeState.starting, .operating, .withdrawing, .withdrawn].idxOf s.bypass.node
          + [WithdrawCause.none, .requested, .startCheck].idxOf s.bypass.cause),
        one ([ConsistState.uninaugurated, .inaugurating, .stable, .suspect, .blocked, .settling, .calling,
          .confirming].idxOf s.consist.state),
        one ([BlockedReason.none, .overlong, .conflict, .duplicate, .noReturn].idxOf s.consist.blocked),
        one s.consist.epoch, one s.consist.position, one ([Orientation.normal, .reversed].idxOf s.consist.orientation),
        link .e1, one (s.port .e1).score, link .e2, one (s.port .e2).score, one s.relay.generation, side .a, side .b,
        one (s.heat.applied + 64 * num s.heat.fallback + 128 * num s.heat.lockedOut)]
    ∧ (∀ e, s.consist.table[i]? = some e → s.element staged .consist (i + 1) = four e.identity
      ++ [one (128 * [Orientation.normal, .reversed].idxOf e.orientation + 64 * num e.cabActive + 32 * num e.cabMid
          + 8 * [FarPort.down, .up, .faulted].idxOf e.farPort + e.spareLow.toNat),
        one (16 * e.coachClass + 8 * num e.spareBit + e.doors)])
    ∧ (∀ e, (if staged = true then s.relay.serviceStaged else s.relay.serviceActive)[i]? = some e →
      s.element staged .service i =
        [one (128 * num (e.forward == .stop) + 32 * [TapDelivery.never, .addressed, .copy].idxOf e.delivery
          + 16 * num e.control + 8 * num e.originate), one e.maxPayload])
    ∧ s.element staged .groups i
        = [one (num ((if staged = true then s.relay.groupsStaged else s.relay.groupsActive).getLsbD i))]
    ∧ (∀ l, s.lines.line[i]? = some l →
      s.element staged .lines i = [one (functions.idxOf l.entry.function),
        one (128 * num (l.entry.polarity == .activeLow)
          + [Arming.off, .assertion, .release, .both].idxOf l.entry.arming), one l.entry.debounce]
      ∧ s.element staged .lineLevels i = [one (2 * num (if l.entry.function.isOutput = true then
          s.operating && s.ownerLevel l.generalOut l.entry.function else l.qualified) + num l.raw)]
      ∧ s.element staged .generalOut i = [one (num l.generalOut)])
    ∧ (s.lines.line.length = 16 → s.element staged .lineReport i =
      two ((List.range 16).map fun n => num (s.lineAt n).reported * 2 ^ n).sum
        ++ two ((List.range 16).map fun n => num ((s.lineAt n).reported && (s.lineAt n).recorded) * 2 ^ n).sum)
    ∧ s.element staged .doorInhibit i = [one (num (s.side (if i = 0 then .a else .b)).localInhibit)]
    ∧ s.element staged .coachDescriptor i = [one (16 * s.consist.coachClass + s.consist.doors)]
    ∧ (∀ x, s.heat.profile[i]? = some x → s.element staged .heatProfile i = two x)
    ∧ s.element staged .heatSettings i = [one (if i = 0 then s.heat.doorCap else s.heat.fallbackStage)]
    ∧ s.element staged .heatDemand i = [one s.heat.writtenDemand]
    ∧ s.element staged .supplyLimit i = two s.heat.supplyLimit
    ∧ (∀ x, s.timers.settings[i]? = some x →
      s.element staged .timers i = two (32768 * num (x.scale == .coarse) + x.value))
    ∧ (s.faults.slots[i]? = some none →
      s.element staged .faults i = List.replicate 12 0 ++ [one (num s.faults.overflow)])
    ∧ ∀ r, s.faults.slots[i]? = some (some r) → s.element staged .faults i =
      [one (kinds.idxOf r.kind + 1), one (source r.source), one r.count] ++ four r.first ++ four r.last
        ++ [one r.epoch, one (128 + 64 * num r.unread + num s.faults.overflow)])

/-- R40, R75 to R77, R86 to R88, R189, R190: a TRAIN write of a staged bank stores the elements there, read by the
layout of R40, and changes no active bank; an element that is not acceptable refuses the whole write. A TRAIN COMMIT,
refused for another index, or BUSY while a drain is pending, does nothing; otherwise both banks are copied and the
generation raised. Without drain it is answered OK; with drain it is answered OK and 0 where no older frame is queued,
and waits with T15 started where one is. -/
def Obligations.BanksWrittenAndCommitted : Prop :=
  ((∀ (v : Via) (q : Req) (s : State), s.judges v .write q → s.admits v .service q →
    let u := s.whenTaken v .write q
    let entry (x : Byte × Byte) : Option ServiceEntry :=
      if x.1.toNat / 32 % 4 = 3 ∨ 240 < x.2.toNat then none
      else some ⟨if x.1.getLsbD 7 = true then .stop else .pass,
        [TapDelivery.never, .addressed, .copy].getD (x.1.toNat / 32 % 4) .never, x.1.getLsbD 4, x.1.getLsbD 3, x.2.toNat⟩
    (∀ l, (pairs q.data).mapM entry = some l →
      exec (.writeService v q) s = .next ((u.setRelay { u.relay with
        serviceStaged := u.relay.serviceStaged.take q.index ++ l
          ++ u.relay.serviceStaged.drop (q.index + l.length) }).replied v .write q .ok []))
    ∧ ((pairs q.data).mapM entry = none →
      exec (.writeService v q) s = .next (u.replied v .write q .invalid [])))
  ∧ ∀ (v : Via) (q : Req) (s : State), s.judges v .write q → s.admits v .groups q →
    let u := s.whenTaken v .write q
    ((∀ b ∈ q.data, b = 0 ∨ b = 1) →
      ∃ t, exec (.writeGroups v q) s = .next t
        ∧ (∀ g : Fin 16, t.relay.groupsStaged.getLsbD g.val = (if q.index ≤ g.val ∧ g.val < q.index + q.data.length then
          decide (q.data.getD (g.val - q.index) 0 = 1) else s.relay.groupsStaged.getLsbD g.val))
        ∧ t = (u.setRelay { u.relay with groupsStaged := t.relay.groupsStaged }).replied v .write q .ok [])
    ∧ ((∃ b ∈ q.data, b ≠ 0 ∧ b ≠ 1) →
      exec (.writeGroups v q) s = .next (u.replied v .write q .invalid [])))
  ∧ (∀ (i : Instr) (p : Port) (h : Header) (q : Req) (s : State), i.wf = true →
    requestOf i = some (.train p h, .commit, q) → s.judges (.train p h) .commit q →
    let v := Via.train p h
    let u := s.whenTaken v .commit q
    let g := (s.relay.generation + 1) % 256
    let done := u.setRelay { u.relay with
      serviceActive := s.relay.serviceStaged, groupsActive := s.relay.groupsStaged, generation := g }
    let older : Prop := ∃ x ∈ (u.queues .e1).frames ++ (u.queues .e2).frames, ∃ k, x.gen = some k ∧ k ≠ g
    if 1 < q.index then exec i s = .next (u.replied v .commit q .invalid [])
    else if s.relay.draining = true then exec i s = .next (u.replied v .commit q .busy [])
    else if q.index = 0 then exec i s = .next (done.replied v .commit q .ok [])
    else if ¬older then exec i s = .next (done.replied v .commit q .ok [0])
    else exec i s = .next
      (((done.setRelay { done.relay with draining := true }).setCount .t15 (some (s.setting 15).period)).setMgmt
        { s.mgmt with commit := some ⟨h.tag, 1⟩ }))

/-- R16, R85, R88 to R91, R191: the drain timeout. Every older frame leaves both ports' queues but one that is being
sent, the others keep their order, DRAIN_DISCARD is recorded once, and the COMMIT is answered with the number of
frames discarded. A drain also ends when a removal leaves no older frame, by a frame sent or by a port that leaves UP,
and by a flush: T15 stops and the COMMIT is answered OK with 0. Without an own position no response is sent. No
restart waits there. That the response goes out of the forward port even at position 1 (log 17), that PORT_LOST or
PORT_FAULTED is recorded before the response is placed (log 13), and that a port which enters DOWN cuts off a PROBE or
BREAK it drives too (log 41) is the model's choice. -/
def Obligations.DrainEnds : Prop :=
  (∀ (r : CommitRef) (s : State), s.bypass.node = .operating → s.count .t15 = some 0 → s.relay.draining = true →
    s.mgmt.commit = some r →
    let old (x : Queued) : Bool := match x.gen with
      | some k => k != s.relay.generation
      | none => false
    let kept (p : Port) (l : Level) : List Queued :=
      let q := (s.queues p).get l
      match (s.port p).tx with
      | .frame l' x .queued | .frame l' x .doomed =>
        if l' = l ∧ old x = true then q.take 1 ++ (q.drop 1).filter (fun y => !old y) else q.filter (fun y => !old y)
      | _ => q.filter (fun y => !old y)
    let after (p : Port) : Queues := ⟨kept p .urgent, kept p .control, kept p .bulk⟩
    let gone := (s.queues .e1).frames.length + (s.queues .e2).frames.length
      - ((after .e1).frames.length + (after .e2).frames.length)
    let doomed (x : PortState) : PortState := { x with tx := match x.tx with
      | .frame l q .queued => if old q = true then .frame l q .doomed else x.tx
      | t => t }
    let u : State := recordFault .drainDiscard .node { s with
      relay := { s.relay with queues := ⟨after .e1, after .e2⟩, draining := false }
      ports := ⟨doomed s.ports.e1, doomed s.ports.e2⟩
      mgmt := { s.mgmt with commit := none }
      timers := { s.timers with counts := { s.timers.counts with t15 := none } } }
    exec .drainTimeout s = .next
      (if s.consist.position = 0 then u
      else sendFrame (forwardOf s.consist.orientation)
        ⟨⟨false, ⟨.position, r.position⟩, false, s.consist.epoch, s.consist.position, r.request⟩,
          .mgmtRsp ⟨.ok, .commit, 0, 1, [BitVec.ofNat 8 gone]⟩⟩ u))
  ∧ (∀ (r : CommitRef) (s : State), s.relay.draining = true → s.mgmt.commit = some r → s.mgmt.restart = .none →
    let answer (t : State) : State := if s.consist.position = 0 then t else sendFrame (forwardOf s.consist.orientation)
      ⟨⟨false, ⟨.position, r.position⟩, false, s.consist.epoch, s.consist.position, r.request⟩,
        .mgmtRsp ⟨.ok, .commit, 0, 1, [0]⟩⟩ t
    let ended (t : State) : State :=
      ((t.setRelay { t.relay with draining := false }).setCount .t15 none).setMgmt { s.mgmt with commit := none }
    (∀ (p : Port) (l : Level) (x : Queued), s.portsRun = true → (s.port p).tx = .frame l x .queued →
      let u := ((s.setQueues p ((s.queues p).set l (((s.queues p).get l).drop 1))).setPort p
        { s.port p with tx := .idle }).setCount (.t1 p) (some (s.setting 1).period)
      let clean : Prop := ∀ y ∈ (u.queues .e1).frames ++ (u.queues .e2).frames, ∀ k, y.gen = some k →
        k = s.relay.generation
      exec (.frameSent p) s = .next (if clean then answer (ended u) else u))
    ∧ (∀ p : Port, s.portsRun = true → (s.port p).link = .up →
      let clean : Prop := ∀ y ∈ (s.queues p.other).frames, ∀ k, y.gen = some k → k = s.relay.generation
      let emptied (t : State) : State :=
        let v := t.setQueues p ⟨[], [], []⟩
        if clean then answer (ended v) else v
      (s.count (.t1 p) = some 0 → exec (.linkSilenceTimeout p) s = .next
        (portReport .portDown p (emptied (((recordFault .portLost (.port p) s).setPort p
          ⟨.down, 0, 0, .betweenFrames, [], .idle, (s.port p).probeDue⟩).setCount (.t1 p) none))))
      ∧ ((s.port p).tx.sending = false → (s.port p).rx = .betweenFrames → 96 ≤ (s.port p).score + 8 →
        exec (.invalidItem p .invalidWidth) s = .next
          (portReport .portFaulted p (emptied ((recordFault .portFaulted (.port p) s).setPort p { s.port p with
            link := .faulted, score := min 255 ((s.port p).score + 8), rx := .discarding, assembly := [] })))))
    ∧ (let still (x : PortState) : PortState := { x with tx := match x.tx with
        | .frame l q _ => .frame l q .flushed
        | t => t }
      flush s = answer (ended { s with
        relay := { s.relay with queues := ⟨⟨[], [], []⟩, ⟨[], [], []⟩⟩ }
        ports := ⟨still s.ports.e1, still s.ports.e2⟩ })))

/-! ### Lines (R103 to R119) -/

/-- R106, R113, R114: a pending change that has held for its debounce time gives the qualified edge: the level turns, and
the change report takes it by the line's condition and arming. What the owner then does is the owner's rule; the other
lines are unchanged. A line without a change that is due takes no edge: the model's reading of the command (log 28). That
an edge of CAB_ACTIVE is taken from OPERATING on, before the ports are started, is the model's choice (log 40). -/
def Obligations.EdgeQualified : Prop :=
  ∀ (n : Fin 16) (s : State),
    let l := s.lineAt n.val
    let due : Prop := s.bypass.node = .operating
      ∧ ∃ b, l.change = .since b ∧ l.entry.debounce ≤ (s.timers.timebase - b).toNat
    let level := !l.qualified
    let armed : Prop := l.entry.function ≠ .none ∧ (l.entry.arming = .both
      ∨ l.entry.arming = .assertion ∧ level = true ∨ l.entry.arming = .release ∧ level = false)
    let turned : LineRecord := { l with qualified := level, change := .none }
    let after : LineRecord :=
      if l.condition = .ready ∧ armed then { turned with reported := true, recorded := level, condition := .latched }
      else if l.condition = .held ∧ ¬armed then { turned with condition := .ready }
      else turned
    let u := s.setLines { s.lines with line := s.lines.line.set n.val after }
    (¬due → exec (.qualifiedEdge n) s = .next s)
    ∧ (due →
      (∀ d, l.entry.function = .doorProof d →
        exec (.qualifiedEdge n) s = .next (proofNotice d (if level = true then .proved else .notProved) u))
      ∧ (∀ d, l.entry.function = .doorInhibit d →
        exec (.qualifiedEdge n) s = .next
          (if level = true ∧ (s.side d).state = .released then applyClose d u else u))
      ∧ (l.entry.function = .heatFeedback → exec (.qualifiedEdge n) s = .next (judgeFeedback u))
      ∧ (l.entry.function = .heatDemand0 ∨ l.entry.function = .heatDemand1 ∨ l.entry.function = .heatDemand2 →
        exec (.qualifiedEdge n) s = .next
          (if u.effectiveDemand < s.heat.applied then setApplied u.effectiveDemand u else u))
      ∧ (l.entry.function = .none ∨ l.entry.function = .zeroSpeed ∨ l.entry.function = .generalIn
          ∨ l.entry.function.isOutput = true →
        exec (.qualifiedEdge n) s = .next u)
      ∧ (l.entry.function = .cabActive →
        ∃ t, exec (.qualifiedEdge n) s = .next t ∧ t.lines = u.lines ∧ t.ports = s.ports ∧ t.relay = s.relay))

/-- R42 to R44, R46, R64, R70: an edge of CAB_ACTIVE, which stands on this line alone. At a member, asserted with at
most one UP port, the role becomes MASTER in SETTLING with T2 started; with two, CAB_MID is recorded and nothing else
changes. At a master, released, the role becomes MEMBER: from STABLE in SUSPECT with T6 started and the consist kept,
otherwise in UNINAUGURATED without one. A port event at a member that may lead makes it MASTER; a STABLE member
becomes SUSPECT and sends TOPO forward, and any other sends it on every UP port, with RESTARTED at the first became UP
after a restart. At a master it is a trigger, but for a second UP port, which takes the role, records CAB_MID and
sends TOPO on both ports. T1 in UP, the score of 96 and the qualification of a port are such events; no drain and no
restart waits there. That the restart report flag is cleared at every first became UP is the model's choice (log 23),
and so is that a member that becomes MASTER clears its blocked reason (log 21), that a cab edge is taken before the
ports are started too (log 40), that a port whose T1 runs out cuts off a PROBE or BREAK it drives (log 41) and that E1
takes its TOPO before E2 (log 13). -/
def Obligations.RoleFollowsCabAndPorts : Prop :=
  (∀ (n : Fin 16) (s : State), s.LinesSafe → (s.lineAt n.val).entry.function = .cabActive →
    s.bypass.node = .operating → (s.lineAt n.val).due s.timers.timebase = true →
    let level := !(s.lineAt n.val).qualified
    (s.consist.role = .member → level = true →
      (s.upPorts.length ≤ 1 →
        ∃ t, exec (.qualifiedEdge n) s = .next t
          ∧ t.consist = { s.consist with role := .master, state := .settling, joined := none, blocked := .none }
          ∧ t.count .t2 = some (s.setting 2).period ∧ t.count .t5 = none ∧ t.count .t6 = none ∧ t.count .t9 = none
          ∧ t.faults = s.faults ∧ t.relay = s.relay ∧ t.ports = s.ports ∧ t.door.sides = s.door.sides)
      ∧ (1 < s.upPorts.length →
        ∃ t, exec (.qualifiedEdge n) s = .next t ∧ t.consist = s.consist ∧ t.door = s.door ∧ t.heat = s.heat
          ∧ t.faults = s.faults.record .cabMid .node s.timers.timebase s.consist.epoch
          ∧ t.timers = s.timers ∧ t.relay = s.relay ∧ t.ports = s.ports))
    ∧ (s.consist.role = .master → level = false →
      ∃ t, exec (.qualifiedEdge n) s = .next t ∧ t.consist.role = .member
        ∧ t.faults = s.faults ∧ t.relay = s.relay ∧ t.ports = s.ports
        ∧ (s.consist.state = .stable →
          t.consist = { s.consist with role := .member, state := .suspect, attempt := none, blocked := .none }
          ∧ t.count .t6 = some (s.setting 6).period ∧ t.door.sides = s.door.sides ∧ t.door.doorsClosed = false
          ∧ t.count .t7 = none ∧ t.count .t8 = none ∧ t.count .t11 = none ∧ t.count .t12 = none)
        ∧ (s.consist.state ≠ .stable →
          t.consist = { s.consist with
            role := .member, state := .uninaugurated, blocked := .none, epoch := 0, position := 0
            orientation := .normal, table := [], joined := none, attempt := none }
          ∧ (∀ k ∈ consistTimers, t.count k = none) ∧ ∀ d, (t.side d).state ≠ .released)))
  ∧ ((∀ (e : TopoEvent) (p : Port) (s : State),
    let s1 := if e = .portUp then s.setConsist { s.consist with restartReport := false } else s
    let told : TopoEvent := if e = .portUp ∧ s.consist.restartReport = true then .restarted else e
    let f : Frame := ⟨⟨false, ⟨.all, 0⟩, false, s.consist.epoch, s.consist.position, 0⟩, .topo ⟨s.identity, told, p⟩⟩
    let both : Prop := s.isUp .e1 = true ∧ s.isUp .e2 = true
    let t := portReport e p s
    (s.consist.role = .master → ¬(e = .portUp ∧ both) → t = trigger s1)
    ∧ (s.consist.role = .master → e = .portUp → both → t.consist.role = .member
      ∧ (let topo : Frame := ⟨⟨false, ⟨.all, 0⟩, false, t.consist.epoch, t.consist.position, 0⟩,
          .topo ⟨s.identity, told, p⟩⟩
        let sent := sendFrame .e2 topo (sendFrame .e1 topo ((recordFault .cabMid .node s).setConsist t.consist))
        t.relay = sent.relay ∧ t.faults = sent.faults)
      ∧ (s.consist.state = .stable → t.consist = { s.consist with
          role := .member, state := .suspect, attempt := none, blocked := .none, restartReport := false }
        ∧ t.count .t6 = some (s.setting 6).period ∧ t.door.sides = s.door.sides ∧ t.door.doorsClosed = false)
      ∧ (s.consist.state ≠ .stable → t.consist = { s.consist with
          role := .member, state := .uninaugurated, blocked := .none, epoch := 0, position := 0
          orientation := .normal, table := [], joined := none, attempt := none, restartReport := false }
        ∧ ∀ d, (t.side d).state ≠ .released))
    ∧ (s.consist.role = .member → s.cab = true → ¬both →
      t.consist = { s1.consist with role := .master, state := .settling, joined := none, blocked := .none }
      ∧ t.count .t2 = some (s.setting 2).period ∧ t.count .t5 = none ∧ t.count .t6 = none ∧ t.count .t9 = none
      ∧ t.relay = s.relay ∧ t.faults = s.faults ∧ t.ports = s.ports ∧ t.door.sides = s.door.sides)
    ∧ (s.consist.role = .member → s.cab = false ∨ both → s.consist.state = .stable →
      t = sendFrame s.forwardPort f (((s1.setConsist { s1.consist with state := .suspect }).setCount .t9 none).setCount .t6
        (some (s.setting 6).period)))
    ∧ (s.consist.role = .member → s.cab = false ∨ both → s.consist.state ≠ .stable →
      let u := if s.isUp .e1 = true then sendFrame .e1 f s1 else s1
      t = if s.isUp .e2 = true then sendFrame .e2 f u else u))
  ∧ ∀ (p : Port) (s : State), s.portsRun = true → (s.port p).tx.sending = false → s.relay.draining = false →
    s.mgmt.restart = .none →
    let alone (t : State) : State := t.setQueues p ⟨[], [], []⟩
    (s.count (.t1 p) = some 0 → (s.port p).link = .up → exec (.linkSilenceTimeout p) s = .next
      (portReport .portDown p (alone (((recordFault .portLost (.port p) s).setPort p
        ⟨.down, 0, 0, .betweenFrames, [], .idle, (s.port p).probeDue⟩).setCount (.t1 p) none))))
    ∧ ((s.port p).rx = .betweenFrames → (s.port p).link = .up → 96 ≤ (s.port p).score + 8 →
      exec (.invalidItem p .invalidWidth) s = .next
        (portReport .portFaulted p (alone ((recordFault .portFaulted (.port p) s).setPort p { s.port p with
          link := .faulted, score := min 255 ((s.port p).score + 8), rx := .discarding, assembly := [] }))))
    ∧ ((s.port p).rx = .betweenFrames → (s.port p).link = .arriving → (s.port p).arrival = 3 →
      exec (.probeReceived ⟨p, false⟩) s = .next
        (portReport .portUp p ((s.setPort p { s.port p with link := .up, arrival := 4, score := 0 }).setCount (.t1 p)
          (some (s.setting 1).period))))
    ∧ ((s.port p).rx = .betweenFrames → (s.port p).link = .faulted → (s.port p).score = 1 →
      exec (.probeReceived ⟨p, false⟩) s = .next
        (portReport .portUp p ((s.setPort p { s.port p with link := .up, score := 0 }).setCount (.t1 p)
          (some (s.setting 1).period)))))

/-- R4, R15, R103, R106, R107, R117, R119, R175, R178: a step of the timebase. The timebase and every running count move by
one in every node state. OPERATING samples each line: a level that differs from the qualified one begins a pending change,
or goes on with it, and one that agrees ends it; the first sample there is taken at once without an edge. WITHDRAWING
and WITHDRAWN take the raw levels alone. A port that took START or bits since the last step, their frame ended or not,
has T1 at its full period, and one whose frame has not ended is in it. The count that stays at 0 until its expiry is
taken, the owners that read the first sample without an edge, and the START and bits as an operand of the step are the
model's choice (log 1, log 7, log 4). -/
def Obligations.TimebaseStep : Prop :=
  ∀ (now : Instant) (s : State),
    let low (c : Option Nat) : Option Nat := c.map (fun k => k - 1)
    let c := s.timers.counts
    let timers (t1 : PerPort (Option Nat)) : TimerUnit := { s.timers with
      timebase := s.timers.timebase + 1
      counts := ⟨⟨low c.t0.e1, low c.t0.e2⟩, ⟨low t1.e1, low t1.e2⟩, low c.t2, low c.t3, low c.t4, low c.t5,
        low c.t6, low c.t7, low c.t8, low c.t9, ⟨low c.t10.a, low c.t10.b⟩, low c.t11, low c.t12, low c.t13,
        low c.t14, low c.t15⟩ }
    let logic (k : Nat) (l : LineRecord) : Bool :=
      if l.entry.polarity = .activeHigh then now.levels.getLsbD k else !now.levels.getLsbD k
    let sampled (k : Nat) (l : LineRecord) : LineRecord :=
      { l with
        raw := now.levels.getLsbD k
        change := if logic k l = l.qualified then .none else match l.change with
          | .since b => .since b
          | .none | .afresh => .since (s.timers.timebase + 1) }
    let port (p : Port) (r : Reception) : PortState :=
      if r = .underWay ∧ s.hears p then { s.port p with rx := .inFrame }
      else if r = .bitsOver ∧ s.hears p then { s.port p with rx := .bitsOver }
      else s.port p
    let alive (p : Port) (r : Reception) : Option Nat :=
      if (r = .ended ∧ s.receives p = true ∨ (r = .underWay ∨ r = .bitsOver) ∧ s.hears p) ∧ (s.port p).link ≠ .down then
        some (s.setting 1).period
      else s.count (.t1 p)
    let ports : PerPort PortState := ⟨port .e1 now.onE1, port .e2 now.onE2⟩
    let t1 : PerPort (Option Nat) := ⟨alive .e1 now.onE1, alive .e2 now.onE2⟩
    (s.bypass.node = .starting → exec (.timebaseStep now) s = .next { s with timers := timers c.t1 })
    ∧ (s.bypass.node = .withdrawing ∨ s.bypass.node = .withdrawn →
      exec (.timebaseStep now) s = .next { s with
        timers := timers c.t1
        lines := { s.lines with line := s.lines.line.mapIdx fun k l => { l with raw := now.levels.getLsbD k } } })
    ∧ (s.bypass.node = .operating → s.lines.firstSample = false →
      exec (.timebaseStep now) s = .next { s with
        timers := timers t1, ports := ports, lines := { s.lines with line := s.lines.line.mapIdx sampled } })
    ∧ (s.bypass.node = .operating → s.lines.firstSample = true →
      ∃ t, exec (.timebaseStep now) s = .next t ∧ t.timers.timebase = s.timers.timebase + 1
        ∧ (∀ p, t.count (.t1 p) = (timers t1).counts.t1.get p)
        ∧ t.lines = ⟨s.lines.line.mapIdx fun k l =>
            { l with raw := now.levels.getLsbD k, qualified := logic k l, change := .none }, false⟩
        ∧ (∀ d, (t.side d).proof = t.lineProof d) ∧ t.heat.applied ≤ s.heat.applied
        ∧ t.consist = s.consist ∧ t.relay = s.relay ∧ t.ports = ports ∧ t.faults = s.faults
        ∧ t.bypass = s.bypass ∧ t.mgmt = s.mgmt)

/-- R104, R105, R107 to R109, R111, R116: a LOCAL write of the line function table. An unlisted function code, or a
function that would stand on two lines where it may not, refuses it whole. Otherwise a line whose function or polarity
changes carries its new entry, released, without change, output or report; one that keeps both takes the new debounce
and arming; the others are as they were. The owners are told: a proof reads the new table, and a node whose CAB_ACTIVE
moved is a member. A LOCAL write of the general outputs sets the levels of lines that all carry GENERAL_OUT; a value
other than 0 and 1, or one line that carries another function, refuses it whole. That the response carries the epoch
and position after the write's effect (log 29) and the order of the notices (log 30) are the model's choice. -/
def Obligations.LineObjectsWritten : Prop :=
  (∀ (v : Via) (q : Req) (s : State), s.judges v .write q → s.admits v .lines q →
    let u := s.whenTaken v .write q
    let inputs : List LineFunction := [.none, .cabActive, .zeroSpeed, .doorProof .a, .doorProof .b, .doorInhibit .a,
      .doorInhibit .b, .heatFeedback, .heatDemand0, .heatDemand1, .heatDemand2, .generalIn]
    let outputs : List LineFunction := [.doorRelease .a, .doorRelease .b, .doorClose .a, .doorClose .b,
      .trainDoorsClosed, .heatStage0, .heatStage1, .heatStage2, .generalOut]
    let function (n : Nat) : Option LineFunction := if n < 16 then inputs[n]? else outputs[n - 16]?
    let entry (x : Byte × Byte × Byte) : Option LineEntry := (function x.1.toNat).map fun f =>
      ⟨f, if x.2.1.getLsbD 7 = true then .activeLow else .activeHigh, min 250 x.2.2.toNat,
        [Arming.off, .assertion, .release, .both].getD (x.2.1.toNat % 4) .off⟩
    let refused : Prop := exec (.writeLines v q) s = .next (u.replied v .write q .invalid [])
    let old := s.lines.line.map fun x => x.entry
    ((triples q.data).mapM entry = none → refused)
    ∧ ∀ new, (triples q.data).mapM entry = some new →
      let whole := old.take q.index ++ new ++ old.drop (q.index + new.length)
      let single := (whole.map fun e => e.function).filter fun f => f != .none && f != .generalIn && f != .generalOut
      let moved (f : LineFunction) : Prop := ∃ k < 16, ∃ e, new[k]? = some e
        ∧ ((s.lineAt (q.index + k)).entry.function ≠ e.function ∨ (s.lineAt (q.index + k)).entry.polarity ≠ e.polarity)
        ∧ (e.function = f ∨ (s.lineAt (q.index + k)).entry.function = f)
      let line (e : LineEntry) (l : LineRecord) : LineRecord :=
        if l.entry.function ≠ e.function ∨ l.entry.polarity ≠ e.polarity then
          ⟨e, l.raw, false, .none, false, false, false, .ready⟩
        else
          let m := if l.entry.debounce ≠ e.debounce ∧ l.change ≠ .none then { l with change := .afresh } else l
          if l.entry.arming ≠ e.arming then
            { m with entry := e, reported := false, recorded := false, condition := .ready }
          else { m with entry := e }
      (¬single.Nodup → refused)
      ∧ (single.Nodup → s.LinesSafe → s.ProofSafe →
        ∃ t, exec (.writeLines v q) s = .next t
          ∧ t.lines = { s.lines with line := s.lines.line.mapIdx fun k l =>
              if q.index ≤ k then (match new[k - q.index]? with
                | some e => line e l
                | none => l)
              else l }
          ∧ (∀ d, (t.side d).proof = t.lineProof d ∧ (¬moved (.doorProof d) → (t.side d).proof = (s.side d).proof))
          ∧ (moved .cabActive → t.consist.role = .member)
          ∧ (¬moved .cabActive → t.consist = s.consist ∧ t.door = { s.door with sides := t.door.sides })
          ∧ t.heat.applied ≤ s.heat.applied ∧ t.ports = s.ports ∧ t.bypass = s.bypass ∧ t.mgmt = s.mgmt
          ∧ (let r := (u.setConsist t.consist).replied v .write q
              (if ∃ x ∈ triples q.data, 250 < x.2.2.toNat then .okClamped else .ok) []
            t.relay = r.relay ∧ t.faults = r.faults)))
  ∧ (∀ (v : Via) (q : Req) (s : State), s.judges v .write q → s.admits v .generalOut q →
    let u := s.whenTaken v .write q
    let fit : Prop := (∀ b ∈ q.data, b = 0 ∨ b = 1)
      ∧ ∀ k < q.count, (s.lineAt (q.index + k)).entry.function = .generalOut
    (fit → exec (.writeGeneralOut v q) s = .next ((u.setLines { s.lines with
      line := s.lines.line.mapIdx fun k l => if q.index ≤ k ∧ k < q.index + q.count then
        { l with generalOut := decide (q.data.getD (k - q.index) 0 = 1) } else l }).replied v .write q .ok []))
    ∧ (¬fit → exec (.writeGeneralOut v q) s = .next (u.replied v .write q .invalid [])))

/-! ### Heating and timer settings, and the requests that clear or restart -/

/-- R152 to R155, R169: LOCAL writes of the heat objects. A profile begins with 0, does not fall and has no entry above
1023, and clears the walk record; supply limit, demand and settings are clamped; and the applied stage falls at once to
d_eff, and in fallback to the fallback stage, when a write lowers them. -/
def Obligations.HeatObjectsWritten : Prop :=
  ∀ (v : Via) (q : Req) (s : State),
    let u := s.whenTaken v .write q
    let clamped (b : Prop) [Decidable b] : Status := if b then .okClamped else .ok
    (s.judges v .write q → s.admits v .heatProfile q →
      let fit : Prop := (words q.data).head? = some 0 ∧ (∀ x ∈ words q.data, x ≤ 1023)
        ∧ (words q.data).Pairwise (· ≤ ·)
      (fit → exec (.writeHeatProfile v q) s = .next
        ((u.setHeat { s.heat with profile := words q.data, walkRecord := none }).replied v .write q .ok []))
      ∧ (¬fit → exec (.writeHeatProfile v q) s = .next (u.replied v .write q .invalid [])))
    ∧ (∀ w, s.judges v .write q → s.admits v .supplyLimit q → words q.data = [w] →
      exec (.writeSupplyLimit v q) s = .next
        ((u.setHeat { s.heat with supplyLimit := min 4095 w }).replied v .write q (clamped (4095 < w)) []))
    ∧ (∀ b, s.judges v .write q → s.admits v .heatDemand q → q.data = [b] →
      let x := { s.heat with writtenDemand := min 7 b.toNat }
      let w := u.setHeat { x with applied := min s.heat.applied (s.setHeat x).effectiveDemand }
      ∃ t, exec (.writeHeatDemand v q) s = .next t
        ∧ t = (w.setCount .t14 (t.count .t14)).replied v .write q (clamped (7 < b.toNat)) []
        ∧ ((s.heat.applied = 0 ↔ t.heat.applied = 0) → t.count .t14 = s.count .t14))
    ∧ (s.judges v .write q → s.admits v .heatSettings q →
      let pick (k old : Nat) : Nat :=
        if q.index ≤ k ∧ k < q.index + q.data.length then min 7 (q.data.getD (k - q.index) 0).toNat else old
      let x := { s.heat with doorCap := pick 0 s.heat.doorCap, fallbackStage := pick 1 s.heat.fallbackStage }
      let d := (s.setHeat x).effectiveDemand
      let w := u.setHeat { x with
        applied := min s.heat.applied (if s.heat.fallback = true then min x.fallbackStage d else d) }
      ∃ t, exec (.writeHeatSettings v q) s = .next t
        ∧ t = (w.setCount .t14 (t.count .t14)).replied v .write q (clamped (∃ b ∈ q.data, 7 < b.toNat)) []
        ∧ ((s.heat.applied = 0 ↔ t.heat.applied = 0) → t.count .t14 = s.count .t14))

/-- R176, R177, R180: a LOCAL write of timer settings. A value of 0 is stored as 1 and one above 1023 as 1023, with its
scale; the counts of the timers written that are running start again at their new period, and stopped ones stay stopped.
No other count and no other setting changes. -/
def Obligations.TimerSettingsWritten : Prop :=
  ∀ (v : Via) (q : Req) (s : State), s.judges v .write q → s.admits v .timers q → s.timers.settings.length = 16 →
    let u := s.whenTaken v .write q
    let stored (w : Nat) : Setting :=
      ⟨if w % 32768 = 0 then 1 else if 1023 < w % 32768 then 1023 else w % 32768,
        if 32768 ≤ w then .coarse else .fine⟩
    let written (k : Nat) : Prop := q.index ≤ k ∧ k < q.index + q.count
    let r := u.replied v .write q
      (if ∃ w ∈ words q.data, w % 32768 = 0 ∨ 1023 < w % 32768 then .okClamped else .ok) []
    ∃ t, exec (.writeTimers v q) s = .next t ∧ t = r.setTimers t.timers
      ∧ t.timers.timebase = s.timers.timebase ∧ t.timers.settings.length = 16
      ∧ (∀ k < 16, t.setting k = (if written k then stored ((words q.data).getD (k - q.index) 0) else s.setting k))
      ∧ ∀ id : TimerId, t.count id = (if written id.number ∧ s.count id ≠ none then
          some (t.setting id.number).period else s.count id)

/-- R171, R194, R195, R204: CLEAR_FAULTS frees the slot of its index, or with 255 all slots and the overflow flag, and any
other index is ABSENT. CLEAR_LOCKOUT from the own tap clears the lockout, with the feedback judged afresh: T14 runs from
its period where the line shows feedback against stage 0, and is stopped where it agrees. -/
def Obligations.FaultsAndLockoutCleared : Prop :=
  (∀ (v : Via) (q : Req) (s : State), s.judges v .clearFaults q →
    let u := s.whenTaken v .clearFaults q
    exec (.clearFaults v q) s = .next
      (if q.index = 255 then (u.setFaults ⟨u.faults.slots.map (fun _ => none), false⟩).replied v .clearFaults q .ok []
      else if q.index < 8 then
        (u.setFaults { u.faults with slots := u.faults.slots.set q.index none }).replied v .clearFaults q .ok []
      else u.replied v .clearFaults q .absent []))
  ∧ ∀ (v : Via) (q : Req) (s : State), s.judges v .clearLockout q → accessOf v = .ownTap → s.HeatSafe →
    let u := s.whenTaken v .clearLockout q
    let shown : Prop := s.asserted .heatFeedback = true
    exec (.clearLockout v q) s = .next
      ((if s.heat.lockedOut = true then (u.setHeat { s.heat with lockedOut := false }).setCount .t14
          (if shown then some ((s.count .t14).getD (s.setting 14).period) else none)
        else u).replied v .clearLockout q .ok [])

/-- R23, R74, R90, R102, R118, R150, R173, R182, R196, R198, R205: what a restart leaves. Both ports are DOWN with T0
running and the probe due flag set; queues, tap queue, drain and pending restart are gone, an exchange under way has
no frame left to remove, consist groups cleared, the tables kept; each line is qualified from the sample; the sides
read their proofs, and a RELEASED or CLOSING side is CLOSED where proved and CLOSING with a full close time where not;
the consist is cleared and the role evaluated at the end; the heating is at stage 0 in fallback; identity, settings,
timebase and fault table are kept. RESTART from the own tap restarts at once and is answered OK in the emptied tap
queue; from the train its response is queued first, the restart is pending, and PENDING_RESTART restarts the node;
where the response finds no room, or no UP port, the node restarts at once. The order of the door unit before the
consist unit (log 22), the sample as an operand that counts as the first sample (log 12, log 7), T0 running where the
ports were not yet started (log 31), a PROBE or BREAK cut off with the entry to DOWN (log 41), a PENDING_RESTART taken
while the response still waits (log 11), and the epoch and position of the tap's response (log 29) are the model's
choice. -/
def Obligations.NodeRestarts : Prop :=
  (∀ (levels : Levels) (s : State),
    let t := restartNode levels s
    let logic (k : Nat) (l : LineRecord) : Bool :=
      if l.entry.polarity = .activeHigh then levels.getLsbD k else !levels.getLsbD k
    let lead : Prop := t.cab = true
    t.pending = s.pending ∧ t.identity = s.identity ∧ t.faults = s.faults
    ∧ t.bypass = { s.bypass with holdoff := false }
    ∧ t.ports = ⟨⟨.down, 0, 0, .betweenFrames, [], .idle, true⟩, ⟨.down, 0, 0, .betweenFrames, [], .idle, true⟩⟩
    ∧ t.relay = { s.relay with
        groupsActive := s.relay.groupsActive &&& 0x00FF#16, groupsStaged := s.relay.groupsStaged &&& 0x00FF#16
        queues := ⟨⟨[], [], []⟩, ⟨[], [], []⟩⟩, tapQueue := [], draining := false
        select := match s.relay.select with
          | .serving _ => .serving false
          | .idle | .unserved => s.relay.select }
    ∧ t.mgmt = ⟨none, .none⟩
    ∧ t.lines = ⟨s.lines.line.mapIdx fun k l => { l with
        raw := levels.getLsbD k, qualified := logic k l, change := .none, reported := false, recorded := false
        condition := .ready }, false⟩
    ∧ t.consist = ⟨if lead then .master else .member, if lead then .settling else .uninaugurated, .none, 0, 0, .normal,
        [], none, none, true, s.consist.coachClass, s.consist.doors⟩
    ∧ (∀ d, let proof := t.lineProof d
        let was := (s.side d).state
        t.side d = ⟨if was = .released ∨ was = .closing then (if proof = .proved then .closed else .closing) else was,
          proof, (s.side d).localInhibit, decide (proof ≠ .proved)⟩
        ∧ t.count (.t10 d) = (if was = .released ∨ was = .closing then
            (if proof = .proved then none else some (s.setting 10).period) else s.count (.t10 d)))
    ∧ t.door = ⟨t.door.sides, 0, 0, none, false, false, false⟩
    ∧ t.heat = { s.heat with
        applied := 0, fallback := true, walkRecord := none, walk := 0, outstanding := none, startPending := false }
    ∧ t.timers.timebase = s.timers.timebase ∧ t.timers.settings = s.timers.settings
    ∧ (∀ p, t.count (.t0 p) = some (s.setting 0).period ∧ t.count (.t1 p) = none)
    ∧ t.count .t2 = (if lead then some (s.setting 2).period else none)
    ∧ (∀ k ∈ [TimerId.t3, .t4, .t5, .t6, .t7, .t8, .t9, .t11, .t12, .t13, .t15], t.count k = none)
    ∧ (t.count .t14 = if t.asserted .heatFeedback = true ∧ s.heat.lockedOut = false then
        some (s.setting 14).period else none))
  ∧ ((∀ (v : Via) (q : Req) (levels : Levels) (s : State), s.judges v .restart q → accessOf v = .ownTap →
    exec (.restart v q levels) s
      = .next ((restartNode levels (s.whenTaken v .restart q)).replied v .restart q .ok []))
  ∧ (∀ (p : Port) (h : Header) (q : Req) (levels : Levels) (s : State), s.judges (.train p h) .restart q →
    let u := s.whenTaken (.train p h) .restart q
    let r : Frame := ⟨⟨false, ⟨.position, 1⟩, false, s.consist.epoch, s.consist.position, h.tag⟩,
      .mgmtRsp ⟨.ok, .restart, q.object, q.index, []⟩⟩
    let port := forwardOf s.consist.orientation
    (s.isUp port = true → u.hasRoom port .control = true →
      exec (.restart (.train p h) q levels) s = .next
        ((u.setQueues port { u.queues port with control := (u.queues port).control ++ [⟨r, none, true⟩] }).setMgmt
          { s.mgmt with restart := .waiting }))
    ∧ (s.isUp port = true → u.hasRoom port .control = false →
      exec (.restart (.train p h) q levels) s = .next (restartNode levels (recordFault .queueFull (.port port) u)))
    ∧ (s.isUp port = false → exec (.restart (.train p h) q levels) s = .next (restartNode levels u)))
  ∧ ∀ (levels : Levels) (s : State), s.bypass.node = .operating → s.mgmt.restart ≠ .none →
    exec (.pendingRestart levels) s = .next (restartNode levels s))

/-- R17, R21, R69, R119, R151, R174, R182, R197: WITHDRAW from the own tap. The response OK is placed; every UP port sends
a BREAK, with one flush, and the hold-off is set; the consist is cleared, no side stays RELEASED, general outputs,
interlock, applied stage and walks are off, every count is stopped, and the node is WITHDRAWING with BYPASS_HOLD as it
was. Here no drain is pending. That an UP port is between frames as it begins its
BREAK (log 35), that the walk counters read 0 with their records (log 32), that there is one flush
(log 14) and that the response is placed before the entry (log 29) is the model's choice. -/
def Obligations.WithdrawTaken : Prop :=
  ∀ (v : Via) (q : Req) (s : State), s.judges v .withdraw q → accessOf v = .ownTap → s.relay.draining = false →
    let u := (s.whenTaken v .withdraw q).replied v .withdraw q .ok []
    let master : Prop := s.consist.role = .master
    ∃ t, exec (.withdraw v q) s = .next t
      ∧ t.bypass = { s.bypass with node := .withdrawing, holdoff := s.bypass.holdoff || !s.upPorts.isEmpty }
      ∧ t.relay = (if s.upPorts = [] then u.relay
        else { u.relay with queues := ⟨⟨[], [], []⟩, ⟨[], [], []⟩⟩ })
      ∧ t.faults = u.faults
      ∧ (∀ p, (s.isUp p = true → t.port p = { s.port p with tx := .brk, rx := .betweenFrames, assembly := [] })
        ∧ (s.isUp p = false → (t.port p).link = (s.port p).link ∧ (t.port p).rx = (s.port p).rx
          ∧ (t.port p).score = (s.port p).score ∧ (t.port p).arrival = (s.port p).arrival))
      ∧ t.consist = { s.consist with
          role := .member, state := .uninaugurated, blocked := .none, epoch := 0, position := 0
          orientation := .normal, table := [], joined := none, attempt := none }
      ∧ (∀ d, (t.side d).state = (if (s.side d).state = .released then
          (if (s.side d).proof = .proved then .closed else .closing) else (s.side d).state))
      ∧ t.door.doorsClosed = false ∧ t.door.commandCounter = s.door.commandCounter
      ∧ (master → t.door.walk = 0 ∧ t.door.outstanding = none ∧ t.door.startPending = false ∧ t.door.alert = false)
      ∧ t.heat = { s.heat with
          applied := 0, fallback := true, walkRecord := none, walk := 0, outstanding := none, startPending := false }
      ∧ t.lines = { s.lines with line := s.lines.line.map fun l => { l with generalOut := false, change := .none } }
      ∧ (∀ k, t.count k = none) ∧ t.timers.timebase = s.timers.timebase ∧ t.timers.settings = s.timers.settings
      ∧ t.mgmt.commit = s.mgmt.commit

/-! ### Fault table (R199 to R205) -/

/-- R200: a block hands over a fault kind and a source. A record of that kind and source counts on, to 255 at most,
with its last stamp and its unread flag new; it keeps its kind, source, first stamp and epoch, and no other slot
changes: a free one stays free. R201: otherwise the lowest free slot takes a new record stamped with the timebase and
the node's current epoch, and a new kind and source that finds all slots taken sets the overflow flag and changes
nothing else. -/
def Obligations.FaultsRecorded : Prop :=
  (∀ (k : FaultKind) (x : FaultSource) (i : Nat) (s : State),
    let same (r : FaultRecord) : Prop := r.kind = k ∧ r.source = x
    let t := recordFault k x s
    t.setFaults s.faults = s
    ∧ (∀ r, s.faults.slots[i]? = some (some r) → same r →
      t.faults.overflow = s.faults.overflow
      ∧ t.faults.slots[i]? = some (some { r with
          count := if r.count < 255 then r.count + 1 else 255, last := s.timers.timebase, unread := true }))
    ∧ (∀ r, s.faults.slots[i]? = some (some r) → ¬same r → t.faults.slots[i]? = some (some r))
    ∧ ((∃ r, some r ∈ s.faults.slots ∧ same r) → s.faults.slots[i]? = some none →
      t.faults.overflow = s.faults.overflow ∧ t.faults.slots[i]? = some none)
    ∧ t.faults.slots.length = s.faults.slots.length
    ∧ ((∀ r, some r ∈ s.faults.slots → ¬same r) →
      s.faults.slots[i]? = some none → (∀ j < i, s.faults.slots[j]? ≠ some none) →
      t.faults.overflow = s.faults.overflow ∧ t.faults.slots
        = s.faults.slots.set i (some ⟨k, x, 1, s.timers.timebase, s.timers.timebase, s.consist.epoch, true⟩)))
  ∧ (∀ (k : FaultKind) (x : FaultSource) (s : State),
    (∀ y ∈ s.faults.slots, ∃ r, y = some r ∧ ¬(r.kind = k ∧ r.source = x)) →
    recordFault k x s = s.setFaults { s.faults with overflow := true })

/-! ### What every command keeps -/

/-- R16, R20, R83, R84, R92, R94, R88, R191: no queue holds more than its capacity, a port that is not UP holds no frame, an
exchange that sends the head of the tap delivery queue finds it there, and a reference waits exactly while a drain is
pending. Every command keeps it so. -/
def Obligations.QueuesStayBounded : Prop :=
  ∀ (c : Instr) (s t : State), exec c s = .next t →
    (s.QueuesSafe → t.QueuesSafe) ∧ (s.TapSafe → t.TapSafe) ∧ (s.DrainSafe → t.DrainSafe)

/-- R104, R105, R109, R111, R113, R122, R199: the fault table has eight slots, no two records of one kind and source
and counts from 1 to 255; the line function table has sixteen lines and no function twice but those that may be; an
output level stands only with GENERAL_OUT, and a line is in the change report exactly while LATCHED; the proof of a
side is what its line shows; and every stored setting stays in its range (R40, R75, R86, R152 to R154, R176). Every
command keeps each of these. -/
def Obligations.TablesStayLegal : Prop :=
  (∀ (c : Instr) (s t : State), exec c s = .next t →
    (s.faults.Safe → t.faults.Safe) ∧ (s.LinesSafe → t.LinesSafe) ∧ (s.LinesSafe → s.ProofSafe → t.ProofSafe))
  ∧ (∀ (c : Instr) (s t : State), exec c s = .next t → s.SettingsSafe → t.SettingsSafe)
end

