-- ==== Sys2Proof/Laws/State.lean ====
section
/-! SUPPORT. One lemma for each field of the state and each update of a block, and the laws of reading back per port,
per side, per running count and per queue. -/

namespace Sys2Proof.Machine

open Sys2Proof

/-! ### Updates of one block -/

@[simp] theorem State.setPending_pending (s : State) (x : List Instr) : (s.setPending x).pending = x := rfl
@[simp] theorem State.setPending_identity (s : State) (x : List Instr) : (s.setPending x).identity = s.identity := rfl
@[simp] theorem State.setPending_bypass (s : State) (x : List Instr) : (s.setPending x).bypass = s.bypass := rfl
@[simp] theorem State.setPending_ports (s : State) (x : List Instr) : (s.setPending x).ports = s.ports := rfl
@[simp] theorem State.setPending_relay (s : State) (x : List Instr) : (s.setPending x).relay = s.relay := rfl
@[simp] theorem State.setPending_consist (s : State) (x : List Instr) : (s.setPending x).consist = s.consist := rfl
@[simp] theorem State.setPending_door (s : State) (x : List Instr) : (s.setPending x).door = s.door := rfl
@[simp] theorem State.setPending_heat (s : State) (x : List Instr) : (s.setPending x).heat = s.heat := rfl
@[simp] theorem State.setPending_lines (s : State) (x : List Instr) : (s.setPending x).lines = s.lines := rfl
@[simp] theorem State.setPending_timers (s : State) (x : List Instr) : (s.setPending x).timers = s.timers := rfl
@[simp] theorem State.setPending_faults (s : State) (x : List Instr) : (s.setPending x).faults = s.faults := rfl
@[simp] theorem State.setPending_mgmt (s : State) (x : List Instr) : (s.setPending x).mgmt = s.mgmt := rfl

@[simp] theorem State.setBypass_pending (s : State) (x : BypassHold) : (s.setBypass x).pending = s.pending := rfl
@[simp] theorem State.setBypass_identity (s : State) (x : BypassHold) : (s.setBypass x).identity = s.identity := rfl
@[simp] theorem State.setBypass_bypass (s : State) (x : BypassHold) : (s.setBypass x).bypass = x := rfl
@[simp] theorem State.setBypass_ports (s : State) (x : BypassHold) : (s.setBypass x).ports = s.ports := rfl
@[simp] theorem State.setBypass_relay (s : State) (x : BypassHold) : (s.setBypass x).relay = s.relay := rfl
@[simp] theorem State.setBypass_consist (s : State) (x : BypassHold) : (s.setBypass x).consist = s.consist := rfl
@[simp] theorem State.setBypass_door (s : State) (x : BypassHold) : (s.setBypass x).door = s.door := rfl
@[simp] theorem State.setBypass_heat (s : State) (x : BypassHold) : (s.setBypass x).heat = s.heat := rfl
@[simp] theorem State.setBypass_lines (s : State) (x : BypassHold) : (s.setBypass x).lines = s.lines := rfl
@[simp] theorem State.setBypass_timers (s : State) (x : BypassHold) : (s.setBypass x).timers = s.timers := rfl
@[simp] theorem State.setBypass_faults (s : State) (x : BypassHold) : (s.setBypass x).faults = s.faults := rfl
@[simp] theorem State.setBypass_mgmt (s : State) (x : BypassHold) : (s.setBypass x).mgmt = s.mgmt := rfl

@[simp] theorem State.setPorts_pending (s : State) (x : PerPort PortState) : (s.setPorts x).pending = s.pending := rfl
@[simp] theorem State.setPorts_identity (s : State) (x : PerPort PortState) : (s.setPorts x).identity = s.identity := rfl
@[simp] theorem State.setPorts_bypass (s : State) (x : PerPort PortState) : (s.setPorts x).bypass = s.bypass := rfl
@[simp] theorem State.setPorts_ports (s : State) (x : PerPort PortState) : (s.setPorts x).ports = x := rfl
@[simp] theorem State.setPorts_relay (s : State) (x : PerPort PortState) : (s.setPorts x).relay = s.relay := rfl
@[simp] theorem State.setPorts_consist (s : State) (x : PerPort PortState) : (s.setPorts x).consist = s.consist := rfl
@[simp] theorem State.setPorts_door (s : State) (x : PerPort PortState) : (s.setPorts x).door = s.door := rfl
@[simp] theorem State.setPorts_heat (s : State) (x : PerPort PortState) : (s.setPorts x).heat = s.heat := rfl
@[simp] theorem State.setPorts_lines (s : State) (x : PerPort PortState) : (s.setPorts x).lines = s.lines := rfl
@[simp] theorem State.setPorts_timers (s : State) (x : PerPort PortState) : (s.setPorts x).timers = s.timers := rfl
@[simp] theorem State.setPorts_faults (s : State) (x : PerPort PortState) : (s.setPorts x).faults = s.faults := rfl
@[simp] theorem State.setPorts_mgmt (s : State) (x : PerPort PortState) : (s.setPorts x).mgmt = s.mgmt := rfl

@[simp] theorem State.setRelay_pending (s : State) (x : RelayUnit) : (s.setRelay x).pending = s.pending := rfl
@[simp] theorem State.setRelay_identity (s : State) (x : RelayUnit) : (s.setRelay x).identity = s.identity := rfl
@[simp] theorem State.setRelay_bypass (s : State) (x : RelayUnit) : (s.setRelay x).bypass = s.bypass := rfl
@[simp] theorem State.setRelay_ports (s : State) (x : RelayUnit) : (s.setRelay x).ports = s.ports := rfl
@[simp] theorem State.setRelay_relay (s : State) (x : RelayUnit) : (s.setRelay x).relay = x := rfl
@[simp] theorem State.setRelay_consist (s : State) (x : RelayUnit) : (s.setRelay x).consist = s.consist := rfl
@[simp] theorem State.setRelay_door (s : State) (x : RelayUnit) : (s.setRelay x).door = s.door := rfl
@[simp] theorem State.setRelay_heat (s : State) (x : RelayUnit) : (s.setRelay x).heat = s.heat := rfl
@[simp] theorem State.setRelay_lines (s : State) (x : RelayUnit) : (s.setRelay x).lines = s.lines := rfl
@[simp] theorem State.setRelay_timers (s : State) (x : RelayUnit) : (s.setRelay x).timers = s.timers := rfl
@[simp] theorem State.setRelay_faults (s : State) (x : RelayUnit) : (s.setRelay x).faults = s.faults := rfl
@[simp] theorem State.setRelay_mgmt (s : State) (x : RelayUnit) : (s.setRelay x).mgmt = s.mgmt := rfl

@[simp] theorem State.setConsist_pending (s : State) (x : ConsistUnit) : (s.setConsist x).pending = s.pending := rfl
@[simp] theorem State.setConsist_identity (s : State) (x : ConsistUnit) : (s.setConsist x).identity = s.identity := rfl
@[simp] theorem State.setConsist_bypass (s : State) (x : ConsistUnit) : (s.setConsist x).bypass = s.bypass := rfl
@[simp] theorem State.setConsist_ports (s : State) (x : ConsistUnit) : (s.setConsist x).ports = s.ports := rfl
@[simp] theorem State.setConsist_relay (s : State) (x : ConsistUnit) : (s.setConsist x).relay = s.relay := rfl
@[simp] theorem State.setConsist_consist (s : State) (x : ConsistUnit) : (s.setConsist x).consist = x := rfl
@[simp] theorem State.setConsist_door (s : State) (x : ConsistUnit) : (s.setConsist x).door = s.door := rfl
@[simp] theorem State.setConsist_heat (s : State) (x : ConsistUnit) : (s.setConsist x).heat = s.heat := rfl
@[simp] theorem State.setConsist_lines (s : State) (x : ConsistUnit) : (s.setConsist x).lines = s.lines := rfl
@[simp] theorem State.setConsist_timers (s : State) (x : ConsistUnit) : (s.setConsist x).timers = s.timers := rfl
@[simp] theorem State.setConsist_faults (s : State) (x : ConsistUnit) : (s.setConsist x).faults = s.faults := rfl
@[simp] theorem State.setConsist_mgmt (s : State) (x : ConsistUnit) : (s.setConsist x).mgmt = s.mgmt := rfl

@[simp] theorem State.setDoor_pending (s : State) (x : DoorUnit) : (s.setDoor x).pending = s.pending := rfl
@[simp] theorem State.setDoor_identity (s : State) (x : DoorUnit) : (s.setDoor x).identity = s.identity := rfl
@[simp] theorem State.setDoor_bypass (s : State) (x : DoorUnit) : (s.setDoor x).bypass = s.bypass := rfl
@[simp] theorem State.setDoor_ports (s : State) (x : DoorUnit) : (s.setDoor x).ports = s.ports := rfl
@[simp] theorem State.setDoor_relay (s : State) (x : DoorUnit) : (s.setDoor x).relay = s.relay := rfl
@[simp] theorem State.setDoor_consist (s : State) (x : DoorUnit) : (s.setDoor x).consist = s.consist := rfl
@[simp] theorem State.setDoor_door (s : State) (x : DoorUnit) : (s.setDoor x).door = x := rfl
@[simp] theorem State.setDoor_heat (s : State) (x : DoorUnit) : (s.setDoor x).heat = s.heat := rfl
@[simp] theorem State.setDoor_lines (s : State) (x : DoorUnit) : (s.setDoor x).lines = s.lines := rfl
@[simp] theorem State.setDoor_timers (s : State) (x : DoorUnit) : (s.setDoor x).timers = s.timers := rfl
@[simp] theorem State.setDoor_faults (s : State) (x : DoorUnit) : (s.setDoor x).faults = s.faults := rfl
@[simp] theorem State.setDoor_mgmt (s : State) (x : DoorUnit) : (s.setDoor x).mgmt = s.mgmt := rfl

@[simp] theorem State.setHeat_pending (s : State) (x : HeatUnit) : (s.setHeat x).pending = s.pending := rfl
@[simp] theorem State.setHeat_identity (s : State) (x : HeatUnit) : (s.setHeat x).identity = s.identity := rfl
@[simp] theorem State.setHeat_bypass (s : State) (x : HeatUnit) : (s.setHeat x).bypass = s.bypass := rfl
@[simp] theorem State.setHeat_ports (s : State) (x : HeatUnit) : (s.setHeat x).ports = s.ports := rfl
@[simp] theorem State.setHeat_relay (s : State) (x : HeatUnit) : (s.setHeat x).relay = s.relay := rfl
@[simp] theorem State.setHeat_consist (s : State) (x : HeatUnit) : (s.setHeat x).consist = s.consist := rfl
@[simp] theorem State.setHeat_door (s : State) (x : HeatUnit) : (s.setHeat x).door = s.door := rfl
@[simp] theorem State.setHeat_heat (s : State) (x : HeatUnit) : (s.setHeat x).heat = x := rfl
@[simp] theorem State.setHeat_lines (s : State) (x : HeatUnit) : (s.setHeat x).lines = s.lines := rfl
@[simp] theorem State.setHeat_timers (s : State) (x : HeatUnit) : (s.setHeat x).timers = s.timers := rfl
@[simp] theorem State.setHeat_faults (s : State) (x : HeatUnit) : (s.setHeat x).faults = s.faults := rfl
@[simp] theorem State.setHeat_mgmt (s : State) (x : HeatUnit) : (s.setHeat x).mgmt = s.mgmt := rfl

@[simp] theorem State.setLines_pending (s : State) (x : LineUnit) : (s.setLines x).pending = s.pending := rfl
@[simp] theorem State.setLines_identity (s : State) (x : LineUnit) : (s.setLines x).identity = s.identity := rfl
@[simp] theorem State.setLines_bypass (s : State) (x : LineUnit) : (s.setLines x).bypass = s.bypass := rfl
@[simp] theorem State.setLines_ports (s : State) (x : LineUnit) : (s.setLines x).ports = s.ports := rfl
@[simp] theorem State.setLines_relay (s : State) (x : LineUnit) : (s.setLines x).relay = s.relay := rfl
@[simp] theorem State.setLines_consist (s : State) (x : LineUnit) : (s.setLines x).consist = s.consist := rfl
@[simp] theorem State.setLines_door (s : State) (x : LineUnit) : (s.setLines x).door = s.door := rfl
@[simp] theorem State.setLines_heat (s : State) (x : LineUnit) : (s.setLines x).heat = s.heat := rfl
@[simp] theorem State.setLines_lines (s : State) (x : LineUnit) : (s.setLines x).lines = x := rfl
@[simp] theorem State.setLines_timers (s : State) (x : LineUnit) : (s.setLines x).timers = s.timers := rfl
@[simp] theorem State.setLines_faults (s : State) (x : LineUnit) : (s.setLines x).faults = s.faults := rfl
@[simp] theorem State.setLines_mgmt (s : State) (x : LineUnit) : (s.setLines x).mgmt = s.mgmt := rfl

@[simp] theorem State.setTimers_pending (s : State) (x : TimerUnit) : (s.setTimers x).pending = s.pending := rfl
@[simp] theorem State.setTimers_identity (s : State) (x : TimerUnit) : (s.setTimers x).identity = s.identity := rfl
@[simp] theorem State.setTimers_bypass (s : State) (x : TimerUnit) : (s.setTimers x).bypass = s.bypass := rfl
@[simp] theorem State.setTimers_ports (s : State) (x : TimerUnit) : (s.setTimers x).ports = s.ports := rfl
@[simp] theorem State.setTimers_relay (s : State) (x : TimerUnit) : (s.setTimers x).relay = s.relay := rfl
@[simp] theorem State.setTimers_consist (s : State) (x : TimerUnit) : (s.setTimers x).consist = s.consist := rfl
@[simp] theorem State.setTimers_door (s : State) (x : TimerUnit) : (s.setTimers x).door = s.door := rfl
@[simp] theorem State.setTimers_heat (s : State) (x : TimerUnit) : (s.setTimers x).heat = s.heat := rfl
@[simp] theorem State.setTimers_lines (s : State) (x : TimerUnit) : (s.setTimers x).lines = s.lines := rfl
@[simp] theorem State.setTimers_timers (s : State) (x : TimerUnit) : (s.setTimers x).timers = x := rfl
@[simp] theorem State.setTimers_faults (s : State) (x : TimerUnit) : (s.setTimers x).faults = s.faults := rfl
@[simp] theorem State.setTimers_mgmt (s : State) (x : TimerUnit) : (s.setTimers x).mgmt = s.mgmt := rfl

@[simp] theorem State.setFaults_pending (s : State) (x : FaultTable) : (s.setFaults x).pending = s.pending := rfl
@[simp] theorem State.setFaults_identity (s : State) (x : FaultTable) : (s.setFaults x).identity = s.identity := rfl
@[simp] theorem State.setFaults_bypass (s : State) (x : FaultTable) : (s.setFaults x).bypass = s.bypass := rfl
@[simp] theorem State.setFaults_ports (s : State) (x : FaultTable) : (s.setFaults x).ports = s.ports := rfl
@[simp] theorem State.setFaults_relay (s : State) (x : FaultTable) : (s.setFaults x).relay = s.relay := rfl
@[simp] theorem State.setFaults_consist (s : State) (x : FaultTable) : (s.setFaults x).consist = s.consist := rfl
@[simp] theorem State.setFaults_door (s : State) (x : FaultTable) : (s.setFaults x).door = s.door := rfl
@[simp] theorem State.setFaults_heat (s : State) (x : FaultTable) : (s.setFaults x).heat = s.heat := rfl
@[simp] theorem State.setFaults_lines (s : State) (x : FaultTable) : (s.setFaults x).lines = s.lines := rfl
@[simp] theorem State.setFaults_timers (s : State) (x : FaultTable) : (s.setFaults x).timers = s.timers := rfl
@[simp] theorem State.setFaults_faults (s : State) (x : FaultTable) : (s.setFaults x).faults = x := rfl
@[simp] theorem State.setFaults_mgmt (s : State) (x : FaultTable) : (s.setFaults x).mgmt = s.mgmt := rfl

@[simp] theorem State.setMgmt_pending (s : State) (x : ManagementUnit) : (s.setMgmt x).pending = s.pending := rfl
@[simp] theorem State.setMgmt_identity (s : State) (x : ManagementUnit) : (s.setMgmt x).identity = s.identity := rfl
@[simp] theorem State.setMgmt_bypass (s : State) (x : ManagementUnit) : (s.setMgmt x).bypass = s.bypass := rfl
@[simp] theorem State.setMgmt_ports (s : State) (x : ManagementUnit) : (s.setMgmt x).ports = s.ports := rfl
@[simp] theorem State.setMgmt_relay (s : State) (x : ManagementUnit) : (s.setMgmt x).relay = s.relay := rfl
@[simp] theorem State.setMgmt_consist (s : State) (x : ManagementUnit) : (s.setMgmt x).consist = s.consist := rfl
@[simp] theorem State.setMgmt_door (s : State) (x : ManagementUnit) : (s.setMgmt x).door = s.door := rfl
@[simp] theorem State.setMgmt_heat (s : State) (x : ManagementUnit) : (s.setMgmt x).heat = s.heat := rfl
@[simp] theorem State.setMgmt_lines (s : State) (x : ManagementUnit) : (s.setMgmt x).lines = s.lines := rfl
@[simp] theorem State.setMgmt_timers (s : State) (x : ManagementUnit) : (s.setMgmt x).timers = s.timers := rfl
@[simp] theorem State.setMgmt_faults (s : State) (x : ManagementUnit) : (s.setMgmt x).faults = s.faults := rfl
@[simp] theorem State.setMgmt_mgmt (s : State) (x : ManagementUnit) : (s.setMgmt x).mgmt = x := rfl

/-! ### Updates of a part of a block -/

@[simp] theorem State.setPort_pending (s : State) (p : Port) (x : PortState) :
    (s.setPort p x).pending = s.pending := rfl
@[simp] theorem State.setPort_identity (s : State) (p : Port) (x : PortState) :
    (s.setPort p x).identity = s.identity := rfl
@[simp] theorem State.setPort_bypass (s : State) (p : Port) (x : PortState) :
    (s.setPort p x).bypass = s.bypass := rfl
@[simp] theorem State.setPort_ports (s : State) (p : Port) (x : PortState) :
    (s.setPort p x).ports = s.ports.set p x := rfl
@[simp] theorem State.setPort_relay (s : State) (p : Port) (x : PortState) :
    (s.setPort p x).relay = s.relay := rfl
@[simp] theorem State.setPort_consist (s : State) (p : Port) (x : PortState) :
    (s.setPort p x).consist = s.consist := rfl
@[simp] theorem State.setPort_door (s : State) (p : Port) (x : PortState) :
    (s.setPort p x).door = s.door := rfl
@[simp] theorem State.setPort_heat (s : State) (p : Port) (x : PortState) :
    (s.setPort p x).heat = s.heat := rfl
@[simp] theorem State.setPort_lines (s : State) (p : Port) (x : PortState) :
    (s.setPort p x).lines = s.lines := rfl
@[simp] theorem State.setPort_timers (s : State) (p : Port) (x : PortState) :
    (s.setPort p x).timers = s.timers := rfl
@[simp] theorem State.setPort_faults (s : State) (p : Port) (x : PortState) :
    (s.setPort p x).faults = s.faults := rfl
@[simp] theorem State.setPort_mgmt (s : State) (p : Port) (x : PortState) :
    (s.setPort p x).mgmt = s.mgmt := rfl

@[simp] theorem State.setSide_pending (s : State) (d : Side) (x : SideRecord) :
    (s.setSide d x).pending = s.pending := rfl
@[simp] theorem State.setSide_identity (s : State) (d : Side) (x : SideRecord) :
    (s.setSide d x).identity = s.identity := rfl
@[simp] theorem State.setSide_bypass (s : State) (d : Side) (x : SideRecord) :
    (s.setSide d x).bypass = s.bypass := rfl
@[simp] theorem State.setSide_ports (s : State) (d : Side) (x : SideRecord) :
    (s.setSide d x).ports = s.ports := rfl
@[simp] theorem State.setSide_relay (s : State) (d : Side) (x : SideRecord) :
    (s.setSide d x).relay = s.relay := rfl
@[simp] theorem State.setSide_consist (s : State) (d : Side) (x : SideRecord) :
    (s.setSide d x).consist = s.consist := rfl
@[simp] theorem State.setSide_door (s : State) (d : Side) (x : SideRecord) :
    (s.setSide d x).door = { s.door with sides := s.door.sides.set d x } := rfl
@[simp] theorem State.setSide_heat (s : State) (d : Side) (x : SideRecord) :
    (s.setSide d x).heat = s.heat := rfl
@[simp] theorem State.setSide_lines (s : State) (d : Side) (x : SideRecord) :
    (s.setSide d x).lines = s.lines := rfl
@[simp] theorem State.setSide_timers (s : State) (d : Side) (x : SideRecord) :
    (s.setSide d x).timers = s.timers := rfl
@[simp] theorem State.setSide_faults (s : State) (d : Side) (x : SideRecord) :
    (s.setSide d x).faults = s.faults := rfl
@[simp] theorem State.setSide_mgmt (s : State) (d : Side) (x : SideRecord) :
    (s.setSide d x).mgmt = s.mgmt := rfl

@[simp] theorem State.setCount_pending (s : State) (t : TimerId) (v : Option Nat) :
    (s.setCount t v).pending = s.pending := rfl
@[simp] theorem State.setCount_identity (s : State) (t : TimerId) (v : Option Nat) :
    (s.setCount t v).identity = s.identity := rfl
@[simp] theorem State.setCount_bypass (s : State) (t : TimerId) (v : Option Nat) :
    (s.setCount t v).bypass = s.bypass := rfl
@[simp] theorem State.setCount_ports (s : State) (t : TimerId) (v : Option Nat) :
    (s.setCount t v).ports = s.ports := rfl
@[simp] theorem State.setCount_relay (s : State) (t : TimerId) (v : Option Nat) :
    (s.setCount t v).relay = s.relay := rfl
@[simp] theorem State.setCount_consist (s : State) (t : TimerId) (v : Option Nat) :
    (s.setCount t v).consist = s.consist := rfl
@[simp] theorem State.setCount_door (s : State) (t : TimerId) (v : Option Nat) :
    (s.setCount t v).door = s.door := rfl
@[simp] theorem State.setCount_heat (s : State) (t : TimerId) (v : Option Nat) :
    (s.setCount t v).heat = s.heat := rfl
@[simp] theorem State.setCount_lines (s : State) (t : TimerId) (v : Option Nat) :
    (s.setCount t v).lines = s.lines := rfl
@[simp] theorem State.setCount_timers (s : State) (t : TimerId) (v : Option Nat) :
    (s.setCount t v).timers = { s.timers with counts := s.timers.counts.set t v } := rfl
@[simp] theorem State.setCount_faults (s : State) (t : TimerId) (v : Option Nat) :
    (s.setCount t v).faults = s.faults := rfl
@[simp] theorem State.setCount_mgmt (s : State) (t : TimerId) (v : Option Nat) :
    (s.setCount t v).mgmt = s.mgmt := rfl

@[simp] theorem State.setQueues_pending (s : State) (p : Port) (x : Queues) :
    (s.setQueues p x).pending = s.pending := rfl
@[simp] theorem State.setQueues_identity (s : State) (p : Port) (x : Queues) :
    (s.setQueues p x).identity = s.identity := rfl
@[simp] theorem State.setQueues_bypass (s : State) (p : Port) (x : Queues) :
    (s.setQueues p x).bypass = s.bypass := rfl
@[simp] theorem State.setQueues_ports (s : State) (p : Port) (x : Queues) :
    (s.setQueues p x).ports = s.ports := rfl
@[simp] theorem State.setQueues_relay (s : State) (p : Port) (x : Queues) :
    (s.setQueues p x).relay = { s.relay with queues := s.relay.queues.set p x } := rfl
@[simp] theorem State.setQueues_consist (s : State) (p : Port) (x : Queues) :
    (s.setQueues p x).consist = s.consist := rfl
@[simp] theorem State.setQueues_door (s : State) (p : Port) (x : Queues) :
    (s.setQueues p x).door = s.door := rfl
@[simp] theorem State.setQueues_heat (s : State) (p : Port) (x : Queues) :
    (s.setQueues p x).heat = s.heat := rfl
@[simp] theorem State.setQueues_lines (s : State) (p : Port) (x : Queues) :
    (s.setQueues p x).lines = s.lines := rfl
@[simp] theorem State.setQueues_timers (s : State) (p : Port) (x : Queues) :
    (s.setQueues p x).timers = s.timers := rfl
@[simp] theorem State.setQueues_faults (s : State) (p : Port) (x : Queues) :
    (s.setQueues p x).faults = s.faults := rfl
@[simp] theorem State.setQueues_mgmt (s : State) (p : Port) (x : Queues) :
    (s.setQueues p x).mgmt = s.mgmt := rfl

@[simp] theorem State.setTapQueue_pending (s : State) (x : List Frame) :
    (s.setTapQueue x).pending = s.pending := rfl
@[simp] theorem State.setTapQueue_identity (s : State) (x : List Frame) :
    (s.setTapQueue x).identity = s.identity := rfl
@[simp] theorem State.setTapQueue_bypass (s : State) (x : List Frame) :
    (s.setTapQueue x).bypass = s.bypass := rfl
@[simp] theorem State.setTapQueue_ports (s : State) (x : List Frame) :
    (s.setTapQueue x).ports = s.ports := rfl
@[simp] theorem State.setTapQueue_relay (s : State) (x : List Frame) :
    (s.setTapQueue x).relay = { s.relay with tapQueue := x } := rfl
@[simp] theorem State.setTapQueue_consist (s : State) (x : List Frame) :
    (s.setTapQueue x).consist = s.consist := rfl
@[simp] theorem State.setTapQueue_door (s : State) (x : List Frame) :
    (s.setTapQueue x).door = s.door := rfl
@[simp] theorem State.setTapQueue_heat (s : State) (x : List Frame) :
    (s.setTapQueue x).heat = s.heat := rfl
@[simp] theorem State.setTapQueue_lines (s : State) (x : List Frame) :
    (s.setTapQueue x).lines = s.lines := rfl
@[simp] theorem State.setTapQueue_timers (s : State) (x : List Frame) :
    (s.setTapQueue x).timers = s.timers := rfl
@[simp] theorem State.setTapQueue_faults (s : State) (x : List Frame) :
    (s.setTapQueue x).faults = s.faults := rfl
@[simp] theorem State.setTapQueue_mgmt (s : State) (x : List Frame) :
    (s.setTapQueue x).mgmt = s.mgmt := rfl

@[simp] theorem State.setLine_pending (s : State) (n : Nat) (x : LineRecord) :
    (s.setLine n x).pending = s.pending := rfl
@[simp] theorem State.setLine_identity (s : State) (n : Nat) (x : LineRecord) :
    (s.setLine n x).identity = s.identity := rfl
@[simp] theorem State.setLine_bypass (s : State) (n : Nat) (x : LineRecord) :
    (s.setLine n x).bypass = s.bypass := rfl
@[simp] theorem State.setLine_ports (s : State) (n : Nat) (x : LineRecord) :
    (s.setLine n x).ports = s.ports := rfl
@[simp] theorem State.setLine_relay (s : State) (n : Nat) (x : LineRecord) :
    (s.setLine n x).relay = s.relay := rfl
@[simp] theorem State.setLine_consist (s : State) (n : Nat) (x : LineRecord) :
    (s.setLine n x).consist = s.consist := rfl
@[simp] theorem State.setLine_door (s : State) (n : Nat) (x : LineRecord) :
    (s.setLine n x).door = s.door := rfl
@[simp] theorem State.setLine_heat (s : State) (n : Nat) (x : LineRecord) :
    (s.setLine n x).heat = s.heat := rfl
@[simp] theorem State.setLine_lines (s : State) (n : Nat) (x : LineRecord) :
    (s.setLine n x).lines = { s.lines with line := s.lines.line.set n x } := rfl
@[simp] theorem State.setLine_timers (s : State) (n : Nat) (x : LineRecord) :
    (s.setLine n x).timers = s.timers := rfl
@[simp] theorem State.setLine_faults (s : State) (n : Nat) (x : LineRecord) :
    (s.setLine n x).faults = s.faults := rfl
@[simp] theorem State.setLine_mgmt (s : State) (n : Nat) (x : LineRecord) :
    (s.setLine n x).mgmt = s.mgmt := rfl

/-! ### Reading back -/

@[simp] theorem PerPort.get_set {α : Type} (x : PerPort α) (p : Port) (v : α) : (x.set p v).get p = v := by
  cases p <;> rfl

@[simp] theorem PerPort.get_set_other {α : Type} (x : PerPort α) (p : Port) (v : α) :
    (x.set p v).get p.other = x.get p.other := by
  cases p <;> rfl

@[simp] theorem PerPort.get_other_set {α : Type} (x : PerPort α) (p : Port) (v : α) :
    (x.set p.other v).get p = x.get p := by
  cases p <;> rfl

@[simp] theorem PerPort.set_get {α : Type} (x : PerPort α) (p : Port) : x.set p (x.get p) = x := by
  cases p <;> rfl

@[simp] theorem PerPort.set_set {α : Type} (x : PerPort α) (p : Port) (v w : α) :
    (x.set p v).set p w = x.set p w := by
  cases p <;> rfl

@[simp] theorem PerSide.get_set {α : Type} (x : PerSide α) (d : Side) (v : α) : (x.set d v).get d = v := by
  cases d <;> rfl

@[simp] theorem PerSide.set_get {α : Type} (x : PerSide α) (d : Side) : x.set d (x.get d) = x := by
  cases d <;> rfl

@[simp] theorem PerSide.set_set {α : Type} (x : PerSide α) (d : Side) (v w : α) :
    (x.set d v).set d w = x.set d w := by
  cases d <;> rfl

theorem PerSide.get_set_ne {α : Type} (x : PerSide α) {d e : Side} (h : e ≠ d) (v : α) :
    (x.set d v).get e = x.get e := by
  cases d <;> cases e <;> first | rfl | exact absurd rfl h

@[simp] theorem Port.other_other (p : Port) : p.other.other = p := by cases p <;> rfl

@[simp] theorem Port.other_ne (p : Port) : p.other ≠ p := by cases p <;> decide

@[simp] theorem Counts.get_set (c : Counts) (t : TimerId) (v : Option Nat) : (c.set t v).get t = v := by
  cases t <;> simp [Counts.get, Counts.set]

theorem Counts.get_set_ne (c : Counts) {t u : TimerId} (h : u ≠ t) (v : Option Nat) :
    (c.set t v).get u = c.get u := by
  cases t with
  | t0 p => cases u <;> first | rfl | (rename_i q; cases p <;> cases q <;> first | rfl | exact absurd rfl h)
  | t1 p => cases u <;> first | rfl | (rename_i q; cases p <;> cases q <;> first | rfl | exact absurd rfl h)
  | t10 d => cases u <;> first | rfl | (rename_i e; cases d <;> cases e <;> first | rfl | exact absurd rfl h)
  | _ => cases u <;> first | rfl | exact absurd rfl h

@[simp] theorem Queues.get_set (x : Queues) (l : Level) (v : List Queued) : (x.set l v).get l = v := by
  cases l <;> rfl

@[simp] theorem State.port_setPort (s : State) (p : Port) (x : PortState) : (s.setPort p x).port p = x := by
  simp [State.port]

@[simp] theorem State.port_setPort_other (s : State) (p : Port) (x : PortState) :
    (s.setPort p x).port p.other = s.port p.other := by
  simp [State.port]

@[simp] theorem State.side_setSide (s : State) (d : Side) (x : SideRecord) : (s.setSide d x).side d = x := by
  simp [State.side]

theorem State.side_setSide_ne (s : State) {d e : Side} (h : e ≠ d) (x : SideRecord) :
    (s.setSide d x).side e = s.side e := PerSide.get_set_ne _ h _

@[simp] theorem State.count_setCount (s : State) (t : TimerId) (v : Option Nat) : (s.setCount t v).count t = v := by
  simp [State.count]

theorem State.count_setCount_ne (s : State) {t u : TimerId} (h : u ≠ t) (v : Option Nat) :
    (s.setCount t v).count u = s.count u := Counts.get_set_ne _ h _

@[simp] theorem State.queues_setQueues (s : State) (p : Port) (x : Queues) : (s.setQueues p x).queues p = x := by
  simp [State.queues]

@[simp] theorem State.queues_setQueues_other (s : State) (p : Port) (x : Queues) :
    (s.setQueues p x).queues p.other = s.queues p.other := by
  simp [State.queues]

@[simp] theorem State.tapQueue_setTapQueue (s : State) (x : List Frame) :
    (s.setTapQueue x).relay.tapQueue = x := rfl


/-! ### What is read from another block -/

@[simp] theorem State.port_setPending (s : State) (x : List Instr) (p : Port) :
    (s.setPending x).port p = s.port p := rfl
@[simp] theorem State.port_setBypass (s : State) (x : BypassHold) (p : Port) :
    (s.setBypass x).port p = s.port p := rfl
@[simp] theorem State.port_setRelay (s : State) (x : RelayUnit) (p : Port) :
    (s.setRelay x).port p = s.port p := rfl
@[simp] theorem State.port_setConsist (s : State) (x : ConsistUnit) (p : Port) :
    (s.setConsist x).port p = s.port p := rfl
@[simp] theorem State.port_setDoor (s : State) (x : DoorUnit) (p : Port) :
    (s.setDoor x).port p = s.port p := rfl
@[simp] theorem State.port_setHeat (s : State) (x : HeatUnit) (p : Port) :
    (s.setHeat x).port p = s.port p := rfl
@[simp] theorem State.port_setLines (s : State) (x : LineUnit) (p : Port) :
    (s.setLines x).port p = s.port p := rfl
@[simp] theorem State.port_setTimers (s : State) (x : TimerUnit) (p : Port) :
    (s.setTimers x).port p = s.port p := rfl
@[simp] theorem State.port_setFaults (s : State) (x : FaultTable) (p : Port) :
    (s.setFaults x).port p = s.port p := rfl
@[simp] theorem State.port_setMgmt (s : State) (x : ManagementUnit) (p : Port) :
    (s.setMgmt x).port p = s.port p := rfl
@[simp] theorem State.port_setSide (s : State) (e : Side) (x : SideRecord) (p : Port) :
    (s.setSide e x).port p = s.port p := rfl
@[simp] theorem State.port_setCount (s : State) (u : TimerId) (v : Option Nat) (p : Port) :
    (s.setCount u v).port p = s.port p := rfl
@[simp] theorem State.port_setQueues (s : State) (q : Port) (x : Queues) (p : Port) :
    (s.setQueues q x).port p = s.port p := rfl
@[simp] theorem State.port_setTapQueue (s : State) (x : List Frame) (p : Port) :
    (s.setTapQueue x).port p = s.port p := rfl
@[simp] theorem State.port_setLine (s : State) (n : Nat) (x : LineRecord) (p : Port) :
    (s.setLine n x).port p = s.port p := rfl

@[simp] theorem State.isUp_setPending (s : State) (x : List Instr) (p : Port) :
    (s.setPending x).isUp p = s.isUp p := rfl
@[simp] theorem State.isUp_setBypass (s : State) (x : BypassHold) (p : Port) :
    (s.setBypass x).isUp p = s.isUp p := rfl
@[simp] theorem State.isUp_setRelay (s : State) (x : RelayUnit) (p : Port) :
    (s.setRelay x).isUp p = s.isUp p := rfl
@[simp] theorem State.isUp_setConsist (s : State) (x : ConsistUnit) (p : Port) :
    (s.setConsist x).isUp p = s.isUp p := rfl
@[simp] theorem State.isUp_setDoor (s : State) (x : DoorUnit) (p : Port) :
    (s.setDoor x).isUp p = s.isUp p := rfl
@[simp] theorem State.isUp_setHeat (s : State) (x : HeatUnit) (p : Port) :
    (s.setHeat x).isUp p = s.isUp p := rfl
@[simp] theorem State.isUp_setLines (s : State) (x : LineUnit) (p : Port) :
    (s.setLines x).isUp p = s.isUp p := rfl
@[simp] theorem State.isUp_setTimers (s : State) (x : TimerUnit) (p : Port) :
    (s.setTimers x).isUp p = s.isUp p := rfl
@[simp] theorem State.isUp_setFaults (s : State) (x : FaultTable) (p : Port) :
    (s.setFaults x).isUp p = s.isUp p := rfl
@[simp] theorem State.isUp_setMgmt (s : State) (x : ManagementUnit) (p : Port) :
    (s.setMgmt x).isUp p = s.isUp p := rfl
@[simp] theorem State.isUp_setSide (s : State) (e : Side) (x : SideRecord) (p : Port) :
    (s.setSide e x).isUp p = s.isUp p := rfl
@[simp] theorem State.isUp_setCount (s : State) (u : TimerId) (v : Option Nat) (p : Port) :
    (s.setCount u v).isUp p = s.isUp p := rfl
@[simp] theorem State.isUp_setQueues (s : State) (q : Port) (x : Queues) (p : Port) :
    (s.setQueues q x).isUp p = s.isUp p := rfl
@[simp] theorem State.isUp_setTapQueue (s : State) (x : List Frame) (p : Port) :
    (s.setTapQueue x).isUp p = s.isUp p := rfl
@[simp] theorem State.isUp_setLine (s : State) (n : Nat) (x : LineRecord) (p : Port) :
    (s.setLine n x).isUp p = s.isUp p := rfl

@[simp] theorem State.upPorts_setPending (s : State) (x : List Instr) :
    (s.setPending x).upPorts = s.upPorts := rfl
@[simp] theorem State.upPorts_setBypass (s : State) (x : BypassHold) :
    (s.setBypass x).upPorts = s.upPorts := rfl
@[simp] theorem State.upPorts_setRelay (s : State) (x : RelayUnit) :
    (s.setRelay x).upPorts = s.upPorts := rfl
@[simp] theorem State.upPorts_setConsist (s : State) (x : ConsistUnit) :
    (s.setConsist x).upPorts = s.upPorts := rfl
@[simp] theorem State.upPorts_setDoor (s : State) (x : DoorUnit) :
    (s.setDoor x).upPorts = s.upPorts := rfl
@[simp] theorem State.upPorts_setHeat (s : State) (x : HeatUnit) :
    (s.setHeat x).upPorts = s.upPorts := rfl
@[simp] theorem State.upPorts_setLines (s : State) (x : LineUnit) :
    (s.setLines x).upPorts = s.upPorts := rfl
@[simp] theorem State.upPorts_setTimers (s : State) (x : TimerUnit) :
    (s.setTimers x).upPorts = s.upPorts := rfl
@[simp] theorem State.upPorts_setFaults (s : State) (x : FaultTable) :
    (s.setFaults x).upPorts = s.upPorts := rfl
@[simp] theorem State.upPorts_setMgmt (s : State) (x : ManagementUnit) :
    (s.setMgmt x).upPorts = s.upPorts := rfl
@[simp] theorem State.upPorts_setSide (s : State) (e : Side) (x : SideRecord) :
    (s.setSide e x).upPorts = s.upPorts := rfl
@[simp] theorem State.upPorts_setCount (s : State) (u : TimerId) (v : Option Nat) :
    (s.setCount u v).upPorts = s.upPorts := rfl
@[simp] theorem State.upPorts_setQueues (s : State) (q : Port) (x : Queues) :
    (s.setQueues q x).upPorts = s.upPorts := rfl
@[simp] theorem State.upPorts_setTapQueue (s : State) (x : List Frame) :
    (s.setTapQueue x).upPorts = s.upPorts := rfl
@[simp] theorem State.upPorts_setLine (s : State) (n : Nat) (x : LineRecord) :
    (s.setLine n x).upPorts = s.upPorts := rfl

@[simp] theorem State.queues_setPending (s : State) (x : List Instr) (p : Port) :
    (s.setPending x).queues p = s.queues p := rfl
@[simp] theorem State.queues_setBypass (s : State) (x : BypassHold) (p : Port) :
    (s.setBypass x).queues p = s.queues p := rfl
@[simp] theorem State.queues_setPorts (s : State) (x : PerPort PortState) (p : Port) :
    (s.setPorts x).queues p = s.queues p := rfl
@[simp] theorem State.queues_setConsist (s : State) (x : ConsistUnit) (p : Port) :
    (s.setConsist x).queues p = s.queues p := rfl
@[simp] theorem State.queues_setDoor (s : State) (x : DoorUnit) (p : Port) :
    (s.setDoor x).queues p = s.queues p := rfl
@[simp] theorem State.queues_setHeat (s : State) (x : HeatUnit) (p : Port) :
    (s.setHeat x).queues p = s.queues p := rfl
@[simp] theorem State.queues_setLines (s : State) (x : LineUnit) (p : Port) :
    (s.setLines x).queues p = s.queues p := rfl
@[simp] theorem State.queues_setTimers (s : State) (x : TimerUnit) (p : Port) :
    (s.setTimers x).queues p = s.queues p := rfl
@[simp] theorem State.queues_setFaults (s : State) (x : FaultTable) (p : Port) :
    (s.setFaults x).queues p = s.queues p := rfl
@[simp] theorem State.queues_setMgmt (s : State) (x : ManagementUnit) (p : Port) :
    (s.setMgmt x).queues p = s.queues p := rfl
@[simp] theorem State.queues_setPort (s : State) (q : Port) (x : PortState) (p : Port) :
    (s.setPort q x).queues p = s.queues p := rfl
@[simp] theorem State.queues_setSide (s : State) (e : Side) (x : SideRecord) (p : Port) :
    (s.setSide e x).queues p = s.queues p := rfl
@[simp] theorem State.queues_setCount (s : State) (u : TimerId) (v : Option Nat) (p : Port) :
    (s.setCount u v).queues p = s.queues p := rfl
@[simp] theorem State.queues_setLine (s : State) (n : Nat) (x : LineRecord) (p : Port) :
    (s.setLine n x).queues p = s.queues p := rfl

@[simp] theorem State.side_setPending (s : State) (x : List Instr) (d : Side) :
    (s.setPending x).side d = s.side d := rfl
@[simp] theorem State.side_setBypass (s : State) (x : BypassHold) (d : Side) :
    (s.setBypass x).side d = s.side d := rfl
@[simp] theorem State.side_setPorts (s : State) (x : PerPort PortState) (d : Side) :
    (s.setPorts x).side d = s.side d := rfl
@[simp] theorem State.side_setRelay (s : State) (x : RelayUnit) (d : Side) :
    (s.setRelay x).side d = s.side d := rfl
@[simp] theorem State.side_setConsist (s : State) (x : ConsistUnit) (d : Side) :
    (s.setConsist x).side d = s.side d := rfl
@[simp] theorem State.side_setHeat (s : State) (x : HeatUnit) (d : Side) :
    (s.setHeat x).side d = s.side d := rfl
@[simp] theorem State.side_setLines (s : State) (x : LineUnit) (d : Side) :
    (s.setLines x).side d = s.side d := rfl
@[simp] theorem State.side_setTimers (s : State) (x : TimerUnit) (d : Side) :
    (s.setTimers x).side d = s.side d := rfl
@[simp] theorem State.side_setFaults (s : State) (x : FaultTable) (d : Side) :
    (s.setFaults x).side d = s.side d := rfl
@[simp] theorem State.side_setMgmt (s : State) (x : ManagementUnit) (d : Side) :
    (s.setMgmt x).side d = s.side d := rfl
@[simp] theorem State.side_setPort (s : State) (q : Port) (x : PortState) (d : Side) :
    (s.setPort q x).side d = s.side d := rfl
@[simp] theorem State.side_setCount (s : State) (u : TimerId) (v : Option Nat) (d : Side) :
    (s.setCount u v).side d = s.side d := rfl
@[simp] theorem State.side_setQueues (s : State) (q : Port) (x : Queues) (d : Side) :
    (s.setQueues q x).side d = s.side d := rfl
@[simp] theorem State.side_setTapQueue (s : State) (x : List Frame) (d : Side) :
    (s.setTapQueue x).side d = s.side d := rfl
@[simp] theorem State.side_setLine (s : State) (n : Nat) (x : LineRecord) (d : Side) :
    (s.setLine n x).side d = s.side d := rfl

@[simp] theorem State.count_setPending (s : State) (x : List Instr) (t : TimerId) :
    (s.setPending x).count t = s.count t := rfl
@[simp] theorem State.count_setBypass (s : State) (x : BypassHold) (t : TimerId) :
    (s.setBypass x).count t = s.count t := rfl
@[simp] theorem State.count_setPorts (s : State) (x : PerPort PortState) (t : TimerId) :
    (s.setPorts x).count t = s.count t := rfl
@[simp] theorem State.count_setRelay (s : State) (x : RelayUnit) (t : TimerId) :
    (s.setRelay x).count t = s.count t := rfl
@[simp] theorem State.count_setConsist (s : State) (x : ConsistUnit) (t : TimerId) :
    (s.setConsist x).count t = s.count t := rfl
@[simp] theorem State.count_setDoor (s : State) (x : DoorUnit) (t : TimerId) :
    (s.setDoor x).count t = s.count t := rfl
@[simp] theorem State.count_setHeat (s : State) (x : HeatUnit) (t : TimerId) :
    (s.setHeat x).count t = s.count t := rfl
@[simp] theorem State.count_setLines (s : State) (x : LineUnit) (t : TimerId) :
    (s.setLines x).count t = s.count t := rfl
@[simp] theorem State.count_setFaults (s : State) (x : FaultTable) (t : TimerId) :
    (s.setFaults x).count t = s.count t := rfl
@[simp] theorem State.count_setMgmt (s : State) (x : ManagementUnit) (t : TimerId) :
    (s.setMgmt x).count t = s.count t := rfl
@[simp] theorem State.count_setPort (s : State) (q : Port) (x : PortState) (t : TimerId) :
    (s.setPort q x).count t = s.count t := rfl
@[simp] theorem State.count_setSide (s : State) (e : Side) (x : SideRecord) (t : TimerId) :
    (s.setSide e x).count t = s.count t := rfl
@[simp] theorem State.count_setQueues (s : State) (q : Port) (x : Queues) (t : TimerId) :
    (s.setQueues q x).count t = s.count t := rfl
@[simp] theorem State.count_setTapQueue (s : State) (x : List Frame) (t : TimerId) :
    (s.setTapQueue x).count t = s.count t := rfl
@[simp] theorem State.count_setLine (s : State) (n : Nat) (x : LineRecord) (t : TimerId) :
    (s.setLine n x).count t = s.count t := rfl

@[simp] theorem State.operating_setPending (s : State) (x : List Instr) :
    (s.setPending x).operating = s.operating := rfl
@[simp] theorem State.operating_setPorts (s : State) (x : PerPort PortState) :
    (s.setPorts x).operating = s.operating := rfl
@[simp] theorem State.operating_setRelay (s : State) (x : RelayUnit) :
    (s.setRelay x).operating = s.operating := rfl
@[simp] theorem State.operating_setConsist (s : State) (x : ConsistUnit) :
    (s.setConsist x).operating = s.operating := rfl
@[simp] theorem State.operating_setDoor (s : State) (x : DoorUnit) :
    (s.setDoor x).operating = s.operating := rfl
@[simp] theorem State.operating_setHeat (s : State) (x : HeatUnit) :
    (s.setHeat x).operating = s.operating := rfl
@[simp] theorem State.operating_setLines (s : State) (x : LineUnit) :
    (s.setLines x).operating = s.operating := rfl
@[simp] theorem State.operating_setTimers (s : State) (x : TimerUnit) :
    (s.setTimers x).operating = s.operating := rfl
@[simp] theorem State.operating_setFaults (s : State) (x : FaultTable) :
    (s.setFaults x).operating = s.operating := rfl
@[simp] theorem State.operating_setMgmt (s : State) (x : ManagementUnit) :
    (s.setMgmt x).operating = s.operating := rfl
@[simp] theorem State.operating_setPort (s : State) (q : Port) (x : PortState) :
    (s.setPort q x).operating = s.operating := rfl
@[simp] theorem State.operating_setSide (s : State) (e : Side) (x : SideRecord) :
    (s.setSide e x).operating = s.operating := rfl
@[simp] theorem State.operating_setCount (s : State) (u : TimerId) (v : Option Nat) :
    (s.setCount u v).operating = s.operating := rfl
@[simp] theorem State.operating_setQueues (s : State) (q : Port) (x : Queues) :
    (s.setQueues q x).operating = s.operating := rfl
@[simp] theorem State.operating_setTapQueue (s : State) (x : List Frame) :
    (s.setTapQueue x).operating = s.operating := rfl
@[simp] theorem State.operating_setLine (s : State) (n : Nat) (x : LineRecord) :
    (s.setLine n x).operating = s.operating := rfl

@[simp] theorem State.isMaster_setPending (s : State) (x : List Instr) :
    (s.setPending x).isMaster = s.isMaster := rfl
@[simp] theorem State.isMaster_setBypass (s : State) (x : BypassHold) :
    (s.setBypass x).isMaster = s.isMaster := rfl
@[simp] theorem State.isMaster_setPorts (s : State) (x : PerPort PortState) :
    (s.setPorts x).isMaster = s.isMaster := rfl
@[simp] theorem State.isMaster_setRelay (s : State) (x : RelayUnit) :
    (s.setRelay x).isMaster = s.isMaster := rfl
@[simp] theorem State.isMaster_setDoor (s : State) (x : DoorUnit) :
    (s.setDoor x).isMaster = s.isMaster := rfl
@[simp] theorem State.isMaster_setHeat (s : State) (x : HeatUnit) :
    (s.setHeat x).isMaster = s.isMaster := rfl
@[simp] theorem State.isMaster_setLines (s : State) (x : LineUnit) :
    (s.setLines x).isMaster = s.isMaster := rfl
@[simp] theorem State.isMaster_setTimers (s : State) (x : TimerUnit) :
    (s.setTimers x).isMaster = s.isMaster := rfl
@[simp] theorem State.isMaster_setFaults (s : State) (x : FaultTable) :
    (s.setFaults x).isMaster = s.isMaster := rfl
@[simp] theorem State.isMaster_setMgmt (s : State) (x : ManagementUnit) :
    (s.setMgmt x).isMaster = s.isMaster := rfl
@[simp] theorem State.isMaster_setPort (s : State) (q : Port) (x : PortState) :
    (s.setPort q x).isMaster = s.isMaster := rfl
@[simp] theorem State.isMaster_setSide (s : State) (e : Side) (x : SideRecord) :
    (s.setSide e x).isMaster = s.isMaster := rfl
@[simp] theorem State.isMaster_setCount (s : State) (u : TimerId) (v : Option Nat) :
    (s.setCount u v).isMaster = s.isMaster := rfl
@[simp] theorem State.isMaster_setQueues (s : State) (q : Port) (x : Queues) :
    (s.setQueues q x).isMaster = s.isMaster := rfl
@[simp] theorem State.isMaster_setTapQueue (s : State) (x : List Frame) :
    (s.setTapQueue x).isMaster = s.isMaster := rfl
@[simp] theorem State.isMaster_setLine (s : State) (n : Nat) (x : LineRecord) :
    (s.setLine n x).isMaster = s.isMaster := rfl

@[simp] theorem State.stableMaster_setPending (s : State) (x : List Instr) :
    (s.setPending x).stableMaster = s.stableMaster := rfl
@[simp] theorem State.stableMaster_setBypass (s : State) (x : BypassHold) :
    (s.setBypass x).stableMaster = s.stableMaster := rfl
@[simp] theorem State.stableMaster_setPorts (s : State) (x : PerPort PortState) :
    (s.setPorts x).stableMaster = s.stableMaster := rfl
@[simp] theorem State.stableMaster_setRelay (s : State) (x : RelayUnit) :
    (s.setRelay x).stableMaster = s.stableMaster := rfl
@[simp] theorem State.stableMaster_setDoor (s : State) (x : DoorUnit) :
    (s.setDoor x).stableMaster = s.stableMaster := rfl
@[simp] theorem State.stableMaster_setHeat (s : State) (x : HeatUnit) :
    (s.setHeat x).stableMaster = s.stableMaster := rfl
@[simp] theorem State.stableMaster_setLines (s : State) (x : LineUnit) :
    (s.setLines x).stableMaster = s.stableMaster := rfl
@[simp] theorem State.stableMaster_setTimers (s : State) (x : TimerUnit) :
    (s.setTimers x).stableMaster = s.stableMaster := rfl
@[simp] theorem State.stableMaster_setFaults (s : State) (x : FaultTable) :
    (s.setFaults x).stableMaster = s.stableMaster := rfl
@[simp] theorem State.stableMaster_setMgmt (s : State) (x : ManagementUnit) :
    (s.setMgmt x).stableMaster = s.stableMaster := rfl
@[simp] theorem State.stableMaster_setPort (s : State) (q : Port) (x : PortState) :
    (s.setPort q x).stableMaster = s.stableMaster := rfl
@[simp] theorem State.stableMaster_setSide (s : State) (e : Side) (x : SideRecord) :
    (s.setSide e x).stableMaster = s.stableMaster := rfl
@[simp] theorem State.stableMaster_setCount (s : State) (u : TimerId) (v : Option Nat) :
    (s.setCount u v).stableMaster = s.stableMaster := rfl
@[simp] theorem State.stableMaster_setQueues (s : State) (q : Port) (x : Queues) :
    (s.setQueues q x).stableMaster = s.stableMaster := rfl
@[simp] theorem State.stableMaster_setTapQueue (s : State) (x : List Frame) :
    (s.setTapQueue x).stableMaster = s.stableMaster := rfl
@[simp] theorem State.stableMaster_setLine (s : State) (n : Nat) (x : LineRecord) :
    (s.setLine n x).stableMaster = s.stableMaster := rfl

@[simp] theorem State.present_setPending (s : State) (x : List Instr) (f : LineFunction) :
    (s.setPending x).present f = s.present f := rfl
@[simp] theorem State.present_setBypass (s : State) (x : BypassHold) (f : LineFunction) :
    (s.setBypass x).present f = s.present f := rfl
@[simp] theorem State.present_setPorts (s : State) (x : PerPort PortState) (f : LineFunction) :
    (s.setPorts x).present f = s.present f := rfl
@[simp] theorem State.present_setRelay (s : State) (x : RelayUnit) (f : LineFunction) :
    (s.setRelay x).present f = s.present f := rfl
@[simp] theorem State.present_setConsist (s : State) (x : ConsistUnit) (f : LineFunction) :
    (s.setConsist x).present f = s.present f := rfl
@[simp] theorem State.present_setDoor (s : State) (x : DoorUnit) (f : LineFunction) :
    (s.setDoor x).present f = s.present f := rfl
@[simp] theorem State.present_setHeat (s : State) (x : HeatUnit) (f : LineFunction) :
    (s.setHeat x).present f = s.present f := rfl
@[simp] theorem State.present_setTimers (s : State) (x : TimerUnit) (f : LineFunction) :
    (s.setTimers x).present f = s.present f := rfl
@[simp] theorem State.present_setFaults (s : State) (x : FaultTable) (f : LineFunction) :
    (s.setFaults x).present f = s.present f := rfl
@[simp] theorem State.present_setMgmt (s : State) (x : ManagementUnit) (f : LineFunction) :
    (s.setMgmt x).present f = s.present f := rfl
@[simp] theorem State.present_setPort (s : State) (q : Port) (x : PortState) (f : LineFunction) :
    (s.setPort q x).present f = s.present f := rfl
@[simp] theorem State.present_setSide (s : State) (e : Side) (x : SideRecord) (f : LineFunction) :
    (s.setSide e x).present f = s.present f := rfl
@[simp] theorem State.present_setCount (s : State) (u : TimerId) (v : Option Nat) (f : LineFunction) :
    (s.setCount u v).present f = s.present f := rfl
@[simp] theorem State.present_setQueues (s : State) (q : Port) (x : Queues) (f : LineFunction) :
    (s.setQueues q x).present f = s.present f := rfl
@[simp] theorem State.present_setTapQueue (s : State) (x : List Frame) (f : LineFunction) :
    (s.setTapQueue x).present f = s.present f := rfl

@[simp] theorem State.asserted_setPending (s : State) (x : List Instr) (f : LineFunction) :
    (s.setPending x).asserted f = s.asserted f := rfl
@[simp] theorem State.asserted_setBypass (s : State) (x : BypassHold) (f : LineFunction) :
    (s.setBypass x).asserted f = s.asserted f := rfl
@[simp] theorem State.asserted_setPorts (s : State) (x : PerPort PortState) (f : LineFunction) :
    (s.setPorts x).asserted f = s.asserted f := rfl
@[simp] theorem State.asserted_setRelay (s : State) (x : RelayUnit) (f : LineFunction) :
    (s.setRelay x).asserted f = s.asserted f := rfl
@[simp] theorem State.asserted_setConsist (s : State) (x : ConsistUnit) (f : LineFunction) :
    (s.setConsist x).asserted f = s.asserted f := rfl
@[simp] theorem State.asserted_setDoor (s : State) (x : DoorUnit) (f : LineFunction) :
    (s.setDoor x).asserted f = s.asserted f := rfl
@[simp] theorem State.asserted_setHeat (s : State) (x : HeatUnit) (f : LineFunction) :
    (s.setHeat x).asserted f = s.asserted f := rfl
@[simp] theorem State.asserted_setTimers (s : State) (x : TimerUnit) (f : LineFunction) :
    (s.setTimers x).asserted f = s.asserted f := rfl
@[simp] theorem State.asserted_setFaults (s : State) (x : FaultTable) (f : LineFunction) :
    (s.setFaults x).asserted f = s.asserted f := rfl
@[simp] theorem State.asserted_setMgmt (s : State) (x : ManagementUnit) (f : LineFunction) :
    (s.setMgmt x).asserted f = s.asserted f := rfl
@[simp] theorem State.asserted_setPort (s : State) (q : Port) (x : PortState) (f : LineFunction) :
    (s.setPort q x).asserted f = s.asserted f := rfl
@[simp] theorem State.asserted_setSide (s : State) (e : Side) (x : SideRecord) (f : LineFunction) :
    (s.setSide e x).asserted f = s.asserted f := rfl
@[simp] theorem State.asserted_setCount (s : State) (u : TimerId) (v : Option Nat) (f : LineFunction) :
    (s.setCount u v).asserted f = s.asserted f := rfl
@[simp] theorem State.asserted_setQueues (s : State) (q : Port) (x : Queues) (f : LineFunction) :
    (s.setQueues q x).asserted f = s.asserted f := rfl
@[simp] theorem State.asserted_setTapQueue (s : State) (x : List Frame) (f : LineFunction) :
    (s.setTapQueue x).asserted f = s.asserted f := rfl

end Sys2Proof.Machine
end

