-- ==== Sys2Proof/Laws/Ops.lean ====
section
/-! SUPPORT. The shared operations of Ops.lean: what each can do, and what it leaves unchanged. -/

namespace Sys2Proof.Machine

open Sys2Proof

@[simp] theorem startTimer_pending (t : TimerId) (s : State) : (startTimer t s).pending = s.pending := by
  simp [startTimer]
@[simp] theorem startTimer_identity (t : TimerId) (s : State) : (startTimer t s).identity = s.identity := by
  simp [startTimer]
@[simp] theorem startTimer_bypass (t : TimerId) (s : State) : (startTimer t s).bypass = s.bypass := by
  simp [startTimer]
@[simp] theorem startTimer_ports (t : TimerId) (s : State) : (startTimer t s).ports = s.ports := by
  simp [startTimer]
@[simp] theorem startTimer_relay (t : TimerId) (s : State) : (startTimer t s).relay = s.relay := by
  simp [startTimer]
@[simp] theorem startTimer_consist (t : TimerId) (s : State) : (startTimer t s).consist = s.consist := by
  simp [startTimer]
@[simp] theorem startTimer_door (t : TimerId) (s : State) : (startTimer t s).door = s.door := by
  simp [startTimer]
@[simp] theorem startTimer_heat (t : TimerId) (s : State) : (startTimer t s).heat = s.heat := by
  simp [startTimer]
@[simp] theorem startTimer_lines (t : TimerId) (s : State) : (startTimer t s).lines = s.lines := by
  simp [startTimer]
@[simp] theorem startTimer_faults (t : TimerId) (s : State) : (startTimer t s).faults = s.faults := by
  simp [startTimer]
@[simp] theorem startTimer_mgmt (t : TimerId) (s : State) : (startTimer t s).mgmt = s.mgmt := by
  simp [startTimer]

@[simp] theorem stopTimer_pending (t : TimerId) (s : State) : (stopTimer t s).pending = s.pending := by
  simp [stopTimer]
@[simp] theorem stopTimer_identity (t : TimerId) (s : State) : (stopTimer t s).identity = s.identity := by
  simp [stopTimer]
@[simp] theorem stopTimer_bypass (t : TimerId) (s : State) : (stopTimer t s).bypass = s.bypass := by
  simp [stopTimer]
@[simp] theorem stopTimer_ports (t : TimerId) (s : State) : (stopTimer t s).ports = s.ports := by
  simp [stopTimer]
@[simp] theorem stopTimer_relay (t : TimerId) (s : State) : (stopTimer t s).relay = s.relay := by
  simp [stopTimer]
@[simp] theorem stopTimer_consist (t : TimerId) (s : State) : (stopTimer t s).consist = s.consist := by
  simp [stopTimer]
@[simp] theorem stopTimer_door (t : TimerId) (s : State) : (stopTimer t s).door = s.door := by
  simp [stopTimer]
@[simp] theorem stopTimer_heat (t : TimerId) (s : State) : (stopTimer t s).heat = s.heat := by
  simp [stopTimer]
@[simp] theorem stopTimer_lines (t : TimerId) (s : State) : (stopTimer t s).lines = s.lines := by
  simp [stopTimer]
@[simp] theorem stopTimer_faults (t : TimerId) (s : State) : (stopTimer t s).faults = s.faults := by
  simp [stopTimer]
@[simp] theorem stopTimer_mgmt (t : TimerId) (s : State) : (stopTimer t s).mgmt = s.mgmt := by
  simp [stopTimer]

@[simp] theorem stopTimers_pending (l : List TimerId) (s : State) : (stopTimers l s).pending = s.pending := by
  unfold stopTimers; induction l generalizing s with
  | nil => rfl
  | cons x l ih => simp [ih]
@[simp] theorem stopTimers_identity (l : List TimerId) (s : State) : (stopTimers l s).identity = s.identity := by
  unfold stopTimers; induction l generalizing s with
  | nil => rfl
  | cons x l ih => simp [ih]
@[simp] theorem stopTimers_bypass (l : List TimerId) (s : State) : (stopTimers l s).bypass = s.bypass := by
  unfold stopTimers; induction l generalizing s with
  | nil => rfl
  | cons x l ih => simp [ih]
@[simp] theorem stopTimers_ports (l : List TimerId) (s : State) : (stopTimers l s).ports = s.ports := by
  unfold stopTimers; induction l generalizing s with
  | nil => rfl
  | cons x l ih => simp [ih]
@[simp] theorem stopTimers_relay (l : List TimerId) (s : State) : (stopTimers l s).relay = s.relay := by
  unfold stopTimers; induction l generalizing s with
  | nil => rfl
  | cons x l ih => simp [ih]
@[simp] theorem stopTimers_consist (l : List TimerId) (s : State) : (stopTimers l s).consist = s.consist := by
  unfold stopTimers; induction l generalizing s with
  | nil => rfl
  | cons x l ih => simp [ih]
@[simp] theorem stopTimers_door (l : List TimerId) (s : State) : (stopTimers l s).door = s.door := by
  unfold stopTimers; induction l generalizing s with
  | nil => rfl
  | cons x l ih => simp [ih]
@[simp] theorem stopTimers_heat (l : List TimerId) (s : State) : (stopTimers l s).heat = s.heat := by
  unfold stopTimers; induction l generalizing s with
  | nil => rfl
  | cons x l ih => simp [ih]
@[simp] theorem stopTimers_lines (l : List TimerId) (s : State) : (stopTimers l s).lines = s.lines := by
  unfold stopTimers; induction l generalizing s with
  | nil => rfl
  | cons x l ih => simp [ih]
@[simp] theorem stopTimers_faults (l : List TimerId) (s : State) : (stopTimers l s).faults = s.faults := by
  unfold stopTimers; induction l generalizing s with
  | nil => rfl
  | cons x l ih => simp [ih]
@[simp] theorem stopTimers_mgmt (l : List TimerId) (s : State) : (stopTimers l s).mgmt = s.mgmt := by
  unfold stopTimers; induction l generalizing s with
  | nil => rfl
  | cons x l ih => simp [ih]

@[simp] theorem takeExpiry_pending (t : TimerId) (s : State) : (takeExpiry t s).pending = s.pending := by
  simp only [takeExpiry]; split <;> simp
@[simp] theorem takeExpiry_identity (t : TimerId) (s : State) : (takeExpiry t s).identity = s.identity := by
  simp only [takeExpiry]; split <;> simp
@[simp] theorem takeExpiry_bypass (t : TimerId) (s : State) : (takeExpiry t s).bypass = s.bypass := by
  simp only [takeExpiry]; split <;> simp
@[simp] theorem takeExpiry_ports (t : TimerId) (s : State) : (takeExpiry t s).ports = s.ports := by
  simp only [takeExpiry]; split <;> simp
@[simp] theorem takeExpiry_relay (t : TimerId) (s : State) : (takeExpiry t s).relay = s.relay := by
  simp only [takeExpiry]; split <;> simp
@[simp] theorem takeExpiry_consist (t : TimerId) (s : State) : (takeExpiry t s).consist = s.consist := by
  simp only [takeExpiry]; split <;> simp
@[simp] theorem takeExpiry_door (t : TimerId) (s : State) : (takeExpiry t s).door = s.door := by
  simp only [takeExpiry]; split <;> simp
@[simp] theorem takeExpiry_heat (t : TimerId) (s : State) : (takeExpiry t s).heat = s.heat := by
  simp only [takeExpiry]; split <;> simp
@[simp] theorem takeExpiry_lines (t : TimerId) (s : State) : (takeExpiry t s).lines = s.lines := by
  simp only [takeExpiry]; split <;> simp
@[simp] theorem takeExpiry_faults (t : TimerId) (s : State) : (takeExpiry t s).faults = s.faults := by
  simp only [takeExpiry]; split <;> simp
@[simp] theorem takeExpiry_mgmt (t : TimerId) (s : State) : (takeExpiry t s).mgmt = s.mgmt := by
  simp only [takeExpiry]; split <;> simp

@[simp] theorem recordFault_pending (k : FaultKind) (src : FaultSource) (s : State) : (recordFault k src s).pending = s.pending := by
  simp [recordFault]
@[simp] theorem recordFault_identity (k : FaultKind) (src : FaultSource) (s : State) : (recordFault k src s).identity = s.identity := by
  simp [recordFault]
@[simp] theorem recordFault_bypass (k : FaultKind) (src : FaultSource) (s : State) : (recordFault k src s).bypass = s.bypass := by
  simp [recordFault]
@[simp] theorem recordFault_ports (k : FaultKind) (src : FaultSource) (s : State) : (recordFault k src s).ports = s.ports := by
  simp [recordFault]
@[simp] theorem recordFault_relay (k : FaultKind) (src : FaultSource) (s : State) : (recordFault k src s).relay = s.relay := by
  simp [recordFault]
@[simp] theorem recordFault_consist (k : FaultKind) (src : FaultSource) (s : State) : (recordFault k src s).consist = s.consist := by
  simp [recordFault]
@[simp] theorem recordFault_door (k : FaultKind) (src : FaultSource) (s : State) : (recordFault k src s).door = s.door := by
  simp [recordFault]
@[simp] theorem recordFault_heat (k : FaultKind) (src : FaultSource) (s : State) : (recordFault k src s).heat = s.heat := by
  simp [recordFault]
@[simp] theorem recordFault_lines (k : FaultKind) (src : FaultSource) (s : State) : (recordFault k src s).lines = s.lines := by
  simp [recordFault]
@[simp] theorem recordFault_timers (k : FaultKind) (src : FaultSource) (s : State) : (recordFault k src s).timers = s.timers := by
  simp [recordFault]
@[simp] theorem recordFault_mgmt (k : FaultKind) (src : FaultSource) (s : State) : (recordFault k src s).mgmt = s.mgmt := by
  simp [recordFault]

@[simp] theorem appendQueue_pending (p : Port) (l : Level) (q : Queued) (s : State) : (appendQueue p l q s).pending = s.pending := by
  simp [appendQueue]
@[simp] theorem appendQueue_identity (p : Port) (l : Level) (q : Queued) (s : State) : (appendQueue p l q s).identity = s.identity := by
  simp [appendQueue]
@[simp] theorem appendQueue_bypass (p : Port) (l : Level) (q : Queued) (s : State) : (appendQueue p l q s).bypass = s.bypass := by
  simp [appendQueue]
@[simp] theorem appendQueue_ports (p : Port) (l : Level) (q : Queued) (s : State) : (appendQueue p l q s).ports = s.ports := by
  simp [appendQueue]
@[simp] theorem appendQueue_consist (p : Port) (l : Level) (q : Queued) (s : State) : (appendQueue p l q s).consist = s.consist := by
  simp [appendQueue]
@[simp] theorem appendQueue_door (p : Port) (l : Level) (q : Queued) (s : State) : (appendQueue p l q s).door = s.door := by
  simp [appendQueue]
@[simp] theorem appendQueue_heat (p : Port) (l : Level) (q : Queued) (s : State) : (appendQueue p l q s).heat = s.heat := by
  simp [appendQueue]
@[simp] theorem appendQueue_lines (p : Port) (l : Level) (q : Queued) (s : State) : (appendQueue p l q s).lines = s.lines := by
  simp [appendQueue]
@[simp] theorem appendQueue_timers (p : Port) (l : Level) (q : Queued) (s : State) : (appendQueue p l q s).timers = s.timers := by
  simp [appendQueue]
@[simp] theorem appendQueue_faults (p : Port) (l : Level) (q : Queued) (s : State) : (appendQueue p l q s).faults = s.faults := by
  simp [appendQueue]
@[simp] theorem appendQueue_mgmt (p : Port) (l : Level) (q : Queued) (s : State) : (appendQueue p l q s).mgmt = s.mgmt := by
  simp [appendQueue]

@[simp] theorem enqueue_pending (p : Port) (l : Level) (q : Queued) (s : State) : (enqueue p l q s).pending = s.pending := by
  simp only [enqueue]; (repeat' split) <;> simp
@[simp] theorem enqueue_identity (p : Port) (l : Level) (q : Queued) (s : State) : (enqueue p l q s).identity = s.identity := by
  simp only [enqueue]; (repeat' split) <;> simp
@[simp] theorem enqueue_bypass (p : Port) (l : Level) (q : Queued) (s : State) : (enqueue p l q s).bypass = s.bypass := by
  simp only [enqueue]; (repeat' split) <;> simp
@[simp] theorem enqueue_ports (p : Port) (l : Level) (q : Queued) (s : State) : (enqueue p l q s).ports = s.ports := by
  simp only [enqueue]; (repeat' split) <;> simp
@[simp] theorem enqueue_consist (p : Port) (l : Level) (q : Queued) (s : State) : (enqueue p l q s).consist = s.consist := by
  simp only [enqueue]; (repeat' split) <;> simp
@[simp] theorem enqueue_door (p : Port) (l : Level) (q : Queued) (s : State) : (enqueue p l q s).door = s.door := by
  simp only [enqueue]; (repeat' split) <;> simp
@[simp] theorem enqueue_heat (p : Port) (l : Level) (q : Queued) (s : State) : (enqueue p l q s).heat = s.heat := by
  simp only [enqueue]; (repeat' split) <;> simp
@[simp] theorem enqueue_lines (p : Port) (l : Level) (q : Queued) (s : State) : (enqueue p l q s).lines = s.lines := by
  simp only [enqueue]; (repeat' split) <;> simp
@[simp] theorem enqueue_timers (p : Port) (l : Level) (q : Queued) (s : State) : (enqueue p l q s).timers = s.timers := by
  simp only [enqueue]; (repeat' split) <;> simp
@[simp] theorem enqueue_mgmt (p : Port) (l : Level) (q : Queued) (s : State) : (enqueue p l q s).mgmt = s.mgmt := by
  simp only [enqueue]; (repeat' split) <;> simp

@[simp] theorem sendFrame_pending (p : Port) (f : Frame) (s : State) : (sendFrame p f s).pending = s.pending := by
  simp [sendFrame]
@[simp] theorem sendFrame_identity (p : Port) (f : Frame) (s : State) : (sendFrame p f s).identity = s.identity := by
  simp [sendFrame]
@[simp] theorem sendFrame_bypass (p : Port) (f : Frame) (s : State) : (sendFrame p f s).bypass = s.bypass := by
  simp [sendFrame]
@[simp] theorem sendFrame_ports (p : Port) (f : Frame) (s : State) : (sendFrame p f s).ports = s.ports := by
  simp [sendFrame]
@[simp] theorem sendFrame_consist (p : Port) (f : Frame) (s : State) : (sendFrame p f s).consist = s.consist := by
  simp [sendFrame]
@[simp] theorem sendFrame_door (p : Port) (f : Frame) (s : State) : (sendFrame p f s).door = s.door := by
  simp [sendFrame]
@[simp] theorem sendFrame_heat (p : Port) (f : Frame) (s : State) : (sendFrame p f s).heat = s.heat := by
  simp [sendFrame]
@[simp] theorem sendFrame_lines (p : Port) (f : Frame) (s : State) : (sendFrame p f s).lines = s.lines := by
  simp [sendFrame]
@[simp] theorem sendFrame_timers (p : Port) (f : Frame) (s : State) : (sendFrame p f s).timers = s.timers := by
  simp [sendFrame]
@[simp] theorem sendFrame_mgmt (p : Port) (f : Frame) (s : State) : (sendFrame p f s).mgmt = s.mgmt := by
  simp [sendFrame]

@[simp] theorem deliver_pending (f : Frame) (s : State) : (deliver f s).pending = s.pending := by
  simp only [deliver]; split <;> simp
@[simp] theorem deliver_identity (f : Frame) (s : State) : (deliver f s).identity = s.identity := by
  simp only [deliver]; split <;> simp
@[simp] theorem deliver_bypass (f : Frame) (s : State) : (deliver f s).bypass = s.bypass := by
  simp only [deliver]; split <;> simp
@[simp] theorem deliver_ports (f : Frame) (s : State) : (deliver f s).ports = s.ports := by
  simp only [deliver]; split <;> simp
@[simp] theorem deliver_consist (f : Frame) (s : State) : (deliver f s).consist = s.consist := by
  simp only [deliver]; split <;> simp
@[simp] theorem deliver_door (f : Frame) (s : State) : (deliver f s).door = s.door := by
  simp only [deliver]; split <;> simp
@[simp] theorem deliver_heat (f : Frame) (s : State) : (deliver f s).heat = s.heat := by
  simp only [deliver]; split <;> simp
@[simp] theorem deliver_lines (f : Frame) (s : State) : (deliver f s).lines = s.lines := by
  simp only [deliver]; split <;> simp
@[simp] theorem deliver_timers (f : Frame) (s : State) : (deliver f s).timers = s.timers := by
  simp only [deliver]; split <;> simp
@[simp] theorem deliver_mgmt (f : Frame) (s : State) : (deliver f s).mgmt = s.mgmt := by
  simp only [deliver]; split <;> simp

end Sys2Proof.Machine
end

