-- ==== Sys2Proof/Laws/Heat.lean ====
section
/-! SUPPORT. The heat unit's shared operations: what each can do, and what it leaves unchanged. -/

namespace Sys2Proof.Machine

open Sys2Proof

@[simp] theorem judgeFeedback_pending (s : State) : (judgeFeedback s).pending = s.pending := by
  simp only [judgeFeedback]; (repeat' split) <;> simp
@[simp] theorem judgeFeedback_identity (s : State) : (judgeFeedback s).identity = s.identity := by
  simp only [judgeFeedback]; (repeat' split) <;> simp
@[simp] theorem judgeFeedback_bypass (s : State) : (judgeFeedback s).bypass = s.bypass := by
  simp only [judgeFeedback]; (repeat' split) <;> simp
@[simp] theorem judgeFeedback_ports (s : State) : (judgeFeedback s).ports = s.ports := by
  simp only [judgeFeedback]; (repeat' split) <;> simp
@[simp] theorem judgeFeedback_relay (s : State) : (judgeFeedback s).relay = s.relay := by
  simp only [judgeFeedback]; (repeat' split) <;> simp
@[simp] theorem judgeFeedback_consist (s : State) : (judgeFeedback s).consist = s.consist := by
  simp only [judgeFeedback]; (repeat' split) <;> simp
@[simp] theorem judgeFeedback_door (s : State) : (judgeFeedback s).door = s.door := by
  simp only [judgeFeedback]; (repeat' split) <;> simp
@[simp] theorem judgeFeedback_heat (s : State) : (judgeFeedback s).heat = s.heat := by
  simp only [judgeFeedback]; (repeat' split) <;> simp
@[simp] theorem judgeFeedback_lines (s : State) : (judgeFeedback s).lines = s.lines := by
  simp only [judgeFeedback]; (repeat' split) <;> simp
@[simp] theorem judgeFeedback_faults (s : State) : (judgeFeedback s).faults = s.faults := by
  simp only [judgeFeedback]; (repeat' split) <;> simp
@[simp] theorem judgeFeedback_mgmt (s : State) : (judgeFeedback s).mgmt = s.mgmt := by
  simp only [judgeFeedback]; (repeat' split) <;> simp

@[simp] theorem setApplied_pending (x : Nat) (s : State) : (setApplied x s).pending = s.pending := by
  simp only [setApplied]; split <;> simp
@[simp] theorem setApplied_identity (x : Nat) (s : State) : (setApplied x s).identity = s.identity := by
  simp only [setApplied]; split <;> simp
@[simp] theorem setApplied_bypass (x : Nat) (s : State) : (setApplied x s).bypass = s.bypass := by
  simp only [setApplied]; split <;> simp
@[simp] theorem setApplied_ports (x : Nat) (s : State) : (setApplied x s).ports = s.ports := by
  simp only [setApplied]; split <;> simp
@[simp] theorem setApplied_relay (x : Nat) (s : State) : (setApplied x s).relay = s.relay := by
  simp only [setApplied]; split <;> simp
@[simp] theorem setApplied_consist (x : Nat) (s : State) : (setApplied x s).consist = s.consist := by
  simp only [setApplied]; split <;> simp
@[simp] theorem setApplied_door (x : Nat) (s : State) : (setApplied x s).door = s.door := by
  simp only [setApplied]; split <;> simp
@[simp] theorem setApplied_lines (x : Nat) (s : State) : (setApplied x s).lines = s.lines := by
  simp only [setApplied]; split <;> simp
@[simp] theorem setApplied_faults (x : Nat) (s : State) : (setApplied x s).faults = s.faults := by
  simp only [setApplied]; split <;> simp
@[simp] theorem setApplied_mgmt (x : Nat) (s : State) : (setApplied x s).mgmt = s.mgmt := by
  simp only [setApplied]; split <;> simp

@[simp] theorem heatRefresh_pending (s : State) : (heatRefresh s).pending = s.pending := by
  simp only [heatRefresh]; split <;> simp
@[simp] theorem heatRefresh_identity (s : State) : (heatRefresh s).identity = s.identity := by
  simp only [heatRefresh]; split <;> simp
@[simp] theorem heatRefresh_bypass (s : State) : (heatRefresh s).bypass = s.bypass := by
  simp only [heatRefresh]; split <;> simp
@[simp] theorem heatRefresh_ports (s : State) : (heatRefresh s).ports = s.ports := by
  simp only [heatRefresh]; split <;> simp
@[simp] theorem heatRefresh_relay (s : State) : (heatRefresh s).relay = s.relay := by
  simp only [heatRefresh]; split <;> simp
@[simp] theorem heatRefresh_consist (s : State) : (heatRefresh s).consist = s.consist := by
  simp only [heatRefresh]; split <;> simp
@[simp] theorem heatRefresh_door (s : State) : (heatRefresh s).door = s.door := by
  simp only [heatRefresh]; split <;> simp
@[simp] theorem heatRefresh_lines (s : State) : (heatRefresh s).lines = s.lines := by
  simp only [heatRefresh]; split <;> simp
@[simp] theorem heatRefresh_faults (s : State) : (heatRefresh s).faults = s.faults := by
  simp only [heatRefresh]; split <;> simp
@[simp] theorem heatRefresh_mgmt (s : State) : (heatRefresh s).mgmt = s.mgmt := by
  simp only [heatRefresh]; split <;> simp

@[simp] theorem enterFallback_pending (s : State) : (enterFallback s).pending = s.pending := by
  simp only [enterFallback]; split <;> simp
@[simp] theorem enterFallback_identity (s : State) : (enterFallback s).identity = s.identity := by
  simp only [enterFallback]; split <;> simp
@[simp] theorem enterFallback_bypass (s : State) : (enterFallback s).bypass = s.bypass := by
  simp only [enterFallback]; split <;> simp
@[simp] theorem enterFallback_ports (s : State) : (enterFallback s).ports = s.ports := by
  simp only [enterFallback]; split <;> simp
@[simp] theorem enterFallback_relay (s : State) : (enterFallback s).relay = s.relay := by
  simp only [enterFallback]; split <;> simp
@[simp] theorem enterFallback_consist (s : State) : (enterFallback s).consist = s.consist := by
  simp only [enterFallback]; split <;> simp
@[simp] theorem enterFallback_door (s : State) : (enterFallback s).door = s.door := by
  simp only [enterFallback]; split <;> simp
@[simp] theorem enterFallback_lines (s : State) : (enterFallback s).lines = s.lines := by
  simp only [enterFallback]; split <;> simp
@[simp] theorem enterFallback_faults (s : State) : (enterFallback s).faults = s.faults := by
  simp only [enterFallback]; split <;> simp
@[simp] theorem enterFallback_mgmt (s : State) : (enterFallback s).mgmt = s.mgmt := by
  simp only [enterFallback]; split <;> simp

@[simp] theorem heatUnsettled_pending (s : State) : (heatUnsettled s).pending = s.pending := by
  simp [heatUnsettled]
@[simp] theorem heatUnsettled_identity (s : State) : (heatUnsettled s).identity = s.identity := by
  simp [heatUnsettled]
@[simp] theorem heatUnsettled_bypass (s : State) : (heatUnsettled s).bypass = s.bypass := by
  simp [heatUnsettled]
@[simp] theorem heatUnsettled_ports (s : State) : (heatUnsettled s).ports = s.ports := by
  simp [heatUnsettled]
@[simp] theorem heatUnsettled_relay (s : State) : (heatUnsettled s).relay = s.relay := by
  simp [heatUnsettled]
@[simp] theorem heatUnsettled_consist (s : State) : (heatUnsettled s).consist = s.consist := by
  simp [heatUnsettled]
@[simp] theorem heatUnsettled_door (s : State) : (heatUnsettled s).door = s.door := by
  simp [heatUnsettled]
@[simp] theorem heatUnsettled_lines (s : State) : (heatUnsettled s).lines = s.lines := by
  simp [heatUnsettled]
@[simp] theorem heatUnsettled_faults (s : State) : (heatUnsettled s).faults = s.faults := by
  simp [heatUnsettled]
@[simp] theorem heatUnsettled_mgmt (s : State) : (heatUnsettled s).mgmt = s.mgmt := by
  simp [heatUnsettled]

@[simp] theorem lockOut_pending (s : State) : (lockOut s).pending = s.pending := by
  simp [lockOut]
@[simp] theorem lockOut_identity (s : State) : (lockOut s).identity = s.identity := by
  simp [lockOut]
@[simp] theorem lockOut_bypass (s : State) : (lockOut s).bypass = s.bypass := by
  simp [lockOut]
@[simp] theorem lockOut_ports (s : State) : (lockOut s).ports = s.ports := by
  simp [lockOut]
@[simp] theorem lockOut_relay (s : State) : (lockOut s).relay = s.relay := by
  simp [lockOut]
@[simp] theorem lockOut_consist (s : State) : (lockOut s).consist = s.consist := by
  simp [lockOut]
@[simp] theorem lockOut_door (s : State) : (lockOut s).door = s.door := by
  simp [lockOut]
@[simp] theorem lockOut_lines (s : State) : (lockOut s).lines = s.lines := by
  simp [lockOut]
@[simp] theorem lockOut_faults (s : State) : (lockOut s).faults = s.faults := by
  simp [lockOut]
@[simp] theorem lockOut_mgmt (s : State) : (lockOut s).mgmt = s.mgmt := by
  simp [lockOut]

@[simp] theorem outboundStep_pending (w : Nat) (x : HeatBody) (s : State) : (outboundStep w x s).pending = s.pending := by
  simp only [outboundStep]; split <;> simp
@[simp] theorem outboundStep_identity (w : Nat) (x : HeatBody) (s : State) : (outboundStep w x s).identity = s.identity := by
  simp only [outboundStep]; split <;> simp
@[simp] theorem outboundStep_bypass (w : Nat) (x : HeatBody) (s : State) : (outboundStep w x s).bypass = s.bypass := by
  simp only [outboundStep]; split <;> simp
@[simp] theorem outboundStep_ports (w : Nat) (x : HeatBody) (s : State) : (outboundStep w x s).ports = s.ports := by
  simp only [outboundStep]; split <;> simp
@[simp] theorem outboundStep_relay (w : Nat) (x : HeatBody) (s : State) : (outboundStep w x s).relay = s.relay := by
  simp only [outboundStep]; split <;> simp
@[simp] theorem outboundStep_consist (w : Nat) (x : HeatBody) (s : State) : (outboundStep w x s).consist = s.consist := by
  simp only [outboundStep]; split <;> simp
@[simp] theorem outboundStep_door (w : Nat) (x : HeatBody) (s : State) : (outboundStep w x s).door = s.door := by
  simp only [outboundStep]; split <;> simp
@[simp] theorem outboundStep_lines (w : Nat) (x : HeatBody) (s : State) : (outboundStep w x s).lines = s.lines := by
  simp only [outboundStep]; split <;> simp
@[simp] theorem outboundStep_mgmt (w : Nat) (x : HeatBody) (s : State) : (outboundStep w x s).mgmt = s.mgmt := by
  simp only [outboundStep]; split <;> simp

@[simp] theorem returnStep_pending (r : WalkRecord) (x : HeatBody) (s : State) : (returnStep r x s).pending = s.pending := by
  simp only [returnStep]; split <;> simp
@[simp] theorem returnStep_identity (r : WalkRecord) (x : HeatBody) (s : State) : (returnStep r x s).identity = s.identity := by
  simp only [returnStep]; split <;> simp
@[simp] theorem returnStep_bypass (r : WalkRecord) (x : HeatBody) (s : State) : (returnStep r x s).bypass = s.bypass := by
  simp only [returnStep]; split <;> simp
@[simp] theorem returnStep_ports (r : WalkRecord) (x : HeatBody) (s : State) : (returnStep r x s).ports = s.ports := by
  simp only [returnStep]; split <;> simp
@[simp] theorem returnStep_relay (r : WalkRecord) (x : HeatBody) (s : State) : (returnStep r x s).relay = s.relay := by
  simp only [returnStep]; split <;> simp
@[simp] theorem returnStep_consist (r : WalkRecord) (x : HeatBody) (s : State) : (returnStep r x s).consist = s.consist := by
  simp only [returnStep]; split <;> simp
@[simp] theorem returnStep_door (r : WalkRecord) (x : HeatBody) (s : State) : (returnStep r x s).door = s.door := by
  simp only [returnStep]; split <;> simp
@[simp] theorem returnStep_lines (r : WalkRecord) (x : HeatBody) (s : State) : (returnStep r x s).lines = s.lines := by
  simp only [returnStep]; split <;> simp
@[simp] theorem returnStep_mgmt (r : WalkRecord) (x : HeatBody) (s : State) : (returnStep r x s).mgmt = s.mgmt := by
  simp only [returnStep]; split <;> simp

end Sys2Proof.Machine
end

