-- ==== Sys2Proof/Laws/Door.lean ====
section
/-! SUPPORT. The door unit's operations on a side: what each can do, and what it leaves unchanged. -/

namespace Sys2Proof.Machine

open Sys2Proof

@[simp] theorem setDoorState_pending (d : Side) (x : DoorState) (s : State) : (setDoorState d x s).pending = s.pending := by
  simp [setDoorState]
@[simp] theorem setDoorState_identity (d : Side) (x : DoorState) (s : State) : (setDoorState d x s).identity = s.identity := by
  simp [setDoorState]
@[simp] theorem setDoorState_bypass (d : Side) (x : DoorState) (s : State) : (setDoorState d x s).bypass = s.bypass := by
  simp [setDoorState]
@[simp] theorem setDoorState_ports (d : Side) (x : DoorState) (s : State) : (setDoorState d x s).ports = s.ports := by
  simp [setDoorState]
@[simp] theorem setDoorState_relay (d : Side) (x : DoorState) (s : State) : (setDoorState d x s).relay = s.relay := by
  simp [setDoorState]
@[simp] theorem setDoorState_consist (d : Side) (x : DoorState) (s : State) : (setDoorState d x s).consist = s.consist := by
  simp [setDoorState]
@[simp] theorem setDoorState_heat (d : Side) (x : DoorState) (s : State) : (setDoorState d x s).heat = s.heat := by
  simp [setDoorState]
@[simp] theorem setDoorState_lines (d : Side) (x : DoorState) (s : State) : (setDoorState d x s).lines = s.lines := by
  simp [setDoorState]
@[simp] theorem setDoorState_timers (d : Side) (x : DoorState) (s : State) : (setDoorState d x s).timers = s.timers := by
  simp [setDoorState]
@[simp] theorem setDoorState_faults (d : Side) (x : DoorState) (s : State) : (setDoorState d x s).faults = s.faults := by
  simp [setDoorState]
@[simp] theorem setDoorState_mgmt (d : Side) (x : DoorState) (s : State) : (setDoorState d x s).mgmt = s.mgmt := by
  simp [setDoorState]

@[simp] theorem enterClosing_pending (d : Side) (s : State) : (enterClosing d s).pending = s.pending := by
  simp [enterClosing]
@[simp] theorem enterClosing_identity (d : Side) (s : State) : (enterClosing d s).identity = s.identity := by
  simp [enterClosing]
@[simp] theorem enterClosing_bypass (d : Side) (s : State) : (enterClosing d s).bypass = s.bypass := by
  simp [enterClosing]
@[simp] theorem enterClosing_ports (d : Side) (s : State) : (enterClosing d s).ports = s.ports := by
  simp [enterClosing]
@[simp] theorem enterClosing_relay (d : Side) (s : State) : (enterClosing d s).relay = s.relay := by
  simp [enterClosing]
@[simp] theorem enterClosing_consist (d : Side) (s : State) : (enterClosing d s).consist = s.consist := by
  simp [enterClosing]
@[simp] theorem enterClosing_heat (d : Side) (s : State) : (enterClosing d s).heat = s.heat := by
  simp [enterClosing]
@[simp] theorem enterClosing_lines (d : Side) (s : State) : (enterClosing d s).lines = s.lines := by
  simp [enterClosing]
@[simp] theorem enterClosing_faults (d : Side) (s : State) : (enterClosing d s).faults = s.faults := by
  simp [enterClosing]
@[simp] theorem enterClosing_mgmt (d : Side) (s : State) : (enterClosing d s).mgmt = s.mgmt := by
  simp [enterClosing]

@[simp] theorem enterClosed_pending (d : Side) (s : State) : (enterClosed d s).pending = s.pending := by
  simp [enterClosed]
@[simp] theorem enterClosed_identity (d : Side) (s : State) : (enterClosed d s).identity = s.identity := by
  simp [enterClosed]
@[simp] theorem enterClosed_bypass (d : Side) (s : State) : (enterClosed d s).bypass = s.bypass := by
  simp [enterClosed]
@[simp] theorem enterClosed_ports (d : Side) (s : State) : (enterClosed d s).ports = s.ports := by
  simp [enterClosed]
@[simp] theorem enterClosed_relay (d : Side) (s : State) : (enterClosed d s).relay = s.relay := by
  simp [enterClosed]
@[simp] theorem enterClosed_consist (d : Side) (s : State) : (enterClosed d s).consist = s.consist := by
  simp [enterClosed]
@[simp] theorem enterClosed_heat (d : Side) (s : State) : (enterClosed d s).heat = s.heat := by
  simp [enterClosed]
@[simp] theorem enterClosed_lines (d : Side) (s : State) : (enterClosed d s).lines = s.lines := by
  simp [enterClosed]
@[simp] theorem enterClosed_faults (d : Side) (s : State) : (enterClosed d s).faults = s.faults := by
  simp [enterClosed]
@[simp] theorem enterClosed_mgmt (d : Side) (s : State) : (enterClosed d s).mgmt = s.mgmt := by
  simp [enterClosed]

@[simp] theorem closeSide_pending (d : Side) (s : State) : (closeSide d s).pending = s.pending := by
  simp only [closeSide]; split <;> simp
@[simp] theorem closeSide_identity (d : Side) (s : State) : (closeSide d s).identity = s.identity := by
  simp only [closeSide]; split <;> simp
@[simp] theorem closeSide_bypass (d : Side) (s : State) : (closeSide d s).bypass = s.bypass := by
  simp only [closeSide]; split <;> simp
@[simp] theorem closeSide_ports (d : Side) (s : State) : (closeSide d s).ports = s.ports := by
  simp only [closeSide]; split <;> simp
@[simp] theorem closeSide_relay (d : Side) (s : State) : (closeSide d s).relay = s.relay := by
  simp only [closeSide]; split <;> simp
@[simp] theorem closeSide_consist (d : Side) (s : State) : (closeSide d s).consist = s.consist := by
  simp only [closeSide]; split <;> simp
@[simp] theorem closeSide_lines (d : Side) (s : State) : (closeSide d s).lines = s.lines := by
  simp only [closeSide]; split <;> simp
@[simp] theorem closeSide_faults (d : Side) (s : State) : (closeSide d s).faults = s.faults := by
  simp only [closeSide]; split <;> simp
@[simp] theorem closeSide_mgmt (d : Side) (s : State) : (closeSide d s).mgmt = s.mgmt := by
  simp only [closeSide]; split <;> simp

@[simp] theorem closeReleased_pending (d : Side) (s : State) : (closeReleased d s).pending = s.pending := by
  simp only [closeReleased]; split <;> simp
@[simp] theorem closeReleased_identity (d : Side) (s : State) : (closeReleased d s).identity = s.identity := by
  simp only [closeReleased]; split <;> simp
@[simp] theorem closeReleased_bypass (d : Side) (s : State) : (closeReleased d s).bypass = s.bypass := by
  simp only [closeReleased]; split <;> simp
@[simp] theorem closeReleased_ports (d : Side) (s : State) : (closeReleased d s).ports = s.ports := by
  simp only [closeReleased]; split <;> simp
@[simp] theorem closeReleased_relay (d : Side) (s : State) : (closeReleased d s).relay = s.relay := by
  simp only [closeReleased]; split <;> simp
@[simp] theorem closeReleased_consist (d : Side) (s : State) : (closeReleased d s).consist = s.consist := by
  simp only [closeReleased]; split <;> simp
@[simp] theorem closeReleased_lines (d : Side) (s : State) : (closeReleased d s).lines = s.lines := by
  simp only [closeReleased]; split <;> simp
@[simp] theorem closeReleased_faults (d : Side) (s : State) : (closeReleased d s).faults = s.faults := by
  simp only [closeReleased]; split <;> simp
@[simp] theorem closeReleased_mgmt (d : Side) (s : State) : (closeReleased d s).mgmt = s.mgmt := by
  simp only [closeReleased]; split <;> simp

@[simp] theorem localClose_pending (s : State) : (localClose s).pending = s.pending := by
  simp [localClose]
@[simp] theorem localClose_identity (s : State) : (localClose s).identity = s.identity := by
  simp [localClose]
@[simp] theorem localClose_bypass (s : State) : (localClose s).bypass = s.bypass := by
  simp [localClose]
@[simp] theorem localClose_ports (s : State) : (localClose s).ports = s.ports := by
  simp [localClose]
@[simp] theorem localClose_relay (s : State) : (localClose s).relay = s.relay := by
  simp [localClose]
@[simp] theorem localClose_consist (s : State) : (localClose s).consist = s.consist := by
  simp [localClose]
@[simp] theorem localClose_lines (s : State) : (localClose s).lines = s.lines := by
  simp [localClose]
@[simp] theorem localClose_faults (s : State) : (localClose s).faults = s.faults := by
  simp [localClose]
@[simp] theorem localClose_mgmt (s : State) : (localClose s).mgmt = s.mgmt := by
  simp [localClose]

@[simp] theorem applyRelease_pending (d : Side) (s : State) : (applyRelease d s).pending = s.pending := by
  simp only [applyRelease]; (repeat' split) <;> simp
@[simp] theorem applyRelease_identity (d : Side) (s : State) : (applyRelease d s).identity = s.identity := by
  simp only [applyRelease]; (repeat' split) <;> simp
@[simp] theorem applyRelease_bypass (d : Side) (s : State) : (applyRelease d s).bypass = s.bypass := by
  simp only [applyRelease]; (repeat' split) <;> simp
@[simp] theorem applyRelease_ports (d : Side) (s : State) : (applyRelease d s).ports = s.ports := by
  simp only [applyRelease]; (repeat' split) <;> simp
@[simp] theorem applyRelease_relay (d : Side) (s : State) : (applyRelease d s).relay = s.relay := by
  simp only [applyRelease]; (repeat' split) <;> simp
@[simp] theorem applyRelease_consist (d : Side) (s : State) : (applyRelease d s).consist = s.consist := by
  simp only [applyRelease]; (repeat' split) <;> simp
@[simp] theorem applyRelease_lines (d : Side) (s : State) : (applyRelease d s).lines = s.lines := by
  simp only [applyRelease]; (repeat' split) <;> simp
@[simp] theorem applyRelease_faults (d : Side) (s : State) : (applyRelease d s).faults = s.faults := by
  simp only [applyRelease]; (repeat' split) <;> simp
@[simp] theorem applyRelease_mgmt (d : Side) (s : State) : (applyRelease d s).mgmt = s.mgmt := by
  simp only [applyRelease]; (repeat' split) <;> simp

@[simp] theorem applyClose_pending (d : Side) (s : State) : (applyClose d s).pending = s.pending := by
  simp only [applyClose]; split <;> simp
@[simp] theorem applyClose_identity (d : Side) (s : State) : (applyClose d s).identity = s.identity := by
  simp only [applyClose]; split <;> simp
@[simp] theorem applyClose_bypass (d : Side) (s : State) : (applyClose d s).bypass = s.bypass := by
  simp only [applyClose]; split <;> simp
@[simp] theorem applyClose_ports (d : Side) (s : State) : (applyClose d s).ports = s.ports := by
  simp only [applyClose]; split <;> simp
@[simp] theorem applyClose_relay (d : Side) (s : State) : (applyClose d s).relay = s.relay := by
  simp only [applyClose]; split <;> simp
@[simp] theorem applyClose_consist (d : Side) (s : State) : (applyClose d s).consist = s.consist := by
  simp only [applyClose]; split <;> simp
@[simp] theorem applyClose_lines (d : Side) (s : State) : (applyClose d s).lines = s.lines := by
  simp only [applyClose]; split <;> simp
@[simp] theorem applyClose_faults (d : Side) (s : State) : (applyClose d s).faults = s.faults := by
  simp only [applyClose]; split <;> simp
@[simp] theorem applyClose_mgmt (d : Side) (s : State) : (applyClose d s).mgmt = s.mgmt := by
  simp only [applyClose]; split <;> simp

@[simp] theorem applyCloses_pending (l : List Side) (s : State) : (applyCloses l s).pending = s.pending := by
  unfold applyCloses; induction l generalizing s with
  | nil => rfl
  | cons x l ih => simp [ih]
@[simp] theorem applyCloses_identity (l : List Side) (s : State) : (applyCloses l s).identity = s.identity := by
  unfold applyCloses; induction l generalizing s with
  | nil => rfl
  | cons x l ih => simp [ih]
@[simp] theorem applyCloses_bypass (l : List Side) (s : State) : (applyCloses l s).bypass = s.bypass := by
  unfold applyCloses; induction l generalizing s with
  | nil => rfl
  | cons x l ih => simp [ih]
@[simp] theorem applyCloses_ports (l : List Side) (s : State) : (applyCloses l s).ports = s.ports := by
  unfold applyCloses; induction l generalizing s with
  | nil => rfl
  | cons x l ih => simp [ih]
@[simp] theorem applyCloses_relay (l : List Side) (s : State) : (applyCloses l s).relay = s.relay := by
  unfold applyCloses; induction l generalizing s with
  | nil => rfl
  | cons x l ih => simp [ih]
@[simp] theorem applyCloses_consist (l : List Side) (s : State) : (applyCloses l s).consist = s.consist := by
  unfold applyCloses; induction l generalizing s with
  | nil => rfl
  | cons x l ih => simp [ih]
@[simp] theorem applyCloses_lines (l : List Side) (s : State) : (applyCloses l s).lines = s.lines := by
  unfold applyCloses; induction l generalizing s with
  | nil => rfl
  | cons x l ih => simp [ih]
@[simp] theorem applyCloses_faults (l : List Side) (s : State) : (applyCloses l s).faults = s.faults := by
  unfold applyCloses; induction l generalizing s with
  | nil => rfl
  | cons x l ih => simp [ih]
@[simp] theorem applyCloses_mgmt (l : List Side) (s : State) : (applyCloses l s).mgmt = s.mgmt := by
  unfold applyCloses; induction l generalizing s with
  | nil => rfl
  | cons x l ih => simp [ih]

@[simp] theorem dropInterlock_pending (s : State) : (dropInterlock s).pending = s.pending := by
  simp [dropInterlock]
@[simp] theorem dropInterlock_identity (s : State) : (dropInterlock s).identity = s.identity := by
  simp [dropInterlock]
@[simp] theorem dropInterlock_bypass (s : State) : (dropInterlock s).bypass = s.bypass := by
  simp [dropInterlock]
@[simp] theorem dropInterlock_ports (s : State) : (dropInterlock s).ports = s.ports := by
  simp [dropInterlock]
@[simp] theorem dropInterlock_relay (s : State) : (dropInterlock s).relay = s.relay := by
  simp [dropInterlock]
@[simp] theorem dropInterlock_consist (s : State) : (dropInterlock s).consist = s.consist := by
  simp [dropInterlock]
@[simp] theorem dropInterlock_heat (s : State) : (dropInterlock s).heat = s.heat := by
  simp [dropInterlock]
@[simp] theorem dropInterlock_lines (s : State) : (dropInterlock s).lines = s.lines := by
  simp [dropInterlock]
@[simp] theorem dropInterlock_timers (s : State) : (dropInterlock s).timers = s.timers := by
  simp [dropInterlock]
@[simp] theorem dropInterlock_faults (s : State) : (dropInterlock s).faults = s.faults := by
  simp [dropInterlock]
@[simp] theorem dropInterlock_mgmt (s : State) : (dropInterlock s).mgmt = s.mgmt := by
  simp [dropInterlock]

@[simp] theorem raiseAlert_pending (d : Side) (s : State) : (raiseAlert d s).pending = s.pending := by
  simp only [raiseAlert]; (repeat' split) <;> simp
@[simp] theorem raiseAlert_identity (d : Side) (s : State) : (raiseAlert d s).identity = s.identity := by
  simp only [raiseAlert]; (repeat' split) <;> simp
@[simp] theorem raiseAlert_bypass (d : Side) (s : State) : (raiseAlert d s).bypass = s.bypass := by
  simp only [raiseAlert]; (repeat' split) <;> simp
@[simp] theorem raiseAlert_ports (d : Side) (s : State) : (raiseAlert d s).ports = s.ports := by
  simp only [raiseAlert]; (repeat' split) <;> simp
@[simp] theorem raiseAlert_consist (d : Side) (s : State) : (raiseAlert d s).consist = s.consist := by
  simp only [raiseAlert]; (repeat' split) <;> simp
@[simp] theorem raiseAlert_heat (d : Side) (s : State) : (raiseAlert d s).heat = s.heat := by
  simp only [raiseAlert]; (repeat' split) <;> simp
@[simp] theorem raiseAlert_lines (d : Side) (s : State) : (raiseAlert d s).lines = s.lines := by
  simp only [raiseAlert]; (repeat' split) <;> simp
@[simp] theorem raiseAlert_timers (d : Side) (s : State) : (raiseAlert d s).timers = s.timers := by
  simp only [raiseAlert]; (repeat' split) <;> simp
@[simp] theorem raiseAlert_mgmt (d : Side) (s : State) : (raiseAlert d s).mgmt = s.mgmt := by
  simp only [raiseAlert]; (repeat' split) <;> simp

@[simp] theorem proofNotice_pending (d : Side) (x : Proof) (s : State) : (proofNotice d x s).pending = s.pending := by
  simp only [proofNotice]; (repeat' split) <;> simp
@[simp] theorem proofNotice_identity (d : Side) (x : Proof) (s : State) : (proofNotice d x s).identity = s.identity := by
  simp only [proofNotice]; (repeat' split) <;> simp
@[simp] theorem proofNotice_bypass (d : Side) (x : Proof) (s : State) : (proofNotice d x s).bypass = s.bypass := by
  simp only [proofNotice]; (repeat' split) <;> simp
@[simp] theorem proofNotice_ports (d : Side) (x : Proof) (s : State) : (proofNotice d x s).ports = s.ports := by
  simp only [proofNotice]; (repeat' split) <;> simp
@[simp] theorem proofNotice_consist (d : Side) (x : Proof) (s : State) : (proofNotice d x s).consist = s.consist := by
  simp only [proofNotice]; (repeat' split) <;> simp
@[simp] theorem proofNotice_lines (d : Side) (x : Proof) (s : State) : (proofNotice d x s).lines = s.lines := by
  simp only [proofNotice]; (repeat' split) <;> simp
@[simp] theorem proofNotice_mgmt (d : Side) (x : Proof) (s : State) : (proofNotice d x s).mgmt = s.mgmt := by
  simp only [proofNotice]; (repeat' split) <;> simp

@[simp] theorem rereadSide_pending (d : Side) (s : State) : (rereadSide d s).pending = s.pending := by
  simp only [rereadSide]; (repeat' split) <;> simp
@[simp] theorem rereadSide_identity (d : Side) (s : State) : (rereadSide d s).identity = s.identity := by
  simp only [rereadSide]; (repeat' split) <;> simp
@[simp] theorem rereadSide_bypass (d : Side) (s : State) : (rereadSide d s).bypass = s.bypass := by
  simp only [rereadSide]; (repeat' split) <;> simp
@[simp] theorem rereadSide_ports (d : Side) (s : State) : (rereadSide d s).ports = s.ports := by
  simp only [rereadSide]; (repeat' split) <;> simp
@[simp] theorem rereadSide_relay (d : Side) (s : State) : (rereadSide d s).relay = s.relay := by
  simp only [rereadSide]; (repeat' split) <;> simp
@[simp] theorem rereadSide_consist (d : Side) (s : State) : (rereadSide d s).consist = s.consist := by
  simp only [rereadSide]; (repeat' split) <;> simp
@[simp] theorem rereadSide_lines (d : Side) (s : State) : (rereadSide d s).lines = s.lines := by
  simp only [rereadSide]; (repeat' split) <;> simp
@[simp] theorem rereadSide_faults (d : Side) (s : State) : (rereadSide d s).faults = s.faults := by
  simp only [rereadSide]; (repeat' split) <;> simp
@[simp] theorem rereadSide_mgmt (d : Side) (s : State) : (rereadSide d s).mgmt = s.mgmt := by
  simp only [rereadSide]; (repeat' split) <;> simp

end Sys2Proof.Machine
end

