-- ==== Sys2Proof/Laws/Relay.lean ====
section
/-! SUPPORT. Answers, drain, flush and BREAK: what each can do, and what it leaves unchanged. -/

namespace Sys2Proof.Machine

open Sys2Proof

@[simp] theorem answerLocal_pending (tag : Nat) (x : RspBody) (s : State) : (answerLocal tag x s).pending = s.pending := by
  simp [answerLocal]
@[simp] theorem answerLocal_identity (tag : Nat) (x : RspBody) (s : State) : (answerLocal tag x s).identity = s.identity := by
  simp [answerLocal]
@[simp] theorem answerLocal_bypass (tag : Nat) (x : RspBody) (s : State) : (answerLocal tag x s).bypass = s.bypass := by
  simp [answerLocal]
@[simp] theorem answerLocal_ports (tag : Nat) (x : RspBody) (s : State) : (answerLocal tag x s).ports = s.ports := by
  simp [answerLocal]
@[simp] theorem answerLocal_consist (tag : Nat) (x : RspBody) (s : State) : (answerLocal tag x s).consist = s.consist := by
  simp [answerLocal]
@[simp] theorem answerLocal_door (tag : Nat) (x : RspBody) (s : State) : (answerLocal tag x s).door = s.door := by
  simp [answerLocal]
@[simp] theorem answerLocal_heat (tag : Nat) (x : RspBody) (s : State) : (answerLocal tag x s).heat = s.heat := by
  simp [answerLocal]
@[simp] theorem answerLocal_lines (tag : Nat) (x : RspBody) (s : State) : (answerLocal tag x s).lines = s.lines := by
  simp [answerLocal]
@[simp] theorem answerLocal_timers (tag : Nat) (x : RspBody) (s : State) : (answerLocal tag x s).timers = s.timers := by
  simp [answerLocal]
@[simp] theorem answerLocal_mgmt (tag : Nat) (x : RspBody) (s : State) : (answerLocal tag x s).mgmt = s.mgmt := by
  simp [answerLocal]

@[simp] theorem answerTrain_pending (position tag : Nat) (x : RspBody) (s : State) : (answerTrain position tag x s).pending = s.pending := by
  simp [answerTrain]
@[simp] theorem answerTrain_identity (position tag : Nat) (x : RspBody) (s : State) : (answerTrain position tag x s).identity = s.identity := by
  simp [answerTrain]
@[simp] theorem answerTrain_bypass (position tag : Nat) (x : RspBody) (s : State) : (answerTrain position tag x s).bypass = s.bypass := by
  simp [answerTrain]
@[simp] theorem answerTrain_ports (position tag : Nat) (x : RspBody) (s : State) : (answerTrain position tag x s).ports = s.ports := by
  simp [answerTrain]
@[simp] theorem answerTrain_consist (position tag : Nat) (x : RspBody) (s : State) : (answerTrain position tag x s).consist = s.consist := by
  simp [answerTrain]
@[simp] theorem answerTrain_door (position tag : Nat) (x : RspBody) (s : State) : (answerTrain position tag x s).door = s.door := by
  simp [answerTrain]
@[simp] theorem answerTrain_heat (position tag : Nat) (x : RspBody) (s : State) : (answerTrain position tag x s).heat = s.heat := by
  simp [answerTrain]
@[simp] theorem answerTrain_lines (position tag : Nat) (x : RspBody) (s : State) : (answerTrain position tag x s).lines = s.lines := by
  simp [answerTrain]
@[simp] theorem answerTrain_timers (position tag : Nat) (x : RspBody) (s : State) : (answerTrain position tag x s).timers = s.timers := by
  simp [answerTrain]
@[simp] theorem answerTrain_mgmt (position tag : Nat) (x : RspBody) (s : State) : (answerTrain position tag x s).mgmt = s.mgmt := by
  simp [answerTrain]

@[simp] theorem drainDone_pending (n : Nat) (s : State) : (drainDone n s).pending = s.pending := by
  simp only [drainDone]; (repeat' split) <;> simp
@[simp] theorem drainDone_identity (n : Nat) (s : State) : (drainDone n s).identity = s.identity := by
  simp only [drainDone]; (repeat' split) <;> simp
@[simp] theorem drainDone_bypass (n : Nat) (s : State) : (drainDone n s).bypass = s.bypass := by
  simp only [drainDone]; (repeat' split) <;> simp
@[simp] theorem drainDone_ports (n : Nat) (s : State) : (drainDone n s).ports = s.ports := by
  simp only [drainDone]; (repeat' split) <;> simp
@[simp] theorem drainDone_consist (n : Nat) (s : State) : (drainDone n s).consist = s.consist := by
  simp only [drainDone]; (repeat' split) <;> simp
@[simp] theorem drainDone_door (n : Nat) (s : State) : (drainDone n s).door = s.door := by
  simp only [drainDone]; (repeat' split) <;> simp
@[simp] theorem drainDone_heat (n : Nat) (s : State) : (drainDone n s).heat = s.heat := by
  simp only [drainDone]; (repeat' split) <;> simp
@[simp] theorem drainDone_lines (n : Nat) (s : State) : (drainDone n s).lines = s.lines := by
  simp only [drainDone]; (repeat' split) <;> simp

@[simp] theorem drainCheck_pending (s : State) : (drainCheck s).pending = s.pending := by
  simp only [drainCheck]; split <;> simp
@[simp] theorem drainCheck_identity (s : State) : (drainCheck s).identity = s.identity := by
  simp only [drainCheck]; split <;> simp
@[simp] theorem drainCheck_bypass (s : State) : (drainCheck s).bypass = s.bypass := by
  simp only [drainCheck]; split <;> simp
@[simp] theorem drainCheck_ports (s : State) : (drainCheck s).ports = s.ports := by
  simp only [drainCheck]; split <;> simp
@[simp] theorem drainCheck_consist (s : State) : (drainCheck s).consist = s.consist := by
  simp only [drainCheck]; split <;> simp
@[simp] theorem drainCheck_door (s : State) : (drainCheck s).door = s.door := by
  simp only [drainCheck]; split <;> simp
@[simp] theorem drainCheck_heat (s : State) : (drainCheck s).heat = s.heat := by
  simp only [drainCheck]; split <;> simp
@[simp] theorem drainCheck_lines (s : State) : (drainCheck s).lines = s.lines := by
  simp only [drainCheck]; split <;> simp

@[simp] theorem restartCheck_pending (l : List Queued) (s : State) : (restartCheck l s).pending = s.pending := by
  simp only [restartCheck]; split <;> simp
@[simp] theorem restartCheck_identity (l : List Queued) (s : State) : (restartCheck l s).identity = s.identity := by
  simp only [restartCheck]; split <;> simp
@[simp] theorem restartCheck_bypass (l : List Queued) (s : State) : (restartCheck l s).bypass = s.bypass := by
  simp only [restartCheck]; split <;> simp
@[simp] theorem restartCheck_ports (l : List Queued) (s : State) : (restartCheck l s).ports = s.ports := by
  simp only [restartCheck]; split <;> simp
@[simp] theorem restartCheck_relay (l : List Queued) (s : State) : (restartCheck l s).relay = s.relay := by
  simp only [restartCheck]; split <;> simp
@[simp] theorem restartCheck_consist (l : List Queued) (s : State) : (restartCheck l s).consist = s.consist := by
  simp only [restartCheck]; split <;> simp
@[simp] theorem restartCheck_door (l : List Queued) (s : State) : (restartCheck l s).door = s.door := by
  simp only [restartCheck]; split <;> simp
@[simp] theorem restartCheck_heat (l : List Queued) (s : State) : (restartCheck l s).heat = s.heat := by
  simp only [restartCheck]; split <;> simp
@[simp] theorem restartCheck_lines (l : List Queued) (s : State) : (restartCheck l s).lines = s.lines := by
  simp only [restartCheck]; split <;> simp
@[simp] theorem restartCheck_timers (l : List Queued) (s : State) : (restartCheck l s).timers = s.timers := by
  simp only [restartCheck]; split <;> simp
@[simp] theorem restartCheck_faults (l : List Queued) (s : State) : (restartCheck l s).faults = s.faults := by
  simp only [restartCheck]; split <;> simp

@[simp] theorem afterRemoval_pending (l : List Queued) (s : State) : (afterRemoval l s).pending = s.pending := by
  simp [afterRemoval]
@[simp] theorem afterRemoval_identity (l : List Queued) (s : State) : (afterRemoval l s).identity = s.identity := by
  simp [afterRemoval]
@[simp] theorem afterRemoval_bypass (l : List Queued) (s : State) : (afterRemoval l s).bypass = s.bypass := by
  simp [afterRemoval]
@[simp] theorem afterRemoval_ports (l : List Queued) (s : State) : (afterRemoval l s).ports = s.ports := by
  simp [afterRemoval]
@[simp] theorem afterRemoval_consist (l : List Queued) (s : State) : (afterRemoval l s).consist = s.consist := by
  simp [afterRemoval]
@[simp] theorem afterRemoval_door (l : List Queued) (s : State) : (afterRemoval l s).door = s.door := by
  simp [afterRemoval]
@[simp] theorem afterRemoval_heat (l : List Queued) (s : State) : (afterRemoval l s).heat = s.heat := by
  simp [afterRemoval]
@[simp] theorem afterRemoval_lines (l : List Queued) (s : State) : (afterRemoval l s).lines = s.lines := by
  simp [afterRemoval]

@[simp] theorem emptyQueues_pending (p : Port) (s : State) : (emptyQueues p s).pending = s.pending := by
  simp [emptyQueues]
@[simp] theorem emptyQueues_identity (p : Port) (s : State) : (emptyQueues p s).identity = s.identity := by
  simp [emptyQueues]
@[simp] theorem emptyQueues_bypass (p : Port) (s : State) : (emptyQueues p s).bypass = s.bypass := by
  simp [emptyQueues]
@[simp] theorem emptyQueues_ports (p : Port) (s : State) : (emptyQueues p s).ports = s.ports := by
  simp [emptyQueues]
@[simp] theorem emptyQueues_consist (p : Port) (s : State) : (emptyQueues p s).consist = s.consist := by
  simp [emptyQueues]
@[simp] theorem emptyQueues_door (p : Port) (s : State) : (emptyQueues p s).door = s.door := by
  simp [emptyQueues]
@[simp] theorem emptyQueues_heat (p : Port) (s : State) : (emptyQueues p s).heat = s.heat := by
  simp [emptyQueues]
@[simp] theorem emptyQueues_lines (p : Port) (s : State) : (emptyQueues p s).lines = s.lines := by
  simp [emptyQueues]

@[simp] theorem flush_pending (s : State) : (flush s).pending = s.pending := by
  simp only [flush]; split <;> simp
@[simp] theorem flush_identity (s : State) : (flush s).identity = s.identity := by
  simp only [flush]; split <;> simp
@[simp] theorem flush_bypass (s : State) : (flush s).bypass = s.bypass := by
  simp only [flush]; split <;> simp
@[simp] theorem flush_consist (s : State) : (flush s).consist = s.consist := by
  simp only [flush]; split <;> simp
@[simp] theorem flush_door (s : State) : (flush s).door = s.door := by
  simp only [flush]; split <;> simp
@[simp] theorem flush_heat (s : State) : (flush s).heat = s.heat := by
  simp only [flush]; split <;> simp
@[simp] theorem flush_lines (s : State) : (flush s).lines = s.lines := by
  simp only [flush]; split <;> simp

@[simp] theorem cutTransmission_pending (p : Port) (s : State) : (cutTransmission p s).pending = s.pending := by
  simp only [cutTransmission]; split <;> simp
@[simp] theorem cutTransmission_identity (p : Port) (s : State) : (cutTransmission p s).identity = s.identity := by
  simp only [cutTransmission]; split <;> simp
@[simp] theorem cutTransmission_bypass (p : Port) (s : State) : (cutTransmission p s).bypass = s.bypass := by
  simp only [cutTransmission]; split <;> simp
@[simp] theorem cutTransmission_relay (p : Port) (s : State) : (cutTransmission p s).relay = s.relay := by
  simp only [cutTransmission]; split <;> simp
@[simp] theorem cutTransmission_consist (p : Port) (s : State) : (cutTransmission p s).consist = s.consist := by
  simp only [cutTransmission]; split <;> simp
@[simp] theorem cutTransmission_door (p : Port) (s : State) : (cutTransmission p s).door = s.door := by
  simp only [cutTransmission]; split <;> simp
@[simp] theorem cutTransmission_heat (p : Port) (s : State) : (cutTransmission p s).heat = s.heat := by
  simp only [cutTransmission]; split <;> simp
@[simp] theorem cutTransmission_lines (p : Port) (s : State) : (cutTransmission p s).lines = s.lines := by
  simp only [cutTransmission]; split <;> simp
@[simp] theorem cutTransmission_faults (p : Port) (s : State) : (cutTransmission p s).faults = s.faults := by
  simp only [cutTransmission]; split <;> simp
@[simp] theorem cutTransmission_mgmt (p : Port) (s : State) : (cutTransmission p s).mgmt = s.mgmt := by
  simp only [cutTransmission]; split <;> simp

@[simp] theorem keepAlive_pending (p : Port) (s : State) : (keepAlive p s).pending = s.pending := by
  simp only [keepAlive]; split <;> simp
@[simp] theorem keepAlive_identity (p : Port) (s : State) : (keepAlive p s).identity = s.identity := by
  simp only [keepAlive]; split <;> simp
@[simp] theorem keepAlive_bypass (p : Port) (s : State) : (keepAlive p s).bypass = s.bypass := by
  simp only [keepAlive]; split <;> simp
@[simp] theorem keepAlive_ports (p : Port) (s : State) : (keepAlive p s).ports = s.ports := by
  simp only [keepAlive]; split <;> simp
@[simp] theorem keepAlive_relay (p : Port) (s : State) : (keepAlive p s).relay = s.relay := by
  simp only [keepAlive]; split <;> simp
@[simp] theorem keepAlive_consist (p : Port) (s : State) : (keepAlive p s).consist = s.consist := by
  simp only [keepAlive]; split <;> simp
@[simp] theorem keepAlive_door (p : Port) (s : State) : (keepAlive p s).door = s.door := by
  simp only [keepAlive]; split <;> simp
@[simp] theorem keepAlive_heat (p : Port) (s : State) : (keepAlive p s).heat = s.heat := by
  simp only [keepAlive]; split <;> simp
@[simp] theorem keepAlive_lines (p : Port) (s : State) : (keepAlive p s).lines = s.lines := by
  simp only [keepAlive]; split <;> simp
@[simp] theorem keepAlive_faults (p : Port) (s : State) : (keepAlive p s).faults = s.faults := by
  simp only [keepAlive]; split <;> simp
@[simp] theorem keepAlive_mgmt (p : Port) (s : State) : (keepAlive p s).mgmt = s.mgmt := by
  simp only [keepAlive]; split <;> simp

/-- R15: at most T1 of the port changes as a frame it receives ends early. -/
theorem keepAliveInFrame_cases (p : Port) (s : State) :
    keepAliveInFrame p s = s ∨ ((s.port p).rx = .inFrame ∧ keepAliveInFrame p s = keepAlive p s) := by
  by_cases h : (s.port p).rx = .inFrame
  · exact .inr ⟨h, if_pos h⟩
  · exact .inl (if_neg h)

@[simp] theorem keepAliveInFrame_pending (p : Port) (s : State) : (keepAliveInFrame p s).pending = s.pending := by
  simp only [keepAliveInFrame]; split <;> simp
@[simp] theorem keepAliveInFrame_identity (p : Port) (s : State) : (keepAliveInFrame p s).identity = s.identity := by
  simp only [keepAliveInFrame]; split <;> simp
@[simp] theorem keepAliveInFrame_bypass (p : Port) (s : State) : (keepAliveInFrame p s).bypass = s.bypass := by
  simp only [keepAliveInFrame]; split <;> simp
@[simp] theorem keepAliveInFrame_ports (p : Port) (s : State) : (keepAliveInFrame p s).ports = s.ports := by
  simp only [keepAliveInFrame]; split <;> simp
@[simp] theorem keepAliveInFrame_relay (p : Port) (s : State) : (keepAliveInFrame p s).relay = s.relay := by
  simp only [keepAliveInFrame]; split <;> simp
@[simp] theorem keepAliveInFrame_consist (p : Port) (s : State) : (keepAliveInFrame p s).consist = s.consist := by
  simp only [keepAliveInFrame]; split <;> simp
@[simp] theorem keepAliveInFrame_door (p : Port) (s : State) : (keepAliveInFrame p s).door = s.door := by
  simp only [keepAliveInFrame]; split <;> simp
@[simp] theorem keepAliveInFrame_heat (p : Port) (s : State) : (keepAliveInFrame p s).heat = s.heat := by
  simp only [keepAliveInFrame]; split <;> simp
@[simp] theorem keepAliveInFrame_lines (p : Port) (s : State) : (keepAliveInFrame p s).lines = s.lines := by
  simp only [keepAliveInFrame]; split <;> simp
@[simp] theorem keepAliveInFrame_faults (p : Port) (s : State) : (keepAliveInFrame p s).faults = s.faults := by
  simp only [keepAliveInFrame]; split <;> simp
@[simp] theorem keepAliveInFrame_mgmt (p : Port) (s : State) : (keepAliveInFrame p s).mgmt = s.mgmt := by
  simp only [keepAliveInFrame]; split <;> simp

/-- R15: at most T1 of the port changes at the end of a frame. -/
theorem keepAliveByBits_cases (p : Port) (s : State) :
    ((s.port p).rx = .bitsOver ∧ keepAliveByBits p s = s) ∨ keepAliveByBits p s = keepAlive p s := by
  by_cases h : (s.port p).rx = .bitsOver
  · exact .inl ⟨h, if_pos h⟩
  · exact .inr (if_neg h)

@[simp] theorem keepAliveByBits_pending (p : Port) (s : State) : (keepAliveByBits p s).pending = s.pending := by
  simp only [keepAliveByBits]; split <;> simp
@[simp] theorem keepAliveByBits_identity (p : Port) (s : State) : (keepAliveByBits p s).identity = s.identity := by
  simp only [keepAliveByBits]; split <;> simp
@[simp] theorem keepAliveByBits_bypass (p : Port) (s : State) : (keepAliveByBits p s).bypass = s.bypass := by
  simp only [keepAliveByBits]; split <;> simp
@[simp] theorem keepAliveByBits_ports (p : Port) (s : State) : (keepAliveByBits p s).ports = s.ports := by
  simp only [keepAliveByBits]; split <;> simp
@[simp] theorem keepAliveByBits_relay (p : Port) (s : State) : (keepAliveByBits p s).relay = s.relay := by
  simp only [keepAliveByBits]; split <;> simp
@[simp] theorem keepAliveByBits_consist (p : Port) (s : State) : (keepAliveByBits p s).consist = s.consist := by
  simp only [keepAliveByBits]; split <;> simp
@[simp] theorem keepAliveByBits_door (p : Port) (s : State) : (keepAliveByBits p s).door = s.door := by
  simp only [keepAliveByBits]; split <;> simp
@[simp] theorem keepAliveByBits_heat (p : Port) (s : State) : (keepAliveByBits p s).heat = s.heat := by
  simp only [keepAliveByBits]; split <;> simp
@[simp] theorem keepAliveByBits_lines (p : Port) (s : State) : (keepAliveByBits p s).lines = s.lines := by
  simp only [keepAliveByBits]; split <;> simp
@[simp] theorem keepAliveByBits_faults (p : Port) (s : State) : (keepAliveByBits p s).faults = s.faults := by
  simp only [keepAliveByBits]; split <;> simp
@[simp] theorem keepAliveByBits_mgmt (p : Port) (s : State) : (keepAliveByBits p s).mgmt = s.mgmt := by
  simp only [keepAliveByBits]; split <;> simp

@[simp] theorem beginBreak_pending (p : Port) (s : State) : (beginBreak p s).pending = s.pending := by
  simp [beginBreak]
@[simp] theorem beginBreak_identity (p : Port) (s : State) : (beginBreak p s).identity = s.identity := by
  simp [beginBreak]
@[simp] theorem beginBreak_relay (p : Port) (s : State) : (beginBreak p s).relay = s.relay := by
  simp [beginBreak]
@[simp] theorem beginBreak_consist (p : Port) (s : State) : (beginBreak p s).consist = s.consist := by
  simp [beginBreak]
@[simp] theorem beginBreak_door (p : Port) (s : State) : (beginBreak p s).door = s.door := by
  simp [beginBreak]
@[simp] theorem beginBreak_heat (p : Port) (s : State) : (beginBreak p s).heat = s.heat := by
  simp [beginBreak]
@[simp] theorem beginBreak_lines (p : Port) (s : State) : (beginBreak p s).lines = s.lines := by
  simp [beginBreak]
@[simp] theorem beginBreak_faults (p : Port) (s : State) : (beginBreak p s).faults = s.faults := by
  simp [beginBreak]
@[simp] theorem beginBreak_mgmt (p : Port) (s : State) : (beginBreak p s).mgmt = s.mgmt := by
  simp [beginBreak]

theorem beginBreaks_pending (l : List Port) (s : State) :
    (l.foldl (fun s p => beginBreak p s) s).pending = s.pending := by
  induction l generalizing s with
  | nil => rfl
  | cons x l ih => simp [ih]
theorem beginBreaks_identity (l : List Port) (s : State) :
    (l.foldl (fun s p => beginBreak p s) s).identity = s.identity := by
  induction l generalizing s with
  | nil => rfl
  | cons x l ih => simp [ih]
theorem beginBreaks_relay (l : List Port) (s : State) :
    (l.foldl (fun s p => beginBreak p s) s).relay = s.relay := by
  induction l generalizing s with
  | nil => rfl
  | cons x l ih => simp [ih]
theorem beginBreaks_consist (l : List Port) (s : State) :
    (l.foldl (fun s p => beginBreak p s) s).consist = s.consist := by
  induction l generalizing s with
  | nil => rfl
  | cons x l ih => simp [ih]
theorem beginBreaks_door (l : List Port) (s : State) :
    (l.foldl (fun s p => beginBreak p s) s).door = s.door := by
  induction l generalizing s with
  | nil => rfl
  | cons x l ih => simp [ih]
theorem beginBreaks_heat (l : List Port) (s : State) :
    (l.foldl (fun s p => beginBreak p s) s).heat = s.heat := by
  induction l generalizing s with
  | nil => rfl
  | cons x l ih => simp [ih]
theorem beginBreaks_lines (l : List Port) (s : State) :
    (l.foldl (fun s p => beginBreak p s) s).lines = s.lines := by
  induction l generalizing s with
  | nil => rfl
  | cons x l ih => simp [ih]
theorem beginBreaks_faults (l : List Port) (s : State) :
    (l.foldl (fun s p => beginBreak p s) s).faults = s.faults := by
  induction l generalizing s with
  | nil => rfl
  | cons x l ih => simp [ih]
theorem beginBreaks_mgmt (l : List Port) (s : State) :
    (l.foldl (fun s p => beginBreak p s) s).mgmt = s.mgmt := by
  induction l generalizing s with
  | nil => rfl
  | cons x l ih => simp [ih]

@[simp] theorem sendBreaks_pending (l : List Port) (s : State) : (sendBreaks l s).pending = s.pending := by
  cases l with
  | nil => rfl
  | cons p l => simp only [sendBreaks, flush_pending, beginBreaks_pending]
@[simp] theorem sendBreaks_identity (l : List Port) (s : State) : (sendBreaks l s).identity = s.identity := by
  cases l with
  | nil => rfl
  | cons p l => simp only [sendBreaks, flush_identity, beginBreaks_identity]
@[simp] theorem sendBreaks_consist (l : List Port) (s : State) : (sendBreaks l s).consist = s.consist := by
  cases l with
  | nil => rfl
  | cons p l => simp only [sendBreaks, flush_consist, beginBreaks_consist]
@[simp] theorem sendBreaks_door (l : List Port) (s : State) : (sendBreaks l s).door = s.door := by
  cases l with
  | nil => rfl
  | cons p l => simp only [sendBreaks, flush_door, beginBreaks_door]
@[simp] theorem sendBreaks_heat (l : List Port) (s : State) : (sendBreaks l s).heat = s.heat := by
  cases l with
  | nil => rfl
  | cons p l => simp only [sendBreaks, flush_heat, beginBreaks_heat]
@[simp] theorem sendBreaks_lines (l : List Port) (s : State) : (sendBreaks l s).lines = s.lines := by
  cases l with
  | nil => rfl
  | cons p l => simp only [sendBreaks, flush_lines, beginBreaks_lines]

end Sys2Proof.Machine
end

