-- ==== Sys2Proof/Laws/Consist.lean ====
section
/-! SUPPORT. Changes of role and consist state: what each can do, and what it leaves unchanged. -/

namespace Sys2Proof.Machine

open Sys2Proof

@[simp] theorem abandonWalks_pending (s : State) : (abandonWalks s).pending = s.pending := by
  simp [abandonWalks]
@[simp] theorem abandonWalks_identity (s : State) : (abandonWalks s).identity = s.identity := by
  simp [abandonWalks]
@[simp] theorem abandonWalks_bypass (s : State) : (abandonWalks s).bypass = s.bypass := by
  simp [abandonWalks]
@[simp] theorem abandonWalks_ports (s : State) : (abandonWalks s).ports = s.ports := by
  simp [abandonWalks]
@[simp] theorem abandonWalks_relay (s : State) : (abandonWalks s).relay = s.relay := by
  simp [abandonWalks]
@[simp] theorem abandonWalks_consist (s : State) : (abandonWalks s).consist = s.consist := by
  simp [abandonWalks]
@[simp] theorem abandonWalks_lines (s : State) : (abandonWalks s).lines = s.lines := by
  simp [abandonWalks]
@[simp] theorem abandonWalks_faults (s : State) : (abandonWalks s).faults = s.faults := by
  simp [abandonWalks]
@[simp] theorem abandonWalks_mgmt (s : State) : (abandonWalks s).mgmt = s.mgmt := by
  simp [abandonWalks]

@[simp] theorem enterState_pending (r : Role) (x : ConsistState) (s : State) : (enterState r x s).pending = s.pending := by
  simp only [enterState]; (repeat' split) <;> simp
@[simp] theorem enterState_identity (r : Role) (x : ConsistState) (s : State) : (enterState r x s).identity = s.identity := by
  simp only [enterState]; (repeat' split) <;> simp
@[simp] theorem enterState_bypass (r : Role) (x : ConsistState) (s : State) : (enterState r x s).bypass = s.bypass := by
  simp only [enterState]; (repeat' split) <;> simp
@[simp] theorem enterState_ports (r : Role) (x : ConsistState) (s : State) : (enterState r x s).ports = s.ports := by
  simp only [enterState]; (repeat' split) <;> simp
@[simp] theorem enterState_relay (r : Role) (x : ConsistState) (s : State) : (enterState r x s).relay = s.relay := by
  simp only [enterState]; (repeat' split) <;> simp
@[simp] theorem enterState_lines (r : Role) (x : ConsistState) (s : State) : (enterState r x s).lines = s.lines := by
  simp only [enterState]; (repeat' split) <;> simp
@[simp] theorem enterState_faults (r : Role) (x : ConsistState) (s : State) : (enterState r x s).faults = s.faults := by
  simp only [enterState]; (repeat' split) <;> simp
@[simp] theorem enterState_mgmt (r : Role) (x : ConsistState) (s : State) : (enterState r x s).mgmt = s.mgmt := by
  simp only [enterState]; (repeat' split) <;> simp

@[simp] theorem clearConsist_pending (s : State) : (clearConsist s).pending = s.pending := by
  simp [clearConsist]
@[simp] theorem clearConsist_identity (s : State) : (clearConsist s).identity = s.identity := by
  simp [clearConsist]
@[simp] theorem clearConsist_bypass (s : State) : (clearConsist s).bypass = s.bypass := by
  simp [clearConsist]
@[simp] theorem clearConsist_ports (s : State) : (clearConsist s).ports = s.ports := by
  simp [clearConsist]
@[simp] theorem clearConsist_relay (s : State) : (clearConsist s).relay = s.relay := by
  simp [clearConsist]
@[simp] theorem clearConsist_door (s : State) : (clearConsist s).door = s.door := by
  simp [clearConsist]
@[simp] theorem clearConsist_heat (s : State) : (clearConsist s).heat = s.heat := by
  simp [clearConsist]
@[simp] theorem clearConsist_lines (s : State) : (clearConsist s).lines = s.lines := by
  simp [clearConsist]
@[simp] theorem clearConsist_timers (s : State) : (clearConsist s).timers = s.timers := by
  simp [clearConsist]
@[simp] theorem clearConsist_faults (s : State) : (clearConsist s).faults = s.faults := by
  simp [clearConsist]
@[simp] theorem clearConsist_mgmt (s : State) : (clearConsist s).mgmt = s.mgmt := by
  simp [clearConsist]

@[simp] theorem enterUninaugurated_pending (s : State) : (enterUninaugurated s).pending = s.pending := by
  simp [enterUninaugurated]
@[simp] theorem enterUninaugurated_identity (s : State) : (enterUninaugurated s).identity = s.identity := by
  simp [enterUninaugurated]
@[simp] theorem enterUninaugurated_bypass (s : State) : (enterUninaugurated s).bypass = s.bypass := by
  simp [enterUninaugurated]
@[simp] theorem enterUninaugurated_ports (s : State) : (enterUninaugurated s).ports = s.ports := by
  simp [enterUninaugurated]
@[simp] theorem enterUninaugurated_relay (s : State) : (enterUninaugurated s).relay = s.relay := by
  simp [enterUninaugurated]
@[simp] theorem enterUninaugurated_lines (s : State) : (enterUninaugurated s).lines = s.lines := by
  simp [enterUninaugurated]
@[simp] theorem enterUninaugurated_faults (s : State) : (enterUninaugurated s).faults = s.faults := by
  simp [enterUninaugurated]
@[simp] theorem enterUninaugurated_mgmt (s : State) : (enterUninaugurated s).mgmt = s.mgmt := by
  simp [enterUninaugurated]

@[simp] theorem enterBlocked_pending (w : BlockedReason) (s : State) : (enterBlocked w s).pending = s.pending := by
  simp [enterBlocked]
@[simp] theorem enterBlocked_identity (w : BlockedReason) (s : State) : (enterBlocked w s).identity = s.identity := by
  simp [enterBlocked]
@[simp] theorem enterBlocked_bypass (w : BlockedReason) (s : State) : (enterBlocked w s).bypass = s.bypass := by
  simp [enterBlocked]
@[simp] theorem enterBlocked_ports (w : BlockedReason) (s : State) : (enterBlocked w s).ports = s.ports := by
  simp [enterBlocked]
@[simp] theorem enterBlocked_relay (w : BlockedReason) (s : State) : (enterBlocked w s).relay = s.relay := by
  simp [enterBlocked]
@[simp] theorem enterBlocked_lines (w : BlockedReason) (s : State) : (enterBlocked w s).lines = s.lines := by
  simp [enterBlocked]
@[simp] theorem enterBlocked_faults (w : BlockedReason) (s : State) : (enterBlocked w s).faults = s.faults := by
  simp [enterBlocked]
@[simp] theorem enterBlocked_mgmt (w : BlockedReason) (s : State) : (enterBlocked w s).mgmt = s.mgmt := by
  simp [enterBlocked]

@[simp] theorem enterSuspect_pending (s : State) : (enterSuspect s).pending = s.pending := by
  simp [enterSuspect]
@[simp] theorem enterSuspect_identity (s : State) : (enterSuspect s).identity = s.identity := by
  simp [enterSuspect]
@[simp] theorem enterSuspect_bypass (s : State) : (enterSuspect s).bypass = s.bypass := by
  simp [enterSuspect]
@[simp] theorem enterSuspect_ports (s : State) : (enterSuspect s).ports = s.ports := by
  simp [enterSuspect]
@[simp] theorem enterSuspect_relay (s : State) : (enterSuspect s).relay = s.relay := by
  simp [enterSuspect]
@[simp] theorem enterSuspect_lines (s : State) : (enterSuspect s).lines = s.lines := by
  simp [enterSuspect]
@[simp] theorem enterSuspect_faults (s : State) : (enterSuspect s).faults = s.faults := by
  simp [enterSuspect]
@[simp] theorem enterSuspect_mgmt (s : State) : (enterSuspect s).mgmt = s.mgmt := by
  simp [enterSuspect]

@[simp] theorem enterSettling_pending (s : State) : (enterSettling s).pending = s.pending := by
  simp [enterSettling]
@[simp] theorem enterSettling_identity (s : State) : (enterSettling s).identity = s.identity := by
  simp [enterSettling]
@[simp] theorem enterSettling_bypass (s : State) : (enterSettling s).bypass = s.bypass := by
  simp [enterSettling]
@[simp] theorem enterSettling_ports (s : State) : (enterSettling s).ports = s.ports := by
  simp [enterSettling]
@[simp] theorem enterSettling_relay (s : State) : (enterSettling s).relay = s.relay := by
  simp [enterSettling]
@[simp] theorem enterSettling_lines (s : State) : (enterSettling s).lines = s.lines := by
  simp [enterSettling]
@[simp] theorem enterSettling_faults (s : State) : (enterSettling s).faults = s.faults := by
  simp [enterSettling]
@[simp] theorem enterSettling_mgmt (s : State) : (enterSettling s).mgmt = s.mgmt := by
  simp [enterSettling]

@[simp] theorem abandonAttempt_pending (t : TimerId) (s : State) : (abandonAttempt t s).pending = s.pending := by
  simp [abandonAttempt]
@[simp] theorem abandonAttempt_identity (t : TimerId) (s : State) : (abandonAttempt t s).identity = s.identity := by
  simp [abandonAttempt]
@[simp] theorem abandonAttempt_bypass (t : TimerId) (s : State) : (abandonAttempt t s).bypass = s.bypass := by
  simp [abandonAttempt]
@[simp] theorem abandonAttempt_ports (t : TimerId) (s : State) : (abandonAttempt t s).ports = s.ports := by
  simp [abandonAttempt]
@[simp] theorem abandonAttempt_relay (t : TimerId) (s : State) : (abandonAttempt t s).relay = s.relay := by
  simp [abandonAttempt]
@[simp] theorem abandonAttempt_door (t : TimerId) (s : State) : (abandonAttempt t s).door = s.door := by
  simp [abandonAttempt]
@[simp] theorem abandonAttempt_heat (t : TimerId) (s : State) : (abandonAttempt t s).heat = s.heat := by
  simp [abandonAttempt]
@[simp] theorem abandonAttempt_lines (t : TimerId) (s : State) : (abandonAttempt t s).lines = s.lines := by
  simp [abandonAttempt]
@[simp] theorem abandonAttempt_faults (t : TimerId) (s : State) : (abandonAttempt t s).faults = s.faults := by
  simp [abandonAttempt]
@[simp] theorem abandonAttempt_mgmt (t : TimerId) (s : State) : (abandonAttempt t s).mgmt = s.mgmt := by
  simp [abandonAttempt]

@[simp] theorem trigger_pending (s : State) : (trigger s).pending = s.pending := by
  simp only [trigger]; split <;> simp
@[simp] theorem trigger_identity (s : State) : (trigger s).identity = s.identity := by
  simp only [trigger]; split <;> simp
@[simp] theorem trigger_bypass (s : State) : (trigger s).bypass = s.bypass := by
  simp only [trigger]; split <;> simp
@[simp] theorem trigger_ports (s : State) : (trigger s).ports = s.ports := by
  simp only [trigger]; split <;> simp
@[simp] theorem trigger_relay (s : State) : (trigger s).relay = s.relay := by
  simp only [trigger]; split <;> simp
@[simp] theorem trigger_lines (s : State) : (trigger s).lines = s.lines := by
  simp only [trigger]; split <;> simp
@[simp] theorem trigger_faults (s : State) : (trigger s).faults = s.faults := by
  simp only [trigger]; split <;> simp
@[simp] theorem trigger_mgmt (s : State) : (trigger s).mgmt = s.mgmt := by
  simp only [trigger]; split <;> simp

@[simp] theorem becomeMaster_pending (s : State) : (becomeMaster s).pending = s.pending := by
  simp [becomeMaster]
@[simp] theorem becomeMaster_identity (s : State) : (becomeMaster s).identity = s.identity := by
  simp [becomeMaster]
@[simp] theorem becomeMaster_bypass (s : State) : (becomeMaster s).bypass = s.bypass := by
  simp [becomeMaster]
@[simp] theorem becomeMaster_ports (s : State) : (becomeMaster s).ports = s.ports := by
  simp [becomeMaster]
@[simp] theorem becomeMaster_relay (s : State) : (becomeMaster s).relay = s.relay := by
  simp [becomeMaster]
@[simp] theorem becomeMaster_lines (s : State) : (becomeMaster s).lines = s.lines := by
  simp [becomeMaster]
@[simp] theorem becomeMaster_faults (s : State) : (becomeMaster s).faults = s.faults := by
  simp [becomeMaster]
@[simp] theorem becomeMaster_mgmt (s : State) : (becomeMaster s).mgmt = s.mgmt := by
  simp [becomeMaster]

@[simp] theorem loseRole_pending (s : State) : (loseRole s).pending = s.pending := by
  simp only [loseRole]; split <;> simp
@[simp] theorem loseRole_identity (s : State) : (loseRole s).identity = s.identity := by
  simp only [loseRole]; split <;> simp
@[simp] theorem loseRole_bypass (s : State) : (loseRole s).bypass = s.bypass := by
  simp only [loseRole]; split <;> simp
@[simp] theorem loseRole_ports (s : State) : (loseRole s).ports = s.ports := by
  simp only [loseRole]; split <;> simp
@[simp] theorem loseRole_relay (s : State) : (loseRole s).relay = s.relay := by
  simp only [loseRole]; split <;> simp
@[simp] theorem loseRole_lines (s : State) : (loseRole s).lines = s.lines := by
  simp only [loseRole]; split <;> simp
@[simp] theorem loseRole_faults (s : State) : (loseRole s).faults = s.faults := by
  simp only [loseRole]; split <;> simp
@[simp] theorem loseRole_mgmt (s : State) : (loseRole s).mgmt = s.mgmt := by
  simp only [loseRole]; split <;> simp

@[simp] theorem evaluateRole_pending (s : State) : (evaluateRole s).pending = s.pending := by
  simp only [evaluateRole]; (repeat' split) <;> simp
@[simp] theorem evaluateRole_identity (s : State) : (evaluateRole s).identity = s.identity := by
  simp only [evaluateRole]; (repeat' split) <;> simp
@[simp] theorem evaluateRole_bypass (s : State) : (evaluateRole s).bypass = s.bypass := by
  simp only [evaluateRole]; (repeat' split) <;> simp
@[simp] theorem evaluateRole_ports (s : State) : (evaluateRole s).ports = s.ports := by
  simp only [evaluateRole]; (repeat' split) <;> simp
@[simp] theorem evaluateRole_relay (s : State) : (evaluateRole s).relay = s.relay := by
  simp only [evaluateRole]; (repeat' split) <;> simp
@[simp] theorem evaluateRole_lines (s : State) : (evaluateRole s).lines = s.lines := by
  simp only [evaluateRole]; (repeat' split) <;> simp
@[simp] theorem evaluateRole_faults (s : State) : (evaluateRole s).faults = s.faults := by
  simp only [evaluateRole]; (repeat' split) <;> simp
@[simp] theorem evaluateRole_mgmt (s : State) : (evaluateRole s).mgmt = s.mgmt := by
  simp only [evaluateRole]; (repeat' split) <;> simp

@[simp] theorem cabEdge_pending (s : State) : (cabEdge s).pending = s.pending := by
  simp only [cabEdge]; split <;> simp
@[simp] theorem cabEdge_identity (s : State) : (cabEdge s).identity = s.identity := by
  simp only [cabEdge]; split <;> simp
@[simp] theorem cabEdge_bypass (s : State) : (cabEdge s).bypass = s.bypass := by
  simp only [cabEdge]; split <;> simp
@[simp] theorem cabEdge_ports (s : State) : (cabEdge s).ports = s.ports := by
  simp only [cabEdge]; split <;> simp
@[simp] theorem cabEdge_relay (s : State) : (cabEdge s).relay = s.relay := by
  simp only [cabEdge]; split <;> simp
@[simp] theorem cabEdge_lines (s : State) : (cabEdge s).lines = s.lines := by
  simp only [cabEdge]; split <;> simp
@[simp] theorem cabEdge_mgmt (s : State) : (cabEdge s).mgmt = s.mgmt := by
  simp only [cabEdge]; split <;> simp

@[simp] theorem sendTopo_pending (l : List Port) (f : Frame) (s : State) : (sendTopo l f s).pending = s.pending := by
  unfold sendTopo; induction l generalizing s with
  | nil => rfl
  | cons x l ih => simp [ih]
@[simp] theorem sendTopo_identity (l : List Port) (f : Frame) (s : State) : (sendTopo l f s).identity = s.identity := by
  unfold sendTopo; induction l generalizing s with
  | nil => rfl
  | cons x l ih => simp [ih]
@[simp] theorem sendTopo_bypass (l : List Port) (f : Frame) (s : State) : (sendTopo l f s).bypass = s.bypass := by
  unfold sendTopo; induction l generalizing s with
  | nil => rfl
  | cons x l ih => simp [ih]
@[simp] theorem sendTopo_ports (l : List Port) (f : Frame) (s : State) : (sendTopo l f s).ports = s.ports := by
  unfold sendTopo; induction l generalizing s with
  | nil => rfl
  | cons x l ih => simp [ih]
@[simp] theorem sendTopo_consist (l : List Port) (f : Frame) (s : State) : (sendTopo l f s).consist = s.consist := by
  unfold sendTopo; induction l generalizing s with
  | nil => rfl
  | cons x l ih => simp [ih]
@[simp] theorem sendTopo_door (l : List Port) (f : Frame) (s : State) : (sendTopo l f s).door = s.door := by
  unfold sendTopo; induction l generalizing s with
  | nil => rfl
  | cons x l ih => simp [ih]
@[simp] theorem sendTopo_heat (l : List Port) (f : Frame) (s : State) : (sendTopo l f s).heat = s.heat := by
  unfold sendTopo; induction l generalizing s with
  | nil => rfl
  | cons x l ih => simp [ih]
@[simp] theorem sendTopo_lines (l : List Port) (f : Frame) (s : State) : (sendTopo l f s).lines = s.lines := by
  unfold sendTopo; induction l generalizing s with
  | nil => rfl
  | cons x l ih => simp [ih]
@[simp] theorem sendTopo_timers (l : List Port) (f : Frame) (s : State) : (sendTopo l f s).timers = s.timers := by
  unfold sendTopo; induction l generalizing s with
  | nil => rfl
  | cons x l ih => simp [ih]
@[simp] theorem sendTopo_mgmt (l : List Port) (f : Frame) (s : State) : (sendTopo l f s).mgmt = s.mgmt := by
  unfold sendTopo; induction l generalizing s with
  | nil => rfl
  | cons x l ih => simp [ih]

@[simp] theorem clearRestartReport_pending (e : TopoEvent) (s : State) : (clearRestartReport e s).pending = s.pending := by
  simp only [clearRestartReport]; split <;> simp
@[simp] theorem clearRestartReport_identity (e : TopoEvent) (s : State) : (clearRestartReport e s).identity = s.identity := by
  simp only [clearRestartReport]; split <;> simp
@[simp] theorem clearRestartReport_bypass (e : TopoEvent) (s : State) : (clearRestartReport e s).bypass = s.bypass := by
  simp only [clearRestartReport]; split <;> simp
@[simp] theorem clearRestartReport_ports (e : TopoEvent) (s : State) : (clearRestartReport e s).ports = s.ports := by
  simp only [clearRestartReport]; split <;> simp
@[simp] theorem clearRestartReport_relay (e : TopoEvent) (s : State) : (clearRestartReport e s).relay = s.relay := by
  simp only [clearRestartReport]; split <;> simp
@[simp] theorem clearRestartReport_door (e : TopoEvent) (s : State) : (clearRestartReport e s).door = s.door := by
  simp only [clearRestartReport]; split <;> simp
@[simp] theorem clearRestartReport_heat (e : TopoEvent) (s : State) : (clearRestartReport e s).heat = s.heat := by
  simp only [clearRestartReport]; split <;> simp
@[simp] theorem clearRestartReport_lines (e : TopoEvent) (s : State) : (clearRestartReport e s).lines = s.lines := by
  simp only [clearRestartReport]; split <;> simp
@[simp] theorem clearRestartReport_timers (e : TopoEvent) (s : State) : (clearRestartReport e s).timers = s.timers := by
  simp only [clearRestartReport]; split <;> simp
@[simp] theorem clearRestartReport_faults (e : TopoEvent) (s : State) : (clearRestartReport e s).faults = s.faults := by
  simp only [clearRestartReport]; split <;> simp
@[simp] theorem clearRestartReport_mgmt (e : TopoEvent) (s : State) : (clearRestartReport e s).mgmt = s.mgmt := by
  simp only [clearRestartReport]; split <;> simp

@[simp] theorem memberReport_pending (e : TopoEvent) (p : Port) (s : State) : (memberReport e p s).pending = s.pending := by
  simp only [memberReport]; split <;> simp
@[simp] theorem memberReport_identity (e : TopoEvent) (p : Port) (s : State) : (memberReport e p s).identity = s.identity := by
  simp only [memberReport]; split <;> simp
@[simp] theorem memberReport_bypass (e : TopoEvent) (p : Port) (s : State) : (memberReport e p s).bypass = s.bypass := by
  simp only [memberReport]; split <;> simp
@[simp] theorem memberReport_ports (e : TopoEvent) (p : Port) (s : State) : (memberReport e p s).ports = s.ports := by
  simp only [memberReport]; split <;> simp
@[simp] theorem memberReport_lines (e : TopoEvent) (p : Port) (s : State) : (memberReport e p s).lines = s.lines := by
  simp only [memberReport]; split <;> simp
@[simp] theorem memberReport_mgmt (e : TopoEvent) (p : Port) (s : State) : (memberReport e p s).mgmt = s.mgmt := by
  simp only [memberReport]; split <;> simp

@[simp] theorem portReport_pending (e : TopoEvent) (p : Port) (s : State) : (portReport e p s).pending = s.pending := by
  simp only [portReport]; (repeat' split) <;> simp
@[simp] theorem portReport_identity (e : TopoEvent) (p : Port) (s : State) : (portReport e p s).identity = s.identity := by
  simp only [portReport]; (repeat' split) <;> simp
@[simp] theorem portReport_bypass (e : TopoEvent) (p : Port) (s : State) : (portReport e p s).bypass = s.bypass := by
  simp only [portReport]; (repeat' split) <;> simp
@[simp] theorem portReport_ports (e : TopoEvent) (p : Port) (s : State) : (portReport e p s).ports = s.ports := by
  simp only [portReport]; (repeat' split) <;> simp
@[simp] theorem portReport_lines (e : TopoEvent) (p : Port) (s : State) : (portReport e p s).lines = s.lines := by
  simp only [portReport]; (repeat' split) <;> simp
@[simp] theorem portReport_mgmt (e : TopoEvent) (p : Port) (s : State) : (portReport e p s).mgmt = s.mgmt := by
  simp only [portReport]; (repeat' split) <;> simp

end Sys2Proof.Machine
end

