-- ==== Sys2Proof/Laws/Link.lean ====
section
/-! SUPPORT. The segment controllers' operations: what each can do, and what it leaves unchanged. -/

namespace Sys2Proof.Machine

open Sys2Proof

@[simp] theorem takeDown_pending (p : Port) (s : State) : (takeDown p s).pending = s.pending := by
  simp [takeDown]
@[simp] theorem takeDown_identity (p : Port) (s : State) : (takeDown p s).identity = s.identity := by
  simp [takeDown]
@[simp] theorem takeDown_bypass (p : Port) (s : State) : (takeDown p s).bypass = s.bypass := by
  simp [takeDown]
@[simp] theorem takeDown_relay (p : Port) (s : State) : (takeDown p s).relay = s.relay := by
  simp [takeDown]
@[simp] theorem takeDown_consist (p : Port) (s : State) : (takeDown p s).consist = s.consist := by
  simp [takeDown]
@[simp] theorem takeDown_door (p : Port) (s : State) : (takeDown p s).door = s.door := by
  simp [takeDown]
@[simp] theorem takeDown_heat (p : Port) (s : State) : (takeDown p s).heat = s.heat := by
  simp [takeDown]
@[simp] theorem takeDown_lines (p : Port) (s : State) : (takeDown p s).lines = s.lines := by
  simp [takeDown]
@[simp] theorem takeDown_faults (p : Port) (s : State) : (takeDown p s).faults = s.faults := by
  simp [takeDown]
@[simp] theorem takeDown_mgmt (p : Port) (s : State) : (takeDown p s).mgmt = s.mgmt := by
  simp [takeDown]

@[simp] theorem becomeUp_pending (p : Port) (s : State) : (becomeUp p s).pending = s.pending := by
  simp [becomeUp]
@[simp] theorem becomeUp_identity (p : Port) (s : State) : (becomeUp p s).identity = s.identity := by
  simp [becomeUp]
@[simp] theorem becomeUp_bypass (p : Port) (s : State) : (becomeUp p s).bypass = s.bypass := by
  simp [becomeUp]
@[simp] theorem becomeUp_lines (p : Port) (s : State) : (becomeUp p s).lines = s.lines := by
  simp [becomeUp]
@[simp] theorem becomeUp_mgmt (p : Port) (s : State) : (becomeUp p s).mgmt = s.mgmt := by
  simp [becomeUp]

@[simp] theorem validItem_pending (p : Port) (s : State) : (validItem p s).pending = s.pending := by
  simp only [validItem]; (repeat' split) <;> simp
@[simp] theorem validItem_identity (p : Port) (s : State) : (validItem p s).identity = s.identity := by
  simp only [validItem]; (repeat' split) <;> simp
@[simp] theorem validItem_bypass (p : Port) (s : State) : (validItem p s).bypass = s.bypass := by
  simp only [validItem]; (repeat' split) <;> simp
@[simp] theorem validItem_lines (p : Port) (s : State) : (validItem p s).lines = s.lines := by
  simp only [validItem]; (repeat' split) <;> simp
@[simp] theorem validItem_mgmt (p : Port) (s : State) : (validItem p s).mgmt = s.mgmt := by
  simp only [validItem]; (repeat' split) <;> simp

@[simp] theorem enterFaulted_pending (p : Port) (s : State) : (enterFaulted p s).pending = s.pending := by
  simp [enterFaulted]
@[simp] theorem enterFaulted_identity (p : Port) (s : State) : (enterFaulted p s).identity = s.identity := by
  simp [enterFaulted]
@[simp] theorem enterFaulted_bypass (p : Port) (s : State) : (enterFaulted p s).bypass = s.bypass := by
  simp [enterFaulted]
@[simp] theorem enterFaulted_lines (p : Port) (s : State) : (enterFaulted p s).lines = s.lines := by
  simp [enterFaulted]

@[simp] theorem invalidItem_pending (p : Port) (s : State) : (invalidItem p s).pending = s.pending := by
  simp only [invalidItem]; (repeat' split) <;> simp
@[simp] theorem invalidItem_identity (p : Port) (s : State) : (invalidItem p s).identity = s.identity := by
  simp only [invalidItem]; (repeat' split) <;> simp
@[simp] theorem invalidItem_bypass (p : Port) (s : State) : (invalidItem p s).bypass = s.bypass := by
  simp only [invalidItem]; (repeat' split) <;> simp
@[simp] theorem invalidItem_lines (p : Port) (s : State) : (invalidItem p s).lines = s.lines := by
  simp only [invalidItem]; (repeat' split) <;> simp

@[simp] theorem silenceUp_pending (p : Port) (s : State) : (silenceUp p s).pending = s.pending := by
  simp [silenceUp]
@[simp] theorem silenceUp_identity (p : Port) (s : State) : (silenceUp p s).identity = s.identity := by
  simp [silenceUp]
@[simp] theorem silenceUp_bypass (p : Port) (s : State) : (silenceUp p s).bypass = s.bypass := by
  simp [silenceUp]
@[simp] theorem silenceUp_lines (p : Port) (s : State) : (silenceUp p s).lines = s.lines := by
  simp [silenceUp]

@[simp] theorem setRx_pending (p : Port) (x : RxCondition) (s : State) : (setRx p x s).pending = s.pending := by
  simp [setRx]
@[simp] theorem setRx_identity (p : Port) (x : RxCondition) (s : State) : (setRx p x s).identity = s.identity := by
  simp [setRx]
@[simp] theorem setRx_bypass (p : Port) (x : RxCondition) (s : State) : (setRx p x s).bypass = s.bypass := by
  simp [setRx]
@[simp] theorem setRx_relay (p : Port) (x : RxCondition) (s : State) : (setRx p x s).relay = s.relay := by
  simp [setRx]
@[simp] theorem setRx_consist (p : Port) (x : RxCondition) (s : State) : (setRx p x s).consist = s.consist := by
  simp [setRx]
@[simp] theorem setRx_door (p : Port) (x : RxCondition) (s : State) : (setRx p x s).door = s.door := by
  simp [setRx]
@[simp] theorem setRx_heat (p : Port) (x : RxCondition) (s : State) : (setRx p x s).heat = s.heat := by
  simp [setRx]
@[simp] theorem setRx_lines (p : Port) (x : RxCondition) (s : State) : (setRx p x s).lines = s.lines := by
  simp [setRx]
@[simp] theorem setRx_timers (p : Port) (x : RxCondition) (s : State) : (setRx p x s).timers = s.timers := by
  simp [setRx]
@[simp] theorem setRx_faults (p : Port) (x : RxCondition) (s : State) : (setRx p x s).faults = s.faults := by
  simp [setRx]
@[simp] theorem setRx_mgmt (p : Port) (x : RxCondition) (s : State) : (setRx p x s).mgmt = s.mgmt := by
  simp [setRx]

/-- R4, R15: a step of the timebase changes nothing of a port, or finds that a receiving port has taken START or bits:
T1 is full, and the port is in a frame if its frame has not ended. -/
theorem midFrame_cases (p : Port) (r : Reception) (s : State) :
    midFrame p r s = s
    ∨ (s.receives p = true ∧ r = .ended ∧ midFrame p r s = keepAlive p s)
    ∨ ∃ x, (r = .underWay ∧ x = .inFrame ∨ r = .bitsOver ∧ x = .bitsOver) ∧ s.receives p = true
      ∧ (s.port p).rx.open = true ∧ midFrame p r s = keepAlive p (s.setPort p { s.port p with rx := x }) := by
  cases r <;> simp only [midFrame, hearAtStep] <;> (repeat' split) <;> simp_all

@[simp] theorem midFrame_pending (p : Port) (r : Reception) (s : State) : (midFrame p r s).pending = s.pending := by
  rcases midFrame_cases p r s with h | ⟨-, -, h⟩ | ⟨x, -, -, -, h⟩ <;> simp [h]
@[simp] theorem midFrame_identity (p : Port) (r : Reception) (s : State) : (midFrame p r s).identity = s.identity := by
  rcases midFrame_cases p r s with h | ⟨-, -, h⟩ | ⟨x, -, -, -, h⟩ <;> simp [h]
@[simp] theorem midFrame_bypass (p : Port) (r : Reception) (s : State) : (midFrame p r s).bypass = s.bypass := by
  rcases midFrame_cases p r s with h | ⟨-, -, h⟩ | ⟨x, -, -, -, h⟩ <;> simp [h]
@[simp] theorem midFrame_relay (p : Port) (r : Reception) (s : State) : (midFrame p r s).relay = s.relay := by
  rcases midFrame_cases p r s with h | ⟨-, -, h⟩ | ⟨x, -, -, -, h⟩ <;> simp [h]
@[simp] theorem midFrame_consist (p : Port) (r : Reception) (s : State) : (midFrame p r s).consist = s.consist := by
  rcases midFrame_cases p r s with h | ⟨-, -, h⟩ | ⟨x, -, -, -, h⟩ <;> simp [h]
@[simp] theorem midFrame_door (p : Port) (r : Reception) (s : State) : (midFrame p r s).door = s.door := by
  rcases midFrame_cases p r s with h | ⟨-, -, h⟩ | ⟨x, -, -, -, h⟩ <;> simp [h]
@[simp] theorem midFrame_heat (p : Port) (r : Reception) (s : State) : (midFrame p r s).heat = s.heat := by
  rcases midFrame_cases p r s with h | ⟨-, -, h⟩ | ⟨x, -, -, -, h⟩ <;> simp [h]
@[simp] theorem midFrame_lines (p : Port) (r : Reception) (s : State) : (midFrame p r s).lines = s.lines := by
  rcases midFrame_cases p r s with h | ⟨-, -, h⟩ | ⟨x, -, -, -, h⟩ <;> simp [h]
@[simp] theorem midFrame_faults (p : Port) (r : Reception) (s : State) : (midFrame p r s).faults = s.faults := by
  rcases midFrame_cases p r s with h | ⟨-, -, h⟩ | ⟨x, -, -, -, h⟩ <;> simp [h]
@[simp] theorem midFrame_mgmt (p : Port) (r : Reception) (s : State) : (midFrame p r s).mgmt = s.mgmt := by
  rcases midFrame_cases p r s with h | ⟨-, -, h⟩ | ⟨x, -, -, -, h⟩ <;> simp [h]
@[simp] theorem receiveAtStep_pending (now : Instant) (s : State) : (receiveAtStep now s).pending = s.pending := by
  simp [receiveAtStep]
@[simp] theorem receiveAtStep_identity (now : Instant) (s : State) : (receiveAtStep now s).identity = s.identity := by
  simp [receiveAtStep]
@[simp] theorem receiveAtStep_bypass (now : Instant) (s : State) : (receiveAtStep now s).bypass = s.bypass := by
  simp [receiveAtStep]
@[simp] theorem receiveAtStep_relay (now : Instant) (s : State) : (receiveAtStep now s).relay = s.relay := by
  simp [receiveAtStep]
@[simp] theorem receiveAtStep_consist (now : Instant) (s : State) : (receiveAtStep now s).consist = s.consist := by
  simp [receiveAtStep]
@[simp] theorem receiveAtStep_door (now : Instant) (s : State) : (receiveAtStep now s).door = s.door := by
  simp [receiveAtStep]
@[simp] theorem receiveAtStep_heat (now : Instant) (s : State) : (receiveAtStep now s).heat = s.heat := by
  simp [receiveAtStep]
@[simp] theorem receiveAtStep_lines (now : Instant) (s : State) : (receiveAtStep now s).lines = s.lines := by
  simp [receiveAtStep]
@[simp] theorem receiveAtStep_faults (now : Instant) (s : State) : (receiveAtStep now s).faults = s.faults := by
  simp [receiveAtStep]
@[simp] theorem receiveAtStep_mgmt (now : Instant) (s : State) : (receiveAtStep now s).mgmt = s.mgmt := by
  simp [receiveAtStep]
/-- R15: a frame being received changes no link state. -/
@[simp] theorem midFrame_isUp (p q : Port) (r : Reception) (s : State) : (midFrame p r s).isUp q = s.isUp q := by
  rcases midFrame_cases p r s with h | ⟨-, -, h⟩ | ⟨x, -, -, -, h⟩
  · rw [h]
  · rw [h, State.isUp, State.port, keepAlive_ports]; rfl
  · rw [h, State.isUp, State.port, keepAlive_ports]; cases p <;> cases q <;> rfl
@[simp] theorem receiveAtStep_isUp (now : Instant) (q : Port) (s : State) : (receiveAtStep now s).isUp q = s.isUp q := by
  simp [receiveAtStep]

@[simp] theorem scoreFrame_pending (p : Port) (s : State) : (scoreFrame p s).pending = s.pending := by
  simp [scoreFrame]
@[simp] theorem scoreFrame_identity (p : Port) (s : State) : (scoreFrame p s).identity = s.identity := by
  simp [scoreFrame]
@[simp] theorem scoreFrame_bypass (p : Port) (s : State) : (scoreFrame p s).bypass = s.bypass := by
  simp [scoreFrame]
@[simp] theorem scoreFrame_relay (p : Port) (s : State) : (scoreFrame p s).relay = s.relay := by
  simp [scoreFrame]
@[simp] theorem scoreFrame_consist (p : Port) (s : State) : (scoreFrame p s).consist = s.consist := by
  simp [scoreFrame]
@[simp] theorem scoreFrame_door (p : Port) (s : State) : (scoreFrame p s).door = s.door := by
  simp [scoreFrame]
@[simp] theorem scoreFrame_heat (p : Port) (s : State) : (scoreFrame p s).heat = s.heat := by
  simp [scoreFrame]
@[simp] theorem scoreFrame_lines (p : Port) (s : State) : (scoreFrame p s).lines = s.lines := by
  simp [scoreFrame]
@[simp] theorem scoreFrame_timers (p : Port) (s : State) : (scoreFrame p s).timers = s.timers := by
  simp [scoreFrame]
@[simp] theorem scoreFrame_faults (p : Port) (s : State) : (scoreFrame p s).faults = s.faults := by
  simp [scoreFrame]
@[simp] theorem scoreFrame_mgmt (p : Port) (s : State) : (scoreFrame p s).mgmt = s.mgmt := by
  simp [scoreFrame]

@[simp] theorem dropHead_pending (p : Port) (l : Level) (s : State) : (dropHead p l s).pending = s.pending := by
  simp [dropHead]
@[simp] theorem dropHead_identity (p : Port) (l : Level) (s : State) : (dropHead p l s).identity = s.identity := by
  simp [dropHead]
@[simp] theorem dropHead_bypass (p : Port) (l : Level) (s : State) : (dropHead p l s).bypass = s.bypass := by
  simp [dropHead]
@[simp] theorem dropHead_ports (p : Port) (l : Level) (s : State) : (dropHead p l s).ports = s.ports := by
  simp [dropHead]
@[simp] theorem dropHead_consist (p : Port) (l : Level) (s : State) : (dropHead p l s).consist = s.consist := by
  simp [dropHead]
@[simp] theorem dropHead_door (p : Port) (l : Level) (s : State) : (dropHead p l s).door = s.door := by
  simp [dropHead]
@[simp] theorem dropHead_heat (p : Port) (l : Level) (s : State) : (dropHead p l s).heat = s.heat := by
  simp [dropHead]
@[simp] theorem dropHead_lines (p : Port) (l : Level) (s : State) : (dropHead p l s).lines = s.lines := by
  simp [dropHead]
@[simp] theorem dropHead_timers (p : Port) (l : Level) (s : State) : (dropHead p l s).timers = s.timers := by
  simp [dropHead]
@[simp] theorem dropHead_faults (p : Port) (l : Level) (s : State) : (dropHead p l s).faults = s.faults := by
  simp [dropHead]
@[simp] theorem dropHead_mgmt (p : Port) (l : Level) (s : State) : (dropHead p l s).mgmt = s.mgmt := by
  simp [dropHead]

@[simp] theorem recordBadKind_pending (p : Port) (w : FrameFailure) (s : State) : (recordBadKind p w s).pending = s.pending := by
  simp only [recordBadKind]; split <;> simp
@[simp] theorem recordBadKind_identity (p : Port) (w : FrameFailure) (s : State) : (recordBadKind p w s).identity = s.identity := by
  simp only [recordBadKind]; split <;> simp
@[simp] theorem recordBadKind_bypass (p : Port) (w : FrameFailure) (s : State) : (recordBadKind p w s).bypass = s.bypass := by
  simp only [recordBadKind]; split <;> simp
@[simp] theorem recordBadKind_ports (p : Port) (w : FrameFailure) (s : State) : (recordBadKind p w s).ports = s.ports := by
  simp only [recordBadKind]; split <;> simp
@[simp] theorem recordBadKind_relay (p : Port) (w : FrameFailure) (s : State) : (recordBadKind p w s).relay = s.relay := by
  simp only [recordBadKind]; split <;> simp
@[simp] theorem recordBadKind_consist (p : Port) (w : FrameFailure) (s : State) : (recordBadKind p w s).consist = s.consist := by
  simp only [recordBadKind]; split <;> simp
@[simp] theorem recordBadKind_door (p : Port) (w : FrameFailure) (s : State) : (recordBadKind p w s).door = s.door := by
  simp only [recordBadKind]; split <;> simp
@[simp] theorem recordBadKind_heat (p : Port) (w : FrameFailure) (s : State) : (recordBadKind p w s).heat = s.heat := by
  simp only [recordBadKind]; split <;> simp
@[simp] theorem recordBadKind_lines (p : Port) (w : FrameFailure) (s : State) : (recordBadKind p w s).lines = s.lines := by
  simp only [recordBadKind]; split <;> simp
@[simp] theorem recordBadKind_timers (p : Port) (w : FrameFailure) (s : State) : (recordBadKind p w s).timers = s.timers := by
  simp only [recordBadKind]; split <;> simp
@[simp] theorem recordBadKind_mgmt (p : Port) (w : FrameFailure) (s : State) : (recordBadKind p w s).mgmt = s.mgmt := by
  simp only [recordBadKind]; split <;> simp

end Sys2Proof.Machine
end

