-- ==== Sys2Proof/Laws/Walks.lean ====
section
/-! SUPPORT. The master's walks: what each can do, and what it leaves unchanged. -/

namespace Sys2Proof.Machine

open Sys2Proof

@[simp] theorem takeSummary_pending (f : Frame) (x : SumBody) (s : State) : (takeSummary f x s).pending = s.pending := by
  simp only [takeSummary]; split <;> simp
@[simp] theorem takeSummary_identity (f : Frame) (x : SumBody) (s : State) : (takeSummary f x s).identity = s.identity := by
  simp only [takeSummary]; split <;> simp
@[simp] theorem takeSummary_bypass (f : Frame) (x : SumBody) (s : State) : (takeSummary f x s).bypass = s.bypass := by
  simp only [takeSummary]; split <;> simp
@[simp] theorem takeSummary_ports (f : Frame) (x : SumBody) (s : State) : (takeSummary f x s).ports = s.ports := by
  simp only [takeSummary]; split <;> simp
@[simp] theorem takeSummary_lines (f : Frame) (x : SumBody) (s : State) : (takeSummary f x s).lines = s.lines := by
  simp only [takeSummary]; split <;> simp
@[simp] theorem takeSummary_mgmt (f : Frame) (x : SumBody) (s : State) : (takeSummary f x s).mgmt = s.mgmt := by
  simp only [takeSummary]; split <;> simp

@[simp] theorem numberSummaryWalk_pending (s : State) : (numberSummaryWalk s).pending = s.pending := by
  simp [numberSummaryWalk]
@[simp] theorem numberSummaryWalk_identity (s : State) : (numberSummaryWalk s).identity = s.identity := by
  simp [numberSummaryWalk]
@[simp] theorem numberSummaryWalk_bypass (s : State) : (numberSummaryWalk s).bypass = s.bypass := by
  simp [numberSummaryWalk]
@[simp] theorem numberSummaryWalk_ports (s : State) : (numberSummaryWalk s).ports = s.ports := by
  simp [numberSummaryWalk]
@[simp] theorem numberSummaryWalk_relay (s : State) : (numberSummaryWalk s).relay = s.relay := by
  simp [numberSummaryWalk]
@[simp] theorem numberSummaryWalk_consist (s : State) : (numberSummaryWalk s).consist = s.consist := by
  simp [numberSummaryWalk]
@[simp] theorem numberSummaryWalk_heat (s : State) : (numberSummaryWalk s).heat = s.heat := by
  simp [numberSummaryWalk]
@[simp] theorem numberSummaryWalk_lines (s : State) : (numberSummaryWalk s).lines = s.lines := by
  simp [numberSummaryWalk]
@[simp] theorem numberSummaryWalk_timers (s : State) : (numberSummaryWalk s).timers = s.timers := by
  simp [numberSummaryWalk]
@[simp] theorem numberSummaryWalk_faults (s : State) : (numberSummaryWalk s).faults = s.faults := by
  simp [numberSummaryWalk]
@[simp] theorem numberSummaryWalk_mgmt (s : State) : (numberSummaryWalk s).mgmt = s.mgmt := by
  simp [numberSummaryWalk]

@[simp] theorem startSummaryWalk_pending (s : State) : (startSummaryWalk s).pending = s.pending := by
  simp only [startSummaryWalk]; split <;> simp
@[simp] theorem startSummaryWalk_identity (s : State) : (startSummaryWalk s).identity = s.identity := by
  simp only [startSummaryWalk]; split <;> simp
@[simp] theorem startSummaryWalk_bypass (s : State) : (startSummaryWalk s).bypass = s.bypass := by
  simp only [startSummaryWalk]; split <;> simp
@[simp] theorem startSummaryWalk_ports (s : State) : (startSummaryWalk s).ports = s.ports := by
  simp only [startSummaryWalk]; split <;> simp
@[simp] theorem startSummaryWalk_lines (s : State) : (startSummaryWalk s).lines = s.lines := by
  simp only [startSummaryWalk]; split <;> simp
@[simp] theorem startSummaryWalk_mgmt (s : State) : (startSummaryWalk s).mgmt = s.mgmt := by
  simp only [startSummaryWalk]; split <;> simp

@[simp] theorem nextSummaryWalk_pending (s : State) : (nextSummaryWalk s).pending = s.pending := by
  simp only [nextSummaryWalk]; split <;> simp
@[simp] theorem nextSummaryWalk_identity (s : State) : (nextSummaryWalk s).identity = s.identity := by
  simp only [nextSummaryWalk]; split <;> simp
@[simp] theorem nextSummaryWalk_bypass (s : State) : (nextSummaryWalk s).bypass = s.bypass := by
  simp only [nextSummaryWalk]; split <;> simp
@[simp] theorem nextSummaryWalk_ports (s : State) : (nextSummaryWalk s).ports = s.ports := by
  simp only [nextSummaryWalk]; split <;> simp
@[simp] theorem nextSummaryWalk_lines (s : State) : (nextSummaryWalk s).lines = s.lines := by
  simp only [nextSummaryWalk]; split <;> simp
@[simp] theorem nextSummaryWalk_mgmt (s : State) : (nextSummaryWalk s).mgmt = s.mgmt := by
  simp only [nextSummaryWalk]; split <;> simp

@[simp] theorem takeHeat_pending (h : Header) (x : HeatBody) (s : State) : (takeHeat h x s).pending = s.pending := by
  unfold takeHeat masterReturn; dsimp only; split <;> simp
@[simp] theorem takeHeat_identity (h : Header) (x : HeatBody) (s : State) : (takeHeat h x s).identity = s.identity := by
  unfold takeHeat masterReturn; dsimp only; split <;> simp
@[simp] theorem takeHeat_bypass (h : Header) (x : HeatBody) (s : State) : (takeHeat h x s).bypass = s.bypass := by
  unfold takeHeat masterReturn; dsimp only; split <;> simp
@[simp] theorem takeHeat_ports (h : Header) (x : HeatBody) (s : State) : (takeHeat h x s).ports = s.ports := by
  unfold takeHeat masterReturn; dsimp only; split <;> simp
@[simp] theorem takeHeat_consist (h : Header) (x : HeatBody) (s : State) : (takeHeat h x s).consist = s.consist := by
  unfold takeHeat masterReturn; dsimp only; split <;> simp
@[simp] theorem takeHeat_door (h : Header) (x : HeatBody) (s : State) : (takeHeat h x s).door = s.door := by
  unfold takeHeat masterReturn; dsimp only; split <;> simp
@[simp] theorem takeHeat_lines (h : Header) (x : HeatBody) (s : State) : (takeHeat h x s).lines = s.lines := by
  unfold takeHeat masterReturn; dsimp only; split <;> simp
@[simp] theorem takeHeat_mgmt (h : Header) (x : HeatBody) (s : State) : (takeHeat h x s).mgmt = s.mgmt := by
  unfold takeHeat masterReturn; dsimp only; split <;> simp

@[simp] theorem numberHeatWalk_pending (s : State) : (numberHeatWalk s).pending = s.pending := by
  simp [numberHeatWalk]
@[simp] theorem numberHeatWalk_identity (s : State) : (numberHeatWalk s).identity = s.identity := by
  simp [numberHeatWalk]
@[simp] theorem numberHeatWalk_bypass (s : State) : (numberHeatWalk s).bypass = s.bypass := by
  simp [numberHeatWalk]
@[simp] theorem numberHeatWalk_ports (s : State) : (numberHeatWalk s).ports = s.ports := by
  simp [numberHeatWalk]
@[simp] theorem numberHeatWalk_relay (s : State) : (numberHeatWalk s).relay = s.relay := by
  simp [numberHeatWalk]
@[simp] theorem numberHeatWalk_consist (s : State) : (numberHeatWalk s).consist = s.consist := by
  simp [numberHeatWalk]
@[simp] theorem numberHeatWalk_door (s : State) : (numberHeatWalk s).door = s.door := by
  simp [numberHeatWalk]
@[simp] theorem numberHeatWalk_lines (s : State) : (numberHeatWalk s).lines = s.lines := by
  simp [numberHeatWalk]
@[simp] theorem numberHeatWalk_timers (s : State) : (numberHeatWalk s).timers = s.timers := by
  simp [numberHeatWalk]
@[simp] theorem numberHeatWalk_faults (s : State) : (numberHeatWalk s).faults = s.faults := by
  simp [numberHeatWalk]
@[simp] theorem numberHeatWalk_mgmt (s : State) : (numberHeatWalk s).mgmt = s.mgmt := by
  simp [numberHeatWalk]

@[simp] theorem startHeatWalk_pending (s : State) : (startHeatWalk s).pending = s.pending := by
  simp only [startHeatWalk]; split <;> simp
@[simp] theorem startHeatWalk_identity (s : State) : (startHeatWalk s).identity = s.identity := by
  simp only [startHeatWalk]; split <;> simp
@[simp] theorem startHeatWalk_bypass (s : State) : (startHeatWalk s).bypass = s.bypass := by
  simp only [startHeatWalk]; split <;> simp
@[simp] theorem startHeatWalk_ports (s : State) : (startHeatWalk s).ports = s.ports := by
  simp only [startHeatWalk]; split <;> simp
@[simp] theorem startHeatWalk_consist (s : State) : (startHeatWalk s).consist = s.consist := by
  simp only [startHeatWalk]; split <;> simp
@[simp] theorem startHeatWalk_door (s : State) : (startHeatWalk s).door = s.door := by
  simp only [startHeatWalk]; split <;> simp
@[simp] theorem startHeatWalk_lines (s : State) : (startHeatWalk s).lines = s.lines := by
  simp only [startHeatWalk]; split <;> simp
@[simp] theorem startHeatWalk_mgmt (s : State) : (startHeatWalk s).mgmt = s.mgmt := by
  simp only [startHeatWalk]; split <;> simp

@[simp] theorem nextHeatWalk_pending (s : State) : (nextHeatWalk s).pending = s.pending := by
  simp only [nextHeatWalk]; split <;> simp
@[simp] theorem nextHeatWalk_identity (s : State) : (nextHeatWalk s).identity = s.identity := by
  simp only [nextHeatWalk]; split <;> simp
@[simp] theorem nextHeatWalk_bypass (s : State) : (nextHeatWalk s).bypass = s.bypass := by
  simp only [nextHeatWalk]; split <;> simp
@[simp] theorem nextHeatWalk_ports (s : State) : (nextHeatWalk s).ports = s.ports := by
  simp only [nextHeatWalk]; split <;> simp
@[simp] theorem nextHeatWalk_consist (s : State) : (nextHeatWalk s).consist = s.consist := by
  simp only [nextHeatWalk]; split <;> simp
@[simp] theorem nextHeatWalk_door (s : State) : (nextHeatWalk s).door = s.door := by
  simp only [nextHeatWalk]; split <;> simp
@[simp] theorem nextHeatWalk_lines (s : State) : (nextHeatWalk s).lines = s.lines := by
  simp only [nextHeatWalk]; split <;> simp
@[simp] theorem nextHeatWalk_mgmt (s : State) : (nextHeatWalk s).mgmt = s.mgmt := by
  simp only [nextHeatWalk]; split <;> simp

@[simp] theorem clearConsistGroups_pending (s : State) : (clearConsistGroups s).pending = s.pending := by
  simp [clearConsistGroups]
@[simp] theorem clearConsistGroups_identity (s : State) : (clearConsistGroups s).identity = s.identity := by
  simp [clearConsistGroups]
@[simp] theorem clearConsistGroups_bypass (s : State) : (clearConsistGroups s).bypass = s.bypass := by
  simp [clearConsistGroups]
@[simp] theorem clearConsistGroups_ports (s : State) : (clearConsistGroups s).ports = s.ports := by
  simp [clearConsistGroups]
@[simp] theorem clearConsistGroups_consist (s : State) : (clearConsistGroups s).consist = s.consist := by
  simp [clearConsistGroups]
@[simp] theorem clearConsistGroups_door (s : State) : (clearConsistGroups s).door = s.door := by
  simp [clearConsistGroups]
@[simp] theorem clearConsistGroups_heat (s : State) : (clearConsistGroups s).heat = s.heat := by
  simp [clearConsistGroups]
@[simp] theorem clearConsistGroups_lines (s : State) : (clearConsistGroups s).lines = s.lines := by
  simp [clearConsistGroups]
@[simp] theorem clearConsistGroups_timers (s : State) : (clearConsistGroups s).timers = s.timers := by
  simp [clearConsistGroups]
@[simp] theorem clearConsistGroups_faults (s : State) : (clearConsistGroups s).faults = s.faults := by
  simp [clearConsistGroups]
@[simp] theorem clearConsistGroups_mgmt (s : State) : (clearConsistGroups s).mgmt = s.mgmt := by
  simp [clearConsistGroups]

@[simp] theorem startWalks_pending (s : State) : (startWalks s).pending = s.pending := by
  simp only [startWalks]; split <;> simp
@[simp] theorem startWalks_identity (s : State) : (startWalks s).identity = s.identity := by
  simp only [startWalks]; split <;> simp
@[simp] theorem startWalks_bypass (s : State) : (startWalks s).bypass = s.bypass := by
  simp only [startWalks]; split <;> simp
@[simp] theorem startWalks_ports (s : State) : (startWalks s).ports = s.ports := by
  simp only [startWalks]; split <;> simp
@[simp] theorem startWalks_lines (s : State) : (startWalks s).lines = s.lines := by
  simp only [startWalks]; split <;> simp
@[simp] theorem startWalks_mgmt (s : State) : (startWalks s).mgmt = s.mgmt := by
  simp only [startWalks]; split <;> simp

@[simp] theorem installMaster_pending (e : Nat) (o : Orientation) (l : List Entry) (s : State) : (installMaster e o l s).pending = s.pending := by
  simp [installMaster]
@[simp] theorem installMaster_identity (e : Nat) (o : Orientation) (l : List Entry) (s : State) : (installMaster e o l s).identity = s.identity := by
  simp [installMaster]
@[simp] theorem installMaster_bypass (e : Nat) (o : Orientation) (l : List Entry) (s : State) : (installMaster e o l s).bypass = s.bypass := by
  simp [installMaster]
@[simp] theorem installMaster_ports (e : Nat) (o : Orientation) (l : List Entry) (s : State) : (installMaster e o l s).ports = s.ports := by
  simp [installMaster]
@[simp] theorem installMaster_lines (e : Nat) (o : Orientation) (l : List Entry) (s : State) : (installMaster e o l s).lines = s.lines := by
  simp [installMaster]
@[simp] theorem installMaster_mgmt (e : Nat) (o : Orientation) (l : List Entry) (s : State) : (installMaster e o l s).mgmt = s.mgmt := by
  simp [installMaster]

end Sys2Proof.Machine
end

