-- ==== Sys2Proof/Laws/Arrival.lean ====
section
/-! SUPPORT. A frame that arrives in UP, in the words of the statements (Safety.lean), and where the relay unit puts
frames. -/

namespace Sys2Proof.Machine

open Sys2Proof

/-- R4, R13, R15, R33: a frame of correct form on a port that takes it goes to its owner after the port's own part. -/
theorem frameArrives_of_takesFrame {p : Port} {f : Frame} {handle : State → State} {s : State} (ht : s.takesFrame p)
    (hf : f.formOk = true) : frameArrives p f handle s = handle (s.afterFrame p) := by
  obtain ⟨⟨h1, h2, h3⟩, h4⟩ := ht
  have hl : (s.port p).link = .up := by simpa [State.isUp] using h4
  have hr : s.receives p = true := by simp [State.receives, h1, h2]
  simp only [frameArrives, hr, h3, Bool.and_self, if_true, hf]
  have e1 : keepAlive p s = startTimer (.t1 p) s := by simp [keepAlive, hl]
  have e2 : (setRx p .betweenFrames (keepAliveByBits p s)).isUp p = true := by
    rcases keepAliveByBits_cases p s with ⟨-, h⟩ | h <;> rw [h, State.isUp] <;> cases p <;>
      simp_all [setRx, State.port, State.setPort, PerPort.get, PerPort.set, State.setPorts, startTimer, State.setCount,
        State.setTimers]
  rw [if_pos e2]
  congr 1
  by_cases hb : (s.port p).rx = .bitsOver
  · rw [keepAliveByBits, if_pos hb, State.afterFrame, if_pos hb]; cases p <;> rfl
  · rw [keepAliveByBits, if_neg hb, e1, State.afterFrame, if_neg hb]; cases p <;> rfl

@[simp] theorem afterFrame_pending (p : Port) (s : State) : (s.afterFrame p).pending = s.pending := rfl
@[simp] theorem afterFrame_identity (p : Port) (s : State) : (s.afterFrame p).identity = s.identity := rfl
@[simp] theorem afterFrame_bypass (p : Port) (s : State) : (s.afterFrame p).bypass = s.bypass := rfl
@[simp] theorem afterFrame_relay (p : Port) (s : State) : (s.afterFrame p).relay = s.relay := rfl
@[simp] theorem afterFrame_consist (p : Port) (s : State) : (s.afterFrame p).consist = s.consist := rfl
@[simp] theorem afterFrame_door (p : Port) (s : State) : (s.afterFrame p).door = s.door := rfl
@[simp] theorem afterFrame_heat (p : Port) (s : State) : (s.afterFrame p).heat = s.heat := rfl
@[simp] theorem afterFrame_lines (p : Port) (s : State) : (s.afterFrame p).lines = s.lines := rfl
@[simp] theorem afterFrame_faults (p : Port) (s : State) : (s.afterFrame p).faults = s.faults := rfl
@[simp] theorem afterFrame_mgmt (p : Port) (s : State) : (s.afterFrame p).mgmt = s.mgmt := rfl
@[simp] theorem afterFrame_settings (p : Port) (s : State) :
    (s.afterFrame p).timers.settings = s.timers.settings := rfl
@[simp] theorem afterFrame_timebase (p : Port) (s : State) :
    (s.afterFrame p).timers.timebase = s.timers.timebase := rfl
@[simp] theorem afterFrame_isUp (p q : Port) (s : State) : (s.afterFrame p).isUp q = s.isUp q := by
  cases p <;> cases q <;> rfl
@[simp] theorem afterFrame_queues (p q : Port) (s : State) : (s.afterFrame p).queues q = s.queues q := rfl
@[simp] theorem afterFrame_hasRoom (p q : Port) (l : Level) (s : State) : (s.afterFrame p).hasRoom q l = s.hasRoom q l := rfl
@[simp] theorem afterFrame_service (p : Port) (n : Nat) (s : State) : (s.afterFrame p).service n = s.service n := rfl
@[simp] theorem afterFrame_route (p q : Port) (x : Selector) (s : State) : (s.afterFrame p).route q x = s.route q x := rfl
@[simp] theorem afterFrame_settled (p : Port) (s : State) : (s.afterFrame p).settled = s.settled := rfl
@[simp] theorem afterFrame_epochMatches (p : Port) (n : Nat) (s : State) : (s.afterFrame p).epochMatches n = s.epochMatches n := rfl
@[simp] theorem afterFrame_isMaster (p : Port) (s : State) : (s.afterFrame p).isMaster = s.isMaster := rfl
@[simp] theorem afterFrame_stableMaster (p : Port) (s : State) : (s.afterFrame p).stableMaster = s.stableMaster := rfl
@[simp] theorem afterFrame_inScope (p : Port) (x : Selector) (n : Nat) (s : State) : (s.afterFrame p).inScope x n = s.inScope x n := rfl
@[simp] theorem afterFrame_forwardPort (p : Port) (s : State) : (s.afterFrame p).forwardPort = s.forwardPort := rfl
@[simp] theorem afterFrame_rearwardPort (p : Port) (s : State) : (s.afterFrame p).rearwardPort = s.rearwardPort := rfl

/-- R34: when an epoch matches. -/
theorem epochMatches_iff (n : Nat) (s : State) : s.epochMatches n = true ↔ n = s.consist.epoch ∧ n ≠ 0 := by
  simp [State.epochMatches]

/-- STABLE or SUSPECT. -/
theorem settled_iff (s : State) : s.settled = true ↔ s.consist.state = .stable ∨ s.consist.state = .suspect := by
  simp [State.settled]

/-- R84: on a port that has room if it is UP, queueing is `queued`. -/
theorem enqueue_queued (p : Port) (l : Level) (q : Queued) (s : State) (h : s.isUp p = true → s.hasRoom p l = true) :
    enqueue p l q s = s.queued p l q := by
  unfold enqueue State.queued
  cases hu : s.isUp p <;> simp [hu] at h ⊢
  simp [h, appendQueue]

/-- R98: one copy on each UP port, where every UP port has room. -/
theorem copies_all (u : State) (lv : Level) (q : Queued) (h : u.roomy lv) :
   sendCopies u.upPorts lv q u = (u.queued .e1 lv q).queued .e2 lv q := by
  obtain ⟨h1, h2⟩ := h
  unfold sendCopies State.upPorts
  cases a : u.isUp .e1 <;> cases b : u.isUp .e2 <;> simp [a, b]
  · simp [State.queued, a, b]
  · rw [enqueue_queued _ _ _ _ (fun _ => h2 b)]; simp [State.queued, a, b]
  · rw [enqueue_queued _ _ _ _ (fun _ => h1 a)]; simp [State.queued, a]
    intro hb; exfalso; simp [State.isUp, State.port] at hb b
    exact b hb
  · rw [enqueue_queued .e1 _ _ _ (fun _ => h1 a)]
    rw [enqueue_queued]
    intro _
    have := h2 b
    rw [← this]; simp [State.queued, a]; cases lv <;> rfl

/-- R79, R82: when a frame goes on, is for this node, or is misrouted. -/
theorem route_cases (s : State) (p : Port) (sel : Selector) :
  (s.route p sel = .onward ↔ sel.type ≠ .position ∨ s.consist.position = 0
        ∨ sel.value ≠ s.consist.position ∧ s.portToward sel.value ≠ p)
  ∧ (s.route p sel = .here ↔ sel.type = .position ∧ s.consist.position ≠ 0 ∧ sel.value = s.consist.position)
  ∧ (s.route p sel = .misrouted ↔ sel.type = .position ∧ s.consist.position ≠ 0 ∧ sel.value ≠ s.consist.position ∧ s.portToward sel.value = p) := by
  unfold State.route
  cases h : sel.type <;> simp
  refine ⟨?_, ?_, ?_⟩ <;> split_ifs <;> simp_all

/-- R84: what queueing a frame can do. -/
theorem enqueue_cases (p : Port) (l : Level) (q : Queued) (s : State) :
    s.isUp p = false ∧ enqueue p l q s = s
      ∨ s.isUp p = true ∧ s.hasRoom p l = true ∧ enqueue p l q s = appendQueue p l q s
      ∨ s.isUp p = true ∧ s.hasRoom p l = false ∧ enqueue p l q s = recordFault .queueFull (.port p) s := by
  unfold enqueue
  cases s.isUp p <;> cases s.hasRoom p l <;> simp

/-- R92: what a delivery to the tap can do. -/
theorem deliver_cases (f : Frame) (s : State) :
    s.relay.tapQueue.length < tapLimit f ∧ deliver f s = s.setTapQueue (s.relay.tapQueue ++ [f])
      ∨ tapLimit f ≤ s.relay.tapQueue.length ∧ deliver f s = recordFault .tapOverrun .tap s := by
  unfold deliver
  split
  · exact .inl ⟨‹_›, rfl⟩
  · exact .inr ⟨Nat.le_of_not_lt ‹_›, rfl⟩

/-- R200, R201: what a fault handed to the table can do to it. -/
theorem record_cases (t : FaultTable) (k : FaultKind) (x : FaultSource) (now : Stamp) (epoch : Nat) :
    t.slots.any (holds k x) = true ∧ t.record k x now epoch
        = { t with slots := t.slots.map fun y => if holds k x y then y.map (FaultRecord.again now) else y }
      ∨ t.slots.any (holds k x) = false ∧ (∃ i, t.slots.findIdx? Option.isNone = some i
        ∧ t.record k x now epoch = { t with slots := t.slots.set i (some ⟨k, x, 1, now, now, epoch, true⟩) })
      ∨ t.slots.any (holds k x) = false ∧ t.slots.findIdx? Option.isNone = none
        ∧ t.record k x now epoch = { t with overflow := true } := by
  unfold FaultTable.record
  cases h : t.slots.any (holds k x)
  · cases hi : t.slots.findIdx? Option.isNone <;> simp
  · simp

/-- R79, R82: a routed frame reaches its owner, after it was queued onward unless it ends its way here, or is
misrouted. -/
theorem routed_cases (p : Port) (f : Frame) (handle : State → State) (s : State) :
    s.route p f.header.sel = .here ∧ routed p f handle s = handle s
      ∨ s.route p f.header.sel = .onward ∧ routed p f handle s = handle (sendFrame p.other f s)
      ∨ s.route p f.header.sel = .misrouted ∧ routed p f handle s = recordFault .misroute (.port p) s := by
  unfold routed
  cases h : s.route p f.header.sel <;> simp

end Sys2Proof.Machine
end

