-- ==== Sys2Proof/Laws/Requests.lean ====
section
/-! SUPPORT. Exchanges of the tap and management requests: what each way and each check comes to. -/

namespace Sys2Proof.Machine

open Sys2Proof

/-- R94: an exchange that is served judges its frame first, does the node's part, acts on the frame and keeps the
result. -/
theorem exchange_eq (done : Bool) (part : State → IntakeResult × (State → State)) (s : State)
    (h : s.tapServes) :
    exchange done part s = setIntake (part s).1 ((part s).2 (nodePart done s)) := if_pos h

/-- R20, R94: an exchange that is not served exchanges nothing, and is over. -/
theorem exchange_unserved (done : Bool) (part : State → IntakeResult × (State → State)) (s : State)
    (h : ¬s.tapServes) : exchange done part s = s.setRelay { s.relay with select := .idle } := if_neg h

/-- R94: all that the beginning of an exchange can do. -/
theorem beginExchange_cases (s : State) :
    s.relay.select = .idle ∧ s.bypass.node = .starting
        ∧ beginExchange s = s.setRelay { s.relay with select := .unserved }
      ∨ s.relay.select = .idle ∧ s.bypass.node ≠ .starting
        ∧ beginExchange s = s.setRelay { s.relay with
          report := some s.tapReport, select := .serving (!s.relay.tapQueue.isEmpty) }
      ∨ s.relay.select ≠ .idle ∧ beginExchange s = s := by
  unfold beginExchange
  cases h : s.relay.select <;> by_cases hn : s.bypass.node = .starting <;> simp [hn]

/-- R94: at a release nothing changes but the report, the tap delivery queue, which may lose its head, and the select
period, which is over. -/
theorem nodePart_cases (done : Bool) (s : State) : ∃ r head, nodePart done s = s.setRelay { s.relay with
    report := r, select := .idle
    tapQueue := if done && head then s.relay.tapQueue.tail else s.relay.tapQueue } := by
  unfold nodePart
  rcases beginExchange_cases s with ⟨-, -, h⟩ | ⟨-, -, h⟩ | ⟨-, h⟩ <;> rw [h]
  · exact ⟨s.relay.report, false, rfl⟩
  · exact ⟨some s.tapReport, !s.relay.tapQueue.isEmpty, rfl⟩
  · exact ⟨s.relay.report, s.relay.select.carriesHead, rfl⟩

/-- R99, R183: a LOCAL request that reaches the management unit. -/
theorem request_tap (done : Bool) (tag : Nat) (c : ReqCode) (q : Req) (take : Access → Nat → State → State)
    (s : State) (h : s.reaches (.tap done tag) c q) :
    request (.tap done tag) c q take s
      = setIntake .accepted (take .ownTap tag (s.whenTaken (.tap done tag) c q)) := by
  obtain ⟨h1, h2, h3⟩ := h
  have h4 : ¬12 ≤ s.relay.tapQueue.length := by omega
  simp [request, exchange, h1, selfPart, h3, h4, State.whenTaken]

/-- R82, R184: a TRAIN request that reaches the management unit. -/
theorem request_train (p : Port) (h : Header) (c : ReqCode) (q : Req) (take : Access → Nat → State → State)
    (s : State) (hr : s.reaches (.train p h) c q) :
    request (.train p h) c q take s = take .train h.tag (s.whenTaken (.train p h) c q) := by
  obtain ⟨h1, h2, h3, h4, h5⟩ := hr
  have hs : ∀ t : State, t.consist = s.consist → t.relay.groupsActive = s.relay.groupsActive →
      takeTrainRequest p h (take .train h.tag) t = take .train h.tag t := by
    intro t e1 e2
    have e3 : t.inScope h.sel t.consist.position = true := by
      rw [e1, ← h4]; simp only [State.inScope, State.inGroup, e2]
    have e4 : t.trainClass h = true := by
      rw [← h5]; simp only [State.trainClass, State.epochMatches, State.settled, e1]
    simp [takeTrainRequest, e3, e4]
  simp only [request]
  rw [frameArrives_of_takesFrame h1 h2]
  simp only [routed, afterFrame_route, State.whenTaken]
  cases hq : s.route p h.sel with
  | here => simp; exact hs _ (by simp) (by simp)
  | onward =>
    refine (hs _ (by simp) ?_).trans (by simp)
    unfold sendFrame
    rcases enqueue_cases p.other (bodyLevel (.mgmtReq c q)) (plain ⟨h, .mgmtReq c q⟩) (s.afterFrame p)
      with ⟨_, e⟩ | ⟨_, _, e⟩ | ⟨_, _, e⟩ <;> rw [e] <;> rfl
  | misrouted => exact absurd hq h3

/-- R185: the checks before a request's own rule, in their order. -/
theorem requestGate_cases (a : Access) (c : ReqCode) (s : State) :
    (s.bypass.node ≠ .operating ∧ c ≠ .read ∧ s.requestGate a c = some .denied)
      ∨ (s.mgmt.restart ≠ .none ∧ c ≠ .read ∧ s.bypass.node = .operating ∧ s.requestGate a c = some .busy)
      ∨ ((c = .read ∨ s.bypass.node = .operating ∧ s.mgmt.restart = .none)
        ∧ s.requestGate a c = if requestAllowed a c then none else some .denied) := by
  unfold State.requestGate
  by_cases h1 : c = .read
  · simp [h1]
  · by_cases h2 : s.bypass.node = .operating <;> by_cases h3 : s.mgmt.restart = .none <;> simp [h1, h2, h3]

/-- R185, R192: a request that no check refuses is carried out and answered. -/
theorem serve_of_gate (c : ReqCode) (q : Req) (act : Access → Nat → State → State × Answer) (a : Access) (tag : Nat)
    (s : State) (h : s.requestGate a c = none) (t : State) (st : Status) (data : List Byte)
    (ha : act a tag s = (t, some (st, data))) :
    serve c q act a tag s = place a tag (responseTo c q st data) t := by
  simp [serve, h, ha]

end Sys2Proof.Machine
end

