-- ==== Sys2Proof/Tests/Slice0.lean ====
section
/-! SUPPORT. Tests of one step each against the manual's own numbers, ill-formed commands that `Instr.wf` refuses, and for
every statement with hypotheses a concrete state and operands that meet them. -/

namespace Sys2Proof.Tests

open Sys2Proof Sys2Proof.Machine

/-! ### States -/

/-- The state after a command. -/
def after (c : Instr) (s : State) : State :=
  match exec c s with
  | .next t => t
  | _ => s

/-- An OPERATING node with its ports started, both DOWN. -/
def node : State := { State.reset with identity := 7, bypass := ⟨.operating, true, .none, true, false⟩ }

/-- A port as it stands in a link state, between frames and idle. -/
def idle (x : LinkState) : PortState := ⟨x, 0, 0, .betweenFrames, [], .idle, true⟩

/-- The node with these link states at E1 and E2. -/
def linked (x y : LinkState) : State := node.setPorts ⟨idle x, idle y⟩

/-- The entry of a coach. -/
def coach (n : Nat) : Entry := ⟨BitVec.ofNat 32 n, .normal, false, false, .up, 0, 1, false, 2⟩

/-- A member at position 2 of 3, STABLE under epoch 5, both ports UP, two doors on each side. -/
def member : State :=
  (linked .up .up).setConsist { node.consist with
    state := .stable, epoch := 5, position := 2, table := [coach 1, coach 7, coach 3], doors := 2 }

/-- A member that reaches its consist unit in another state. -/
def memberIn (x : ConsistState) : State := member.setConsist { member.consist with state := x }

/-- The last coach: the same at position 3, its rearward port not UP. -/
def last : State :=
  (linked .up .down).setConsist { member.consist with position := 3 }

/-- A line that carries a function, at a qualified level. -/
def line (f : LineFunction) (level : Bool) : LineRecord :=
  ⟨⟨f, .activeHigh, 20, .off⟩, level, level, .none, false, false, false, .ready⟩

/-- The node with these functions on its first lines. -/
def withLines (l : List LineRecord) (s : State) : State :=
  s.setLines ⟨l ++ List.replicate (16 - l.length) LineRecord.powerOn, false⟩

/-- A master at position 1 of 3, STABLE under epoch 5, E2 UP, its cab asserted and its train at rest. -/
def master : State :=
  withLines [line .cabActive true, line .zeroSpeed true] ((linked .down .up).setConsist { node.consist with
    role := .master, state := .stable, epoch := 5, position := 1, table := [coach 7, coach 2, coach 3], doors := 2 })

/-- The same master in another consist state. -/
def masterIn (x : ConsistState) : State := master.setConsist { master.consist with state := x }

/-- A master with an attempt in flight, whose forward port is E1. -/
def attempting (x : ConsistState) (n : Nat) : State :=
  master.setConsist { master.consist with state := x, attempt := some ⟨6, n, .normal, [coach 7, coach 2], coach 7⟩ }

/-- A member with the pending record of an attempt, at position 2. -/
def joining : State :=
  (linked .up .up).setConsist { node.consist with state := .inaugurating, joined := some ⟨6, 1, 1, 2, .normal⟩ }

/-- A header with selector ALL under this epoch, from the master, with this tag. -/
def fromMaster (epoch tag : Nat) : Header := ⟨false, ⟨.all, 0⟩, false, epoch, 1, tag⟩

/-- A header to one position. -/
def toPosition (k epoch tag : Nat) : Header := ⟨false, ⟨.position, k⟩, false, epoch, 1, tag⟩

/-- A request without data. -/
def bare (object : Byte) (index count : Nat) : Req := ⟨object, index, count, []⟩

/-- A request from the own tap. -/
abbrev local' : Via := .tap true 9

/-- A request from the train, on a member's forward port. -/
abbrev train : Via := .train .e1 (fromMaster 5 60)

/-- A timer that has run out. -/
def ran (t : TimerId) (s : State) : State := s.setCount t (some 0)

/-- A DATA frame waiting with a generation tag. -/
def waiting (g : Nat) : Queued := ⟨⟨fromMaster 5 1, .data [1]⟩, some g, false⟩

/-! ### Ill-formed commands are refused (R24, R26, R28, R33, R36 to R40, R99) -/

theorem test_wf_arbitration_place : (Instr.arbitrationLost .e1 1984).wf = false := by decide
theorem test_wf_selector_position :
    (Instr.data .e1 (toPosition 33 5 1) []).wf = false ∧ (Instr.data .e1 (toPosition 0 5 1) []).wf = false := by decide
theorem test_wf_selector_group : (Instr.data .e1 ⟨false, ⟨.group, 16⟩, false, 5, 1, 1⟩ []).wf = false := by decide
theorem test_wf_selector_all : (Instr.data .e1 ⟨false, ⟨.all, 1⟩, false, 5, 1, 1⟩ []).wf = false := by decide
theorem test_wf_selector_self : (Instr.data .e1 ⟨false, ⟨.self, 0⟩, false, 5, 1, 1⟩ []).wf = false
    ∧ (Instr.tapData true ⟨.self, 1⟩ ⟨false, false, 1⟩ []).wf = false := by decide
theorem test_wf_epoch_origin : (Instr.data .e1 (fromMaster 256 1) []).wf = false
    ∧ (Instr.data .e1 { fromMaster 5 1 with origin := 33 } []).wf = false := by decide
set_option maxRecDepth 20000 in
theorem test_wf_data : (Instr.data .e1 (fromMaster 5 64) []).wf = false
    ∧ (Instr.data .e1 (fromMaster 5 1) (List.replicate 241 0)).wf = false := by decide
theorem test_wf_tap_data : (Instr.tapData true ⟨.all, 0⟩ ⟨false, false, 64⟩ []).wf = false := by decide
theorem test_wf_door_cmd : (Instr.doorCmdRelease .e1 (fromMaster 5 256) .left true).wf = false
    ∧ (Instr.doorCmdClose .e1 (fromMaster 5 256) .left true).wf = false
    ∧ (Instr.tapDoorCmdRelease true ⟨.group, 16⟩ ⟨false, false, 0⟩ .left true).wf = false
    ∧ (Instr.tapDoorCmdClose true ⟨.group, 16⟩ ⟨false, false, 0⟩ .left true).wf = false := by decide
theorem test_wf_door_alert : (Instr.doorAlert .e1 (fromMaster 5 0) ⟨0, .a, .left, 1⟩).wf = false
    ∧ (Instr.doorAlert .e1 (fromMaster 5 0) ⟨33, .a, .left, 1⟩).wf = false
    ∧ (Instr.doorAlert .e1 (fromMaster 5 0) ⟨3, .a, .both, 1⟩).wf = false := by decide
theorem test_wf_sum : (Instr.sumOut .e1 (fromMaster 5 0) ⟨33, true, false, false, 0, 0, 0, 0⟩).wf = false
    ∧ (Instr.sumOut .e1 (fromMaster 5 0) ⟨1, true, false, false, 0, 65, 0, 0⟩).wf = false
    ∧ (Instr.sumBack .e1 (fromMaster 5 0) ⟨1, true, false, false, 0, 0, 33, 0⟩).wf = false := by decide
theorem test_wf_topo : (Instr.topo .e1 (fromMaster 256 0) ⟨1, .portUp, .e1⟩).wf = false := by decide
theorem test_wf_roll : (Instr.rollCall .e1 (fromMaster 5 0) ⟨1, false, false, []⟩).wf = false
    ∧ (Instr.rollBack .e1 (fromMaster 5 4) ⟨1, false, false, []⟩).wf = false
    ∧ (Instr.rollCall .e1 (fromMaster 5 1) ⟨1, false, false, List.replicate 33 (coach 1)⟩).wf = false
    ∧ (Instr.rollCall .e1 (fromMaster 5 1) ⟨1, false, false, [{ coach 1 with coachClass := 16 }]⟩).wf = false
    ∧ (Instr.rollCall .e1 (fromMaster 5 1) ⟨1, false, false, [{ coach 1 with doors := 8 }]⟩).wf = false := by decide
theorem test_wf_confirm : (Instr.confirmOut .e1 (fromMaster 5 0) ⟨.ok, 1, []⟩).wf = false
    ∧ (Instr.confirmOut .e1 (fromMaster 5 1) ⟨.ok, 1, List.replicate 33 (coach 1)⟩).wf = false
    ∧ (Instr.confirmDone .e1 (fromMaster 5 4) 1).wf = false := by decide
theorem test_wf_heat : (Instr.heatOut .e1 (fromMaster 5 0) ⟨4096, 1, 0, 0, 0⟩).wf = false
    ∧ (Instr.heatOut .e1 (fromMaster 5 0) ⟨1, 33, 0, 0, 0⟩).wf = false
    ∧ (Instr.heatBack .e1 (fromMaster 5 0) ⟨1, 1, 33, 0, 0⟩).wf = false
    ∧ (Instr.heatBack .e1 (fromMaster 5 0) ⟨1, 1, 0, 65536, 0⟩).wf = false
    ∧ (Instr.heatBack .e1 (fromMaster 5 0) ⟨1, 1, 0, 0, 33⟩).wf = false := by decide
set_option maxRecDepth 20000 in
theorem test_wf_response : (Instr.mgmtRsp .e1 (fromMaster 5 0) ⟨.ok, .read, 18, 0, []⟩).wf = false
    ∧ (Instr.mgmtRsp .e1 (fromMaster 5 0) ⟨.ok, .read, 1, 256, []⟩).wf = false
    ∧ (Instr.mgmtRsp .e1 (fromMaster 5 0) ⟨.ok, .read, 1, 0, List.replicate 237 0⟩).wf = false := by decide
set_option maxRecDepth 20000 in
theorem test_wf_request_fields : (Instr.read local' (bare 18 0 1)).wf = false
    ∧ (Instr.read local' (bare 0 0 1)).wf = false ∧ (Instr.read local' (bare 1 256 1)).wf = false
    ∧ (Instr.read local' (bare 1 0 256)).wf = false
    ∧ (Instr.write local' ⟨1, 0, 1, List.replicate 237 0⟩).wf = false := by decide
theorem test_wf_request_object : (Instr.read local' (bare 8 0 1)).wf = false
    ∧ (Instr.read local' (bare 17 0 1)).wf = false ∧ (Instr.readLineReport local' (bare 1 0 1)).wf = false
    ∧ (Instr.readFaults local' (bare 1 0 1)).wf = false ∧ (Instr.write local' (bare 4 0 1)).wf = false
    ∧ (Instr.writeService local' (bare 5 0 1)).wf = false ∧ (Instr.writeGroups local' (bare 4 0 1)).wf = false
    ∧ (Instr.writeLines local' (bare 4 0 1)).wf = false ∧ (Instr.writeGeneralOut local' (bare 4 0 1)).wf = false
    ∧ (Instr.writeDoorInhibit local' (bare 4 0 1)).wf = false
    ∧ (Instr.writeCoachDescriptor local' (bare 4 0 1)).wf = false
    ∧ (Instr.writeHeatProfile local' (bare 4 0 1)).wf = false
    ∧ (Instr.writeHeatSettings local' (bare 4 0 1)).wf = false
    ∧ (Instr.writeHeatDemand local' (bare 4 0 1)).wf = false
    ∧ (Instr.writeSupplyLimit local' (bare 4 0 1)).wf = false
    ∧ (Instr.writeTimers local' (bare 4 0 1)).wf = false := by decide
theorem test_wf_commit : (Instr.commit local' (bare 0 1 0)).wf = false
    ∧ (Instr.commitWithDrain local' (bare 0 0 0)).wf = false := by decide
theorem test_wf_other_requests : (Instr.clearFaults local' (bare 0 256 0)).wf = false
    ∧ (Instr.reinaugurate (.tap true 256) (bare 0 0 0)).wf = false
    ∧ (Instr.restart local' (bare 0 0 256) 0).wf = false ∧ (Instr.withdraw local' (bare 0 256 0)).wf = false
    ∧ (Instr.clearLockout (.train .e1 (fromMaster 256 0)) (bare 0 0 0)).wf = false := by decide
theorem test_wf_tap_request : (Instr.tapMgmtReqToTrain true (.position 33) ⟨false, false, 0⟩ .read (bare 1 0 1)).wf = false
    ∧ (Instr.tapMgmtReqToTrain true (.group 16) ⟨false, false, 0⟩ .read (bare 1 0 1)).wf = false
    ∧ (Instr.tapMgmtReqToTrain true .all ⟨false, false, 0⟩ .read (bare 18 0 1)).wf = false := by decide

/-! ### The manual's own numbers -/

set_option maxRecDepth 20000 in
/-- R31: the check value over the characters "1" to "9". -/
theorem test_crc_check_value :
    crcBytes [0x31, 0x32, 0x33, 0x34, 0x35, 0x36, 0x37, 0x38, 0x39] = [0x29, 0xB1] := by decide
/-- 2.8: frames of 19, 25, 31 and 205 bytes, in tenths of a microsecond. -/
theorem test_frame_end_times : frameEndTime 19 false = 23300 ∧ frameEndTime 25 false = 30500
    ∧ frameEndTime 31 false = 37700 ∧ frameEndTime 205 false = 246500 ∧ frameEndTime 31 true = 37650 := by decide
/-- 2.8: a CALL of two entries has 25 bytes, byte 0 is kind 5 in phase 0 with selector ALL, and its length byte is 17. -/
theorem test_roll_call_bytes :
    let l := (⟨fromMaster 8 1, .roll ⟨1, false, false, [coach 1, coach 2]⟩⟩ : Frame).bytes
    l.length = 25 ∧ l.take 6 = [0x54, 0, 8, 1, 1, 17] ∧ (l.drop 10).take 1 = [2] := by decide
/-- R3: the bounds of the width classes. -/
theorem test_width_classes : [19, 20, 74, 75, 124, 125, 174, 175, 224, 225, 299, 300, 599, 600].map classify
    = [.glitch, .bit1, .bit1, .bit0, .bit0, .invalid, .invalid, .probe, .probe, .start, .start, .invalid, .invalid,
      .brk] := by decide
/-- 1.4, at 6.9 ms: the fourth PROBE makes an ARRIVING port UP with score 0. -/
theorem test_probe_makes_up :
    let t := after (.probeReceived ⟨.e2, false⟩) ((linked .down .arriving).setPort .e2 { idle .arriving with arrival := 3 })
    (t.port .e2).link = .up ∧ (t.port .e2).score = 0 := by decide
/-- R10: the node's own PROBE is no item. -/
theorem test_own_probe :
    (after (.probeReceived ⟨.e1, true⟩) (linked .down .up)) = linked .down .up := by decide
/-- R3: the node's own BREAK is not classified. -/
theorem test_own_break : (after (.breakReceived ⟨.e1, true⟩) member) = member := by decide
/-- R15: the bits of a frame keep T1, of 10 ms, from running down, also where the frame ended since the last step. -/
theorem test_frame_keeps_t1 :
    let t := after (.timebaseStep ⟨0, .underWay, .ended⟩)
      ((member.setCount (.t1 .e1) (some 1)).setCount (.t1 .e2) (some 1))
    t.count (.t1 .e1) = some 9 ∧ (t.port .e1).rx = .inFrame
      ∧ t.count (.t1 .e2) = some 9 ∧ (t.port .e2).rx = .betweenFrames := by decide
/-- R15: with a step between the last bit of a frame and its frame end T1 has run for 1 ms there, in UP and in ARRIVING. -/
theorem test_frame_end_after_step :
    let end1 (s : State) := (after (.data .e1 (toPosition 2 5 1) []) (after (.timebaseStep ⟨0, .bitsOver, .none⟩)
      (s.setCount (.t1 .e1) (some 1)))).count (.t1 .e1)
    end1 member = some 9 ∧ end1 (linked .arriving .down) = some 9 := by decide
/-- R15: T1 has restarted with the bits of a frame that the port ends by repeating a BREAK (R2, R19). -/
theorem test_own_break_in_frame :
    let s := (member.setPort .e2 { idle .up with rx := .inFrame }).setCount (.t1 .e2) (some 1)
    (after (.breakReceived ⟨.e1, false⟩) s).count (.t1 .e2) = some 10 := by decide
/-- R15: T1 has restarted with the bits of a frame that an invalid width aborts, but not with the invalid width. -/
theorem test_invalid_width_and_t1 :
    let s (x : RxCondition) := (member.setPort .e1 { idle .up with rx := x }).setCount (.t1 .e1) (some 1)
    (after (.invalidItem .e1 .invalidWidth) (s .inFrame)).count (.t1 .e1) = some 10
      ∧ (after (.invalidItem .e1 .invalidWidth) (s .bitsOver)).count (.t1 .e1) = some 1
      ∧ (after (.invalidItem .e1 .invalidWidth) (s .betweenFrames)).count (.t1 .e1) = some 1 := by decide
/-- 1.4, at 2.3 ms: an invalid item in ARRIVING empties the arrival count. -/
theorem test_invalid_item_in_arriving :
    ((after (.invalidItem .e1 .invalidWidth) ((linked .arriving .down).setPort .e1
      { idle .arriving with arrival := 2 })).port .e1).arrival = 0 := by decide
/-- 1.4, Arbitration: the HEAT frame that loses at bit 1 stays queued, and the assembly holds 0, 0. -/
theorem test_arbitration_lost :
    let q : Queued := plain ⟨fromMaster 5 1, .heat ⟨0, 0, 0, 0, 0⟩⟩
    let s := (member.setQueues .e2 ⟨[], [q], []⟩).setPort .e2 { idle .up with tx := .frame .control q .queued }
    let t := after (.arbitrationLost .e2 1) s
    (t.port .e2).assembly = [false, false] ∧ (t.queues .e2).control = [q] := by decide

/-- 7, A four-coach walk: coach 2 before the walk. -/
def coach2 : State :=
  member.setHeat { node.heat with
    profile := [0, 40, 80, 120, 160, 200, 240, 280], writtenDemand := 7, applied := 5, fallback := false }
/-- Coach 2's sides closed and proved. -/
def proved (s : State) : State := s.setDoor { s.door with sides := ⟨⟨.closed, .proved, false, false⟩, ⟨.closed, .proved, false, false⟩⟩ }
/-- 7, A four-coach walk: coach 2's outbound step, 480 hu to 320 hu at stage 4. -/
theorem test_heat_outbound_coach2 :
    let t := after (.heatOut .e1 (fromMaster 5 17) ⟨480, 3, 1, 200, 0⟩) (proved coach2)
    t.heat.applied = 4 ∧ t.heat.walkRecord = some ⟨17, 7, 4, true⟩
      ∧ (t.queues .e2).control = [plain ⟨fromMaster 5 17, .heat ⟨320, 2, 2, 480, 0⟩⟩] := by decide
/-- 7, A four-coach walk: coach 2's return step, 120 hu to 80 hu at stage 5. -/
theorem test_heat_return_coach2 :
    let s := (proved coach2).setHeat { coach2.heat with applied := 4, walkRecord := some ⟨17, 7, 4, true⟩ }
    let t := after (.heatBack .e2 (fromMaster 5 17) ⟨120, 0, 2, 680, 0⟩) s
    t.heat.applied = 5
      ∧ (t.queues .e1).control = [plain ⟨inPhase true (fromMaster 5 17), .heat ⟨80, 0, 1, 680, 0⟩⟩] := by decide
/-- 11.2: the CAB_MID record of position 5 shows in the fault mask as 16. -/
theorem test_fault_mask_position5 :
    let s := (recordFault .cabMid .node member).setConsist { member.consist with position := 5 }
    ((proved s).contribute ⟨0, true, false, false, 0, 0, 0, 0⟩).faultMask = 16 := by decide
/-- 11.1, step 8: a member installs position 2 of a CONFIRM OUT and passes it on. -/
theorem test_confirm_installs :
    let t := after (.confirmOut .e1 (fromMaster 6 1) ⟨.ok, 1, [coach 1, coach 7, coach 3]⟩) joining
    t.consist.state = .stable ∧ t.consist.epoch = 6 ∧ t.consist.position = 2 ∧ (t.queues .e2).control.length = 1 := by
  decide
/-- 11.1, step 5: the coach with no port onward turns the CALL back. -/
theorem test_call_turned :
    let t := after (.rollCall .e1 (fromMaster 1 1) ⟨1, false, false, [coach 1]⟩) (linked .up .down)
    (t.queues .e1).control.map (fun q => q.frame.header.phase) = [true] ∧ t.consist.state = .inaugurating := by decide
/-- R54: a list whose first entry names the master with another orientation does not begin with the master's own entry. -/
theorem test_back_own_entry :
    let x : RollBody := ⟨7, false, false, [{ coach 7 with orientation := .reversed }, coach 2]⟩
    let t := after (.rollBack .e2 (fromMaster 6 1) x) (attempting .calling 1)
    t.consist.state = .calling ∧ t.faults.slots[0]?.join.map (fun r => r.kind) = some .rollMismatch := by decide
/-- 11.2 at 9 ms: a STABLE member whose second port becomes UP is SUSPECT and sends TOPO forward. -/
theorem test_port_up_makes_suspect :
    let t := after (.probeReceived ⟨.e2, false⟩) (last.setPort .e2 { idle .arriving with arrival := 3 })
    t.consist.state = .suspect ∧ (t.queues .e1).urgent.length = 1 := by decide
/-- 11.2 at 200 ms: CLOSE from the tap of a master that is not STABLE is refused DENIED, and no number is given out. -/
theorem test_tap_close_refused :
    let t := after (.tapDoorCmdClose false ⟨.all, 0⟩ ⟨false, false, 0⟩ .left true) (masterIn .settling)
    t.relay.intake = .refused .denied ∧ t.door.commandCounter = 0 := by decide
/-- 11.3, step 3: RELEASE LEFT releases side B of a REVERSED coach. -/
theorem test_release_reversed :
    let s := (proved member).setConsist { member.consist with orientation := .reversed }
    let t := after (.doorCmdRelease .e2 (fromMaster 5 2) .left true) s
    (t.side .b).state = .released ∧ (t.side .a).state = .closed := by decide
/-- 11.4 at 10 ms: T1 in UP gives PORT_LOST and a DOWN port. -/
theorem test_port_lost :
    let t := after (.linkSilenceTimeout .e2) (ran (.t1 .e2) member)
    (t.port .e2).link = .down ∧ (t.faults.slots.take 1).map (Option.map FaultRecord.kind) = [some .portLost] := by
  decide
/-- 11.4: DATA from the tap to a position above the count is refused INVALID. -/
theorem test_tap_data_beyond :
    (after (.tapData false ⟨.position, 7⟩ ⟨false, false, 1⟩ []) member).relay.intake = .refused .invalid := by decide
/-- R47, wrap: the epoch after 255 is 1. -/
theorem test_epoch_wraps : nextEpoch 255 = 1 ∧ nextEpoch 0 = 1 ∧ nextEpoch 254 = 255 := by decide
/-- R106: with a debounce of 20 ms a change is due from 20 ms after the sample that began it, not before. -/
theorem test_debounce_bounds :
    let l : LineRecord := { line .generalIn false with change := .since 100 }
    l.due 119 = false ∧ l.due 120 = true := by decide
set_option maxRecDepth 20000 in
/-- R177: a written 0 is stored as 1, and the response is OK_CLAMPED. -/
theorem test_timer_write_clamps :
    let t := after (.writeTimers local' ⟨16, 2, 1, [0x80, 0]⟩) node
    t.setting 2 = ⟨1, .coarse⟩ ∧ t.relay.tapQueue.map (fun f => f.body) = [.mgmtRsp ⟨.okClamped, .write, 16, 2, []⟩] := by
  decide
/-- R40: the STATUS element of a STABLE member at position 2 under epoch 5, not reporting any stage. -/
theorem test_status_element :
    member.statusBytes = [0, 16, 2, 0, 5, 2, 0, 2, 0, 2, 0, 0, 8, 8, 64] := by decide
/-- R156: stage 5 shows on the stage lines as active, inactive, active. -/
theorem test_stage_lines :
    let s := (withLines [line .heatStage0 false, line .heatStage1 false, line .heatStage2 false] member).setHeat
      { member.heat with applied := 5 }
    [0, 1, 2, 3].map s.drivenLevel = [some true, some false, some true, none] := by decide
/-- R20: power-on, and the first command of a run. -/
theorem test_step_from_reset :
    let s := State.reset.setPending [.startCheckComplete true, .portStart]
    step s = exec (.startCheckComplete true) (State.reset.setPending [.portStart]) := rfl

/-! ### Witnesses: for each statement with hypotheses, states and operands that meet them, clause by clause -/

/-- A frame of correct form from the master. -/
def frame (b : Body) : Frame := ⟨fromMaster 5 1, b⟩

/-- The payload of an empty walk. -/
def emptySum : SumBody := ⟨0, true, false, false, 0, 0, 0, 0⟩

/-- A side of the member in this state with this proof. -/
def sided (x : DoorState) (y : Proof) (s : State) : State := s.setSide .a ⟨x, y, false, false⟩

set_option maxRecDepth 20000 in
theorem witness_FramesAndBytesAgree : (frame (.data [])).formOk = true ∧ (frame (.data [1, 255])).formOk = true
    ∧ accept (frame (.data [])).bytes = .frame (frame (.data []))
    ∧ ((frame (.data [1])).tapFormOk = true ∧ (frame (.data [1])).header.epoch ≤ 255
      ∧ (frame (.data [1])).header.origin ≤ 255 ∧ 8 < (frame (.data [1])).bytes.length) := by decide
set_option maxRecDepth 20000 in
/-- R94: bytes after a record's declared end are ignored, and a record cut short of it is not taken. -/
theorem test_tap_declared_end :
    let l := (frame (.data [1])).bytes
    commandOfTapBytes true 0 (l ++ [9, 9]) = .tapData true ⟨.all, 0⟩ ⟨false, false, 1⟩ [1]
    ∧ commandOfTapBytes true 0 (l.take 8) = .tapExchange true (.refusedRecord .cutShort) := by decide
theorem witness_StepRunsFrontCommand : State.reset.pending = [] := rfl
/-- A node with a line for every kind of output. -/
def outputs : State := withLines ([.doorRelease .a, .doorClose .b, .trainDoorsClosed, .heatStage0, .heatStage1,
  .heatStage2, .generalOut].map fun f => line f false) member
theorem witness_NodeStatesChange : State.reset.bypass.node = .starting
    ∧ (node.setBypass ⟨.operating, true, .none, false, false⟩).bypass.started = false
    ∧ (node.setBypass ⟨.withdrawing, true, .none, true, false⟩).bypass.node = .withdrawing
    ∧ State.reset.bypass.node ≠ .operating
    ∧ exec .withdrawComplete node = .next (after .withdrawComplete node)
    ∧ (outputs.bypass.node = .operating ∧ outputs.lines.line.map (fun l => l.entry.function) = [.doorRelease .a,
        .doorClose .b, .trainDoorsClosed, .heatStage0, .heatStage1, .heatStage2, .generalOut] ++ List.replicate 9 .none) :=
  ⟨rfl, rfl, rfl, nofun, rfl, rfl, rfl⟩
/-- A port with a frame waiting at each level, so that each level is the highest in its turn. -/
def offering (u c b : List Queued) : State := member.setQueues .e1 ⟨u, c, b⟩
theorem witness_IdlePortSends :
    ((ran (.t0 .e1) node).operating = true ∧ (ran (.t0 .e1) node).count (.t0 .e1) = some 0)
    ∧ (node.portsRun = true ∧ (node.port .e1).rx = .betweenFrames ∧ (node.port .e1).tx.sending = false)
    ∧ ((offering [waiting 0] [waiting 1] []).isUp .e1 = true
      ∧ ((offering [waiting 0] [waiting 1] []).queues .e1).get .urgent = [waiting 0])
    ∧ (((offering [] [waiting 0] [waiting 1]).queues .e1).get .control = [waiting 0]
      ∧ ((offering [] [waiting 0] [waiting 1]).queues .e1).urgent = [])
    ∧ (((offering [] [] [waiting 0]).queues .e1).get .bulk = [waiting 0]
      ∧ ((offering [] [] [waiting 0]).queues .e1).control = []) ∧ member.queues .e1 = ⟨[], [], []⟩ := by decide
/-- A port that sends the frame at the head of a queue. -/
def sending : State := (offering [] [] [waiting 0]).setPort .e1 { idle .up with tx := .frame .bulk (waiting 0) .queued }
/-- The same port, its frame the response that a restart waits for. -/
def restarting : State := (sending.setPort .e1
  { idle .up with tx := .frame .bulk { waiting 0 with restart := true } .queued }).setMgmt { sending.mgmt with restart := .waiting }
/-- The same port, its frame left in the queue by a drain timeout. -/
def doomed : State := sending.setPort .e1 { idle .up with tx := .frame .bulk (waiting 0) .doomed }
/-- R89: such a frame is discarded when it loses arbitration. -/
theorem test_doomed_frame_lost :
    let t := after (.arbitrationLost .e1 0) doomed
    t.queues .e1 = ⟨[], [], []⟩ ∧ (t.port .e1).rx = .inFrame := by decide
set_option maxRecDepth 4000 in
theorem witness_FrameEnds : sending.portsRun = true ∧ (sending.port .e1).tx = .frame .bulk (waiting 0) .queued
    ∧ sending.relay.draining = false ∧ (bitsOf (waiting 0).frame.bytes)[0]? = some true
    ∧ (restarting.portsRun = true ∧ restarting.relay.draining = false ∧ restarting.mgmt.restart = .waiting
      ∧ (restarting.port .e1).tx = .frame .bulk { waiting 0 with restart := true } .queued)
    ∧ ((sending.setPort .e1 { idle .up with tx := .frame .bulk (waiting 0) .flushed }).portsRun = true
      ∧ ((sending.setPort .e1 { idle .up with tx := .frame .bulk (waiting 0) .flushed }).port .e1).tx
        = .frame .bulk (waiting 0) .flushed)
    ∧ (doomed.portsRun = true ∧ (doomed.port .e1).tx = .frame .bulk (waiting 0) .doomed
      ∧ doomed.relay.draining = false) := by decide
theorem witness_LinkCountsArrivals :
    ((linked .down .up).portsRun = true ∧ ((linked .down .up).port .e1).tx.sending = false
      ∧ ((linked .down .up).port .e1).rx = .betweenFrames ∧ ((linked .down .up).port .e1).link = .down)
    ∧ (((linked .arriving .up).port .e1).link = .arriving ∧ ((linked .arriving .up).port .e1).arrival < 3)
    ∧ ({ idle .arriving with arrival := 3 } : PortState).arrival = 3
    ∧ ((linked .up .down).port .e1).link = .up
    ∧ (1 < ({ idle .faulted with score := 2 } : PortState).score)
    ∧ ({ idle .faulted with score := 1 } : PortState).score = 1
    ∧ (frame (.data [])).formOk = true ∧ (linked .arriving .down).hears .e1 ∧ (linked .down .down).hears .e1
    ∧ (linked .faulted .down).hears .e1
    ∧ ((linked .arriving .down).setPort .e1 { idle .arriving with rx := .bitsOver }).hears .e1
    ∧ ((linked .arriving .down).setPort .e1 { idle .arriving with arrival := 3 }).hears .e1
    ∧ ((linked .faulted .down).setPort .e1 { idle .faulted with score := 1 }).hears .e1 := by decide
/-- A port whose score the next invalid item brings to 96. -/
def atLimit : State := (linked .up .down).setPort .e1 { idle .up with score := 88 }
theorem witness_InvalidItemByLinkState :
    (member.portsRun = true ∧ (member.port .e1).tx.sending = false ∧ (member.port .e1).score + 8 < 96
      ∧ (member.port .e1).rx = .betweenFrames)
    ∧ ((member.setPort .e1 { idle .up with rx := .inFrame, score := 87 }).port .e1).rx.open = true
    ∧ (atLimit.portsRun = true ∧ (atLimit.port .e1).tx.sending = false ∧ (atLimit.port .e1).rx = .betweenFrames
      ∧ (atLimit.port .e1).link = .up ∧ 96 ≤ (atLimit.port .e1).score + 8 ∧ atLimit.relay.draining = false
      ∧ atLimit.isUp Port.e1.other = false ∧ (atLimit.port .e1).rx.open = true)
    ∧ ((atLimit.setPort .e1 { idle .up with score := 88, rx := .inFrame }).portsRun = true
      ∧ ((atLimit.setPort .e1 { idle .up with score := 88, rx := .inFrame }).port .e1).rx = .inFrame
      ∧ (atLimit.setPort .e1 { idle .up with score := 88, rx := .inFrame }).isUp Port.e1.other = false)
    ∧ ((atLimit.setPort .e1 { idle .up with score := 88, rx := .bitsOver }).portsRun = true
      ∧ ((atLimit.setPort .e1 { idle .up with score := 88, rx := .bitsOver }).port .e1).rx = .bitsOver
      ∧ (atLimit.setPort .e1 { idle .up with score := 88, rx := .bitsOver }).isUp Port.e1.other = false) := by decide
theorem witness_BreakFlushesAndRepeats : member.portsRun = true ∧ (member.port .e1).link ≠ .down
    ∧ (member.port .e1).rx ≠ .breakHeld ∧ member.relay.draining = false
    ∧ (member.isUp Port.e1.other = true ∧ member.bypass.holdoff = false)
    ∧ ((member.setPort .e2 { idle .up with rx := .inFrame }).port Port.e1.other).rx = .inFrame := by decide
theorem witness_PortTimersEnd :
    ((ran (.t1 .e1) atLimit).portsRun = true ∧ (ran (.t1 .e1) atLimit).count (.t1 .e1) = some 0
      ∧ ((ran (.t1 .e1) atLimit).port .e1).link = .up ∧ (ran (.t1 .e1) atLimit).relay.draining = false
      ∧ (ran (.t1 .e1) atLimit).isUp Port.e1.other = false)
    ∧ ((ran (.t1 .e1) (linked .arriving .down)).port .e1).link = .arriving
    ∧ ((ran (.t1 .e1) (linked .faulted .down)).port .e1).link = .faulted
    ∧ ((member.setPort .e1 { idle .up with rx := .discarding }).port .e1).rx = .discarding := by decide
/-- A port whose BULK queue is full. -/
def full : State := offering [] [] (List.replicate 12 (waiting 0))
theorem witness_PlacementRules : node.isUp .e1 = false ∧ member.isUp .e1 = true
    ∧ ((member.queues .e1).get .bulk).length < Level.bulk.capacity ∧ full.isUp .e1 = true
    ∧ Level.bulk.capacity ≤ ((full.queues .e1).get .bulk).length ∧ member.relay.tapQueue.length < 12
    ∧ 12 ≤ (member.setTapQueue (List.replicate 12 (frame (.data [])))).relay.tapQueue.length
    ∧ 16 ≤ (member.setTapQueue (List.replicate 16 (frame (.data [])))).relay.tapQueue.length := by decide
theorem witness_PlacementRules_kinds : (∀ l, (frame (.topo ⟨3, .portUp, .e2⟩)).body ≠ .data l)
    ∧ ∀ l, (frame (.heat ⟨0, 0, 0, 0, 0⟩)).body ≠ .data l := ⟨fun _ => nofun, fun _ => nofun⟩
theorem witness_DataFrameDecided : member.takesFrame .e1 ∧ (frame (.data [1])).formOk = true
    ∧ (⟨fromMaster 4 1, .data [1]⟩ : Frame).header.epoch ≠ member.consist.epoch
    ∧ (member.settled = true ∧ (frame (.data [1])).header.epoch = member.consist.epoch)
    ∧ ((member.setRelay { member.relay with serviceActive := List.replicate 64 ⟨.stop, .copy, false, false, 0⟩ }).service
      1).maxPayload < [(1 : Byte)].length
    ∧ [(1 : Byte)].length ≤ (member.service 1).maxPayload
    ∧ ((toPosition 1 5 1).sel.value ≠ member.consist.position ∧ member.portToward 1 = .e1)
    ∧ (toPosition 2 5 1).sel.value = member.consist.position
    ∧ ((toPosition 3 5 1).sel.value ≠ member.consist.position ∧ member.portToward 3 ≠ .e1)
    ∧ member.hasRoom .e2 (member.service 1).level = true
    ∧ ((full.setPorts ⟨idle .up, idle .up⟩).takesFrame .e2 ∧ full.isUp Port.e2.other = true
      ∧ full.hasRoom Port.e2.other (full.service 1).level = false) := by decide
theorem witness_ResponsesDelivered : member.takesFrame .e1
    ∧ (⟨toPosition 2 5 1, .mgmtRsp ⟨.ok, .read, 1, 0, []⟩⟩ : Frame).formOk = true
    ∧ (toPosition 2 5 1).sel.value = member.consist.position ∧ (toPosition 2 4 1).epoch ≠ member.consist.epoch
    ∧ member.portToward (toPosition 1 5 1).sel.value = .e1
    ∧ member.portToward (toPosition 3 5 1).sel.value ≠ .e1 := by decide
/-- The node in an exchange that began with this many DATA frames in the tap delivery queue. -/
def inExchange (n : Nat) : State :=
  after (.tapExchange false .begins) (member.setTapQueue (List.replicate n (frame (.data []))))
/-- R94, R99, R183: DATA that arrives during an exchange which began at occupancy 11 makes a SELF request QUEUE_FULL at the
release, although the report said 11; the head frame leaves. -/
theorem test_arrival_in_exchange :
    let s := after (.data .e1 (toPosition 2 5 1) [1]) (inExchange 11)
    let t := after (.read (.tap true 1) (bare 1 0 1)) s
    (t.relay.report.map (fun r => r.occupancy)) = some 11 ∧ s.relay.tapQueue.length = 12
      ∧ t.relay.intake = .refused .queueFull ∧ t.relay.tapQueue.length = 11 := by decide
/-- R94: a frame that arrives during an exchange which began with an empty queue is neither sent in it nor removed. -/
theorem test_arrival_in_empty_exchange :
    let t := after (.tapExchange true .nothing) (after (.data .e1 (toPosition 2 5 1) [1]) (inExchange 0))
    (t.relay.report.map (fun r => r.head)) = some none ∧ t.relay.tapQueue.length = 1 ∧ t.relay.select = .idle := by
  decide
theorem witness_TapExchangeWithoutFrame : State.reset.bypass.node = .starting ∧ node.bypass.node ≠ .starting
    ∧ State.reset.relay.select = .idle ∧ node.relay.select = .idle ∧ (inExchange 0).relay.select = .serving false
    ∧ (inExchange 1).relay.select = .serving true ∧ (inExchange 1).bypass.node ≠ .starting
    ∧ (after .powerOn (inExchange 1)).relay.select = .unserved
    ∧ TapPart.nothing ≠ .begins := by decide
theorem witness_TapFramesQueued : (tapRecord ⟨.position, 3⟩ ⟨false, false, 1⟩ (.data [1])).tapFormOk = true
    ∧ (tapRecord (selectorOf .all) ⟨false, false, 1⟩ (.mgmtReq .read (bare 1 0 1))).tapFormOk = true
    ∧ member.tapServes := by decide
theorem witness_TapDoorCommandOriginated :
    (tapRecord ⟨.all, 0⟩ ⟨false, false, 0⟩ (.doorCmd .release .left true)).tapFormOk = true
    ∧ (tapRecord ⟨.all, 0⟩ ⟨false, false, 0⟩ (.doorCmd .close .both false)).tapFormOk = true
    ∧ master.tapServes := by decide
theorem witness_SideCommandsApplied : Side.b ≠ Side.a ∧ node.consist.doors = 0
    ∧ (member.inhibited .a = false ∧ member.consist.doors ≠ 0)
    ∧ (member.side .a).state = .closed ∧ ((sided .closing .notProved member).side .a).state = .closing
    ∧ ((sided .released .proved member).side .a).state = .released
    ∧ ((sided .stuck .proved member).side .a).state = .stuck := by decide
theorem witness_ProofChangesAct :
    let s := sided .closed .proved member
    Side.b ≠ Side.a ∧ (s.side .a).proof = .proved ∧ (s.side .a).state = .closed ∧ (s.side .a).held = false
    ∧ s.consist.doors ≠ 0 ∧ (member.side .a).proof ≠ .proved ∧ (sided .closed .proved master).consist.role = .master
    ∧ ((sided .closing .notProved member).side .a).state = .closing := by decide
theorem witness_DoorCommandArrives : member.takesFrame .e1
    ∧ (frame (.doorCmd .release .left true)).formOk = true ∧ (frame (.doorCmd .close .both false)).formOk = true
    ∧ member.portToward (toPosition 1 5 1).sel.value = .e1 := by decide
theorem witness_DoorAlertTaken : member.takesFrame .e1 ∧ master.takesFrame .e2
    ∧ (frame (.doorAlert ⟨1, .a, .left, 3⟩)).formOk = true
    ∧ (frame (.doorAlert ⟨32, .b, .right, 3⟩)).formOk = true := by decide
theorem witness_DoorTimersEnd :
    let s := ran (.t10 .a) (sided .closing .notProved member)
    let m := ran .t8 (ran .t7 (master.setDoor { master.door with outstanding := some 1 }))
    (s.bypass.node = .operating ∧ s.count (.t10 .a) = some 0 ∧ (s.side .a).state = .closing)
    ∧ (m.bypass.node = .operating ∧ m.consist.role = .master ∧ m.consist.state = .stable ∧ m.count .t7 = some 0)
    ∧ (m.count .t8 = some 0 ∧ m.door.outstanding ≠ none) := by decide
theorem witness_SumOutTaken : member.takesFrame .e1
    ∧ (⟨inPhase false (fromMaster 5 1), .sum emptySum⟩ : Frame).formOk = true := by decide
theorem witness_SumBackTaken : member.takesFrame .e2 ∧ master.takesFrame .e2
    ∧ (⟨inPhase true (fromMaster 5 1), .sum emptySum⟩ : Frame).formOk = true := by decide
/-- A STABLE master that is a train of one. -/
def single : State := (master.setPorts ⟨idle .down, idle .down⟩).setConsist { master.consist with table := [coach 7] }
theorem witness_WalksStart : master.isUp master.rearwardPort = true ∧ single.upPorts = [] := by decide
theorem witness_OutputsStaySafe : exec .portStart master = .next (after .portStart master)
    ∧ master.InterlockSafe ∧ master.WalkTimersSafe ∧ master.DoorsSafe ∧ master.CloseTimerSafe ∧ master.HeatSafe
    ∧ master.FallbackSafe ∧ (sided .released .proved master).DoorsSafe ∧ node.FallbackSafe := ⟨rfl, by decide⟩
/-- A master whose summary walk 1 is outstanding. -/
def walking : State := master.setDoor { master.door with walk := 1, outstanding := some 1 }
theorem witness_InterlockRaisedOnlyByCleanWalk :
    let c : Instr := .sumBack .e2 (fromMaster 5 1) ⟨3, true, false, false, 0, 0, 0, 0⟩
    exec c walking = .next (after c walking) ∧ walking.door.doorsClosed = false
      ∧ (after c walking).door.doorsClosed = true := ⟨rfl, by decide⟩
theorem witness_DoorObjectsWritten : member.judges local' .write ⟨10, 0, 2, [1, 0]⟩
    ∧ member.admits local' .doorInhibit ⟨10, 0, 2, [1, 0]⟩ ∧ (∀ b ∈ [(1 : Byte), 0], b = 0 ∨ b = 1)
    ∧ member.admits local' .doorInhibit ⟨10, 1, 1, [2]⟩ ∧ (∃ b ∈ [(2 : Byte)], b ≠ 0 ∧ b ≠ 1)
    ∧ member.judges local' .write ⟨11, 0, 1, [0x21]⟩ ∧ member.admits local' .coachDescriptor ⟨11, 0, 1, [0x21]⟩ := by
  decide
set_option maxRecDepth 4000 in
theorem witness_RollCallTaken : (linked .up .up).takesFrame .e1 ∧ master.takesFrame .e2
    ∧ (⟨inPhase false (fromMaster 6 1), .roll ⟨1, false, false, [coach 1]⟩⟩ : Frame).formOk = true
    ∧ (⟨inPhase false (fromMaster 6 3), .roll ⟨1, false, false, List.replicate 32 (coach 1)⟩⟩ : Frame).formOk = true
    ∧ (linked .up .up).consist.role ≠ .master ∧ master.consist.role = .master := by decide
/-- The returning list of an attempt that found this master and one more coach. -/
def returning : RollBody := ⟨7, false, false, [coach 7, coach 2]⟩
theorem witness_RollBackTaken :
    let f : Frame := ⟨inPhase true (fromMaster 6 1), .roll returning⟩
    let g : RollBody := ⟨1, false, false, [coach 1, coach 7]⟩
    (joining.takesFrame .e2 ∧ f.formOk = true)
    ∧ (joining.consist.role = .member ∧ joining.consist.joined = some ⟨6, 1, 1, 2, .normal⟩
      ∧ g.entries[1]? = some (coach 7) ∧ (coach 7).identity = joining.identity
      ∧ (forwardOf .normal).other = Port.e2)
    ∧ member.consist.joined = none ∧ (master.consist.role = .master ∧ master.consist.attempt = none)
    ∧ ((attempting .calling 1).consist.attempt = some ⟨6, 1, .normal, [coach 7, coach 2], coach 7⟩
      ∧ (attempting .calling 1).takesFrame .e2 ∧ (attempting .calling 1).consist.state = .calling
      ∧ returning.master = (attempting .calling 1).identity ∧ returning.entries[0]? = some (coach 7)) := by decide
theorem witness_ConfirmOutTaken :
    let f (r : ConfirmResult) : Frame :=
      ⟨inPhase false (fromMaster 6 1), .confirmOut ⟨r, 1, [coach 1, coach 7, coach 3]⟩⟩
    (joining.takesFrame .e1 ∧ (f .ok).formOk = true ∧ (f .conflict).formOk = true)
    ∧ (master.takesFrame .e2 ∧ master.consist.role = .master ∧ master.identity ≠ 1)
    ∧ (joining.consist.role = .member ∧ joining.consist.joined = some ⟨6, 1, 1, 2, .normal⟩
      ∧ forwardOf .normal = .e1 ∧ ([coach 1, coach 7, coach 3] : List Entry)[1]? = some (coach 7)
      ∧ (coach 7).identity = joining.identity ∧ (coach 7).orientation = .normal)
    ∧ (member.consist.joined = none ∧ member.takesFrame .e1) := by decide
theorem witness_ConfirmDoneTaken :
    let s := attempting .confirming 1
    (member.takesFrame .e2 ∧ (⟨inPhase true (fromMaster 5 1), .confirmDone 7⟩ : Frame).formOk = true
      ∧ member.consist.role = .member)
    ∧ (master.consist.role = .master ∧ master.consist.attempt = none)
    ∧ (s.takesFrame .e2 ∧ s.consist.attempt = some ⟨6, 1, .normal, [coach 7, coach 2], coach 7⟩
      ∧ s.consist.state = .confirming ∧ (forwardOf .normal).other = Port.e2 ∧ s.identity = 7 ∧ s.InterlockSafe) := by
  decide
theorem witness_TriggerRestartsSettling : master.consist.role = .master ∧ master.consist.state = .stable
    ∧ (attempting .calling 1).consist.state = .calling ∧ (attempting .confirming 1).consist.state = .confirming
    ∧ master.judges local' .reinaugurate (bare 0 0 0) ∧ accessOf local' = .ownTap := by decide
theorem witness_TopoTaken : member.takesFrame .e2 ∧ master.takesFrame .e2
    ∧ (frame (.topo ⟨3, .portUp, .e2⟩)).formOk = true := by decide
theorem witness_AttemptTimers :
    let s := ran .t2 (masterIn .settling)
    let alone := ran .t2 ((masterIn .settling).setPorts ⟨idle .down, idle .down⟩)
    let c (n : Nat) := ran .t3 (attempting .calling n)
    let d (n : Nat) := ran .t4 (attempting .confirming n)
    (s.bypass.node = .operating ∧ s.consist.role = .master ∧ s.relay.draining = false ∧ s.mgmt.restart = .none
      ∧ s.consist.state = .settling ∧ s.count .t2 = some 0 ∧ s.isUp .e2 = true ∧ s.isUp Port.e2.other = false
      ∧ s.consist.epoch ≤ 255)
    ∧ (alone.isUp .e1 = false ∧ alone.isUp .e2 = false)
    ∧ ((c 2).consist.state = .calling ∧ (c 2).count .t3 = some 0 ∧ (c 3).consist.state = .calling)
    ∧ ((d 2).consist.state = .confirming ∧ (d 2).count .t4 = some 0 ∧ (d 3).count .t4 = some 0) := by decide
theorem witness_MemberTimers :
    (node.bypass.node = .operating ∧ member.consist.role = .member)
    ∧ ((ran .t5 joining).consist.state = .inaugurating ∧ (ran .t5 joining).count .t5 = some 0)
    ∧ ((ran .t6 (memberIn .suspect)).consist.state = .suspect ∧ (ran .t6 (memberIn .suspect)).count .t6 = some 0)
    ∧ ((ran .t9 member).consist.state = .stable ∧ (ran .t9 member).count .t9 = some 0) := by decide
theorem witness_ConsistStaysLegal : exec .portStart master = .next (after .portStart master) ∧ master.RoleSafe
    ∧ master.SampleSafe ∧ master.StateOfRole ∧ master.OutsideSafe ∧ master.WalkTimersSafe ∧ master.TimersSafe :=
  ⟨rfl, by decide, by decide, trivial, by decide⟩
/-- A master with a heat walk outstanding and the heat timers run out. -/
def heating : State :=
  ran .t14 (ran .t13 (ran .t12 (ran .t11 ((withLines [line .heatFeedback false] master).setHeat
    { master.heat with outstanding := some 1, fallback := false }))))
theorem witness_HeatTimersEnd : (node.present .heatFeedback = false ∧ (node.heat.applied = 0 ↔ (0 : Nat) = 0))
    ∧ (heating.present .heatFeedback = true ∧ heating.heat.lockedOut = false
      ∧ ¬(heating.heat.applied = 0 ↔ (3 : Nat) = 0) ∧ (heating.asserted .heatFeedback = true ↔ (3 : Nat) = 0))
    ∧ (heating.bypass.node = .operating ∧ heating.consist.role = .master ∧ heating.consist.state = .stable
      ∧ heating.count .t11 = some 0 ∧ heating.count .t12 = some 0 ∧ heating.heat.outstanding ≠ none)
    ∧ (heating.count .t13 = some 0 ∧ heating.heat.fallback = false)
    ∧ (heating.count .t14 = some 0 ∧ heating.lineCarrying .heatFeedback = some 0) := by decide
theorem witness_HeatOutTaken :
    let s := proved coach2
    s.takesFrame .e1 ∧ (⟨inPhase false (fromMaster 5 17), .heat ⟨480, 3, 1, 200, 0⟩⟩ : Frame).formOk = true
    ∧ (s.consist.role = .member ∧ s.consist.state = .stable ∧ Port.e1 = s.forwardPort)
    ∧ (4 ≤ s.effectiveDemand ∧ s.profileAt 4 ≤ 480 / 3 ∧ ∀ k ≤ s.effectiveDemand, 4 < k → 480 / 3 < s.profileAt k)
    ∧ (master.takesFrame .e2 ∧ master.consist.role ≠ .member) := by decide
theorem witness_HeatBackTaken :
    let r : WalkRecord := ⟨17, 7, 4, true⟩
    let s := coach2.setHeat { coach2.heat with walkRecord := some r }
    let m := master.setHeat { master.heat with outstanding := some 17, walkRecord := some ⟨17, 0, 0, false⟩ }
    (s.takesFrame .e2 ∧ (⟨inPhase true (fromMaster 5 17), .heat ⟨120, 0, 2, 680, 0⟩⟩ : Frame).formOk = true)
    ∧ (s.consist.role = .member ∧ s.consist.state = .stable ∧ Port.e2 = s.rearwardPort)
    ∧ (r.grant ≤ 5 ∧ 5 ≤ r.demand ∧ s.profileAt 5 ≤ s.profileAt r.grant + 120 / 2
      ∧ ∀ k ≤ r.demand, 5 < k → s.profileAt r.grant + 120 / 2 < s.profileAt k)
    ∧ member.heat.walkRecord = none
    ∧ (m.takesFrame .e2 ∧ m.consist.role = .master ∧ m.heat.outstanding = some 17 ∧ Port.e2 = m.rearwardPort
      ∧ m.heat.walkRecord = some ⟨17, 0, 0, false⟩) ∧ member.takesFrame .e1 := by decide
theorem witness_HeatWalkKeepsBudget : coach2.heat.ProfileSafe ∧ (3 : Nat) ≠ 0
    ∧ (⟨17, 7, 4, true⟩ : WalkRecord).grant ≤ (⟨17, 7, 4, true⟩ : WalkRecord).demand
    ∧ (⟨17, 7, 4, true⟩ : WalkRecord).demand ≤ 7 := by decide
theorem witness_StageRaisedOnlyByReturnStep :
    let c : Instr := .heatBack .e2 (fromMaster 5 17) ⟨120, 0, 2, 680, 0⟩
    let s := (proved coach2).setHeat { coach2.heat with applied := 4, walkRecord := some ⟨17, 7, 4, true⟩ }
    exec c s = .next (after c s) ∧ s.heat.applied < (after c s).heat.applied := ⟨rfl, by decide⟩
theorem witness_RequestsJudged :
    let i : Instr := .writeTimers local' ⟨16, 2, 1, [0, 9]⟩
    let gone := member.setBypass ⟨.withdrawn, false, .requested, true, false⟩
    let busy := member.setMgmt ⟨none, .waiting⟩
    let j : Instr := .read train (bare 1 0 1)
    (i.wf = true ∧ requestOf i = some (local', .write, ⟨16, 2, 1, [0, 9]⟩))
    ∧ (gone.reaches local' .write ⟨16, 2, 1, [0, 9]⟩ ∧ gone.bypass.node ≠ .operating)
    ∧ (busy.reaches local' .write ⟨16, 2, 1, [0, 9]⟩ ∧ busy.mgmt.restart ≠ .none)
    ∧ (member.reaches local' .commit (bare 0 0 0) ∧ member.reaches train .withdraw (bare 0 0 0))
    ∧ 12 ≤ (member.setTapQueue (List.replicate 12 (frame (.data [])))).relay.tapQueue.length
    ∧ (j.wf = true ∧ member.takesFrame .e1 ∧ member.portToward (toPosition 1 5 60).sel.value = .e1
      ∧ member.relay.groupsActive.getLsbD 8 = false ∧ (fromMaster 4 60).epoch ≠ member.consist.epoch) := by decide
theorem witness_WritesJudged :
    let i : Instr := .write local' ⟨1, 0, 1, [0, 0, 0, 0]⟩
    let j : Instr := .writeLines local' ⟨6, 15, 2, [0, 0, 0, 0, 0, 0]⟩
    i.wf = true ∧ requestOf i = some (local', .write, ⟨1, 0, 1, [0, 0, 0, 0]⟩)
    ∧ member.judges local' .write ⟨1, 0, 1, [0, 0, 0, 0]⟩ ∧ objectOf 1 = some .identity
    ∧ j.wf = true ∧ member.judges local' .write ⟨6, 15, 2, [0, 0, 0, 0, 0, 0]⟩ ∧ objectOf 6 = some .lines
    ∧ member.judges train .write ⟨4, 0, 1, [0, 0]⟩ ∧ objectOf 4 = some .service
    ∧ member.judges local' .write ⟨15, 0, 1, [0x10, 0]⟩ ∧ member.admits local' .supplyLimit ⟨15, 0, 1, [0x10, 0]⟩
    ∧ words [0x10, 0] = [4096] := by decide
theorem witness_ReadsAnswered :
    let i : Instr := .readLineReport local' (bare 8 0 1)
    let j : Instr := .readFaults train (bare 17 0 8)
    i.wf = true ∧ requestOf i = some (local', .read, bare 8 0 1) ∧ member.reaches local' .read (bare 8 0 1)
    ∧ objectOf 8 = some .lineReport ∧ j.wf = true ∧ requestOf j = some (train, .read, bare 17 0 8)
    ∧ member.reaches train .read (bare 17 0 8) ∧ objectOf 17 = some .faults
    ∧ (member.consist.table[1]? = some (coach 7) ∧ member.relay.serviceActive[63]? = some .powerOn
      ∧ master.lines.line[0]? = some (line .cabActive true) ∧ master.lines.line.length = 16
      ∧ member.heat.profile[7]? = some 0 ∧ member.timers.settings[15]? = some ⟨200, .fine⟩
      ∧ member.faults.slots[7]? = some none
      ∧ (recordFault .denied .tap member).faults.slots[0]? = some (some ⟨.denied, .tap, 1, 0, 0, 5, true⟩)) := by decide
theorem witness_BanksWrittenAndCommitted :
    let older := offering [] [] [waiting 3]
    (member.judges train .write ⟨0x84, 63, 1, [0x80, 240]⟩ ∧ member.admits train .service ⟨0x84, 63, 1, [0x80, 240]⟩
      ∧ pairs [0x80, 240] = [(0x80, 240)] ∧ (0x80 : Byte).toNat / 32 % 4 = 0 ∧ (240 : Byte).toNat ≤ 240
      ∧ pairs [0x60, 1] = [(0x60, 1)] ∧ (0x60 : Byte).toNat / 32 % 4 = 3)
    ∧ (member.judges train .write ⟨0x85, 15, 1, [1]⟩ ∧ member.admits train .groups ⟨0x85, 15, 1, [1]⟩
      ∧ member.admits train .groups ⟨0x85, 8, 1, [2]⟩)
    ∧ ((Instr.commitWithDrain train (bare 0 1 0)).wf = true ∧ older.judges train .commit (bare 0 1 0)
      ∧ requestOf (.commitWithDrain train (bare 0 1 0)) = some (train, .commit, bare 0 1 0)) := by
  refine ⟨⟨?_, ?_, ?_, ?_, ?_, ?_, ?_⟩, ⟨?_, ?_, ?_⟩, ?_, ?_, ?_⟩ <;> decide
/-- A node that waits for the frames of an older generation. -/
def draining : State :=
  ran .t15 ((sending.setRelay { sending.relay with draining := true, generation := 1 }).setMgmt ⟨some ⟨63, 1⟩, .none⟩)
theorem witness_DrainEnds : draining.bypass.node = .operating ∧ draining.count .t15 = some 0
    ∧ draining.relay.draining = true ∧ draining.mgmt.commit = some ⟨63, 1⟩ ∧ draining.mgmt.restart = .none
    ∧ draining.portsRun = true ∧ (draining.port .e1).tx = .frame .bulk (waiting 0) .queued
    ∧ ((draining.port .e1).link = .up ∧ (ran (.t1 .e1) draining).count (.t1 .e1) = some 0)
    ∧ ((draining.setPort .e1 { idle .up with score := 88 }).portsRun = true
      ∧ 96 ≤ ({ idle .up with score := 88 } : PortState).score + 8) := by decide
/-- The node with a change due on line 0, which carries this function at this level. -/
def changing (f : LineFunction) (level : Bool) (s : State) : State :=
  (withLines [{ line f level with change := .since 0 }] s).setTimers { s.timers with timebase := 20 }
theorem witness_EdgeQualified :
    let due (s : State) : Prop := s.bypass.node = .operating ∧ (s.lineAt 0).change = .since 0
      ∧ (s.lineAt 0).entry.debounce ≤ (s.timers.timebase - 0).toNat
    due (changing (.doorProof .a) true member) ∧ due (changing (.doorInhibit .a) false member)
    ∧ due (changing .heatFeedback false member) ∧ due (changing .heatDemand0 false member)
    ∧ due (changing .generalIn false member) ∧ due (changing .cabActive false member)
    ∧ (node.lineAt 0).change = .none := by decide
/-- A port state at E1 of a node whose other port is not UP. -/
def e1Is (x : PortState) : State := (linked .up .down).setPort .e1 x
def arrivedThrice : PortState := { idle .arriving with arrival := 3 }
def nearlySound : PortState := { idle .faulted with score := 1 }
/-- The state lets a port event of E1 act: it runs and sends nothing, and no drain and no restart is pending. -/
abbrev IsQuiet (s : State) : Prop := s.portsRun = true ∧ (s.port .e1).tx.sending = false
  ∧ s.relay.draining = false ∧ s.mgmt.restart = .none
set_option maxRecDepth 4000 in
theorem witness_RoleFollowsCabAndPorts :
    let s := changing .cabActive false last
    let m := changing .cabActive true master
    let cab := withLines [line .cabActive true] last
    let dark := (linked .up .down).setCount (.t1 .e1) (some 0)
    (s.LinesSafe ∧ (s.lineAt 0).entry.function = .cabActive ∧ s.bypass.node = .operating
      ∧ (s.lineAt 0).due s.timers.timebase = true ∧ s.consist.role = .member ∧ (!(s.lineAt 0).qualified) = true
      ∧ s.upPorts.length ≤ 1)
    ∧ 1 < (changing .cabActive false member).upPorts.length
    ∧ (m.LinesSafe ∧ m.consist.role = .master ∧ m.consist.state = .stable ∧ (m.lineAt 0).qualified = true)
    ∧ (changing .cabActive true (masterIn .settling)).consist.state ≠ .stable
    ∧ (master.consist.role = .master ∧ master.isUp .e1 = false)
    ∧ ((master.setPorts ⟨idle .up, idle .up⟩).isUp .e1 = true ∧ (master.setPorts ⟨idle .up, idle .up⟩).isUp .e2 = true
      ∧ master.consist.state = .stable ∧ (masterIn .settling).consist.state ≠ .stable)
    ∧ (cab.consist.role = .member ∧ cab.cab = true ∧ cab.isUp .e2 = false)
    ∧ (member.consist.role = .member ∧ member.cab = false ∧ member.consist.state = .stable
      ∧ (memberIn .suspect).consist.state ≠ .stable)
    ∧ (IsQuiet dark ∧ dark.count (.t1 .e1) = some 0 ∧ (dark.port .e1).link = .up)
    ∧ (IsQuiet atLimit ∧ (atLimit.port .e1).rx = .betweenFrames ∧ (atLimit.port .e1).link = .up
      ∧ 96 ≤ (atLimit.port .e1).score + 8)
    ∧ (IsQuiet (e1Is arrivedThrice) ∧ ((e1Is arrivedThrice).port .e1).arrival = 3)
    ∧ (IsQuiet (e1Is nearlySound) ∧ ((e1Is nearlySound).port .e1).score = 1) := by
  refine ⟨?_, ?_, ?_, ?_, ?_, ?_, ?_, ?_, ?_, ?_, ?_, ?_⟩ <;> decide
theorem witness_TimebaseStep : State.reset.bypass.node = .starting
    ∧ (node.setBypass ⟨.withdrawn, false, .requested, true, false⟩).bypass.node = .withdrawn
    ∧ (node.bypass.node = .operating ∧ node.lines.firstSample = true) ∧ master.lines.firstSample = false
    ∧ (member.hears .e1 ∧ member.receives .e1 = true ∧ (member.port .e1).link ≠ .down) := by decide
set_option maxRecDepth 4000 in
theorem witness_LineObjectsWritten :
    let q : Req := ⟨6, 14, 2, [3, 0x80, 255, 4, 1, 20]⟩
    let twice : Req := ⟨6, 14, 2, [3, 0, 20, 3, 0, 20]⟩
    let out := withLines [line .generalOut false, line .generalOut false] member
    (member.judges local' .write q ∧ member.admits local' .lines q ∧ member.LinesSafe
      ∧ (member.side .a).proof = member.lineProof .a ∧ (member.side .b).proof = member.lineProof .b
      ∧ functionOf 3 = some (.doorProof .a) ∧ functionOf 4 = some (.doorProof .b))
    ∧ (member.admits local' .lines twice ∧ functionOf 12 = none ∧ member.admits local' .lines ⟨6, 0, 1, [12, 0, 0]⟩)
    ∧ (out.judges local' .write ⟨9, 0, 2, [1, 0]⟩ ∧ out.admits local' .generalOut ⟨9, 0, 2, [1, 0]⟩
      ∧ (∀ k < 2, (out.lineAt k).entry.function = .generalOut))
    ∧ member.admits local' .generalOut ⟨9, 15, 1, [2]⟩ := by
  refine ⟨⟨?_, ?_, ?_, ?_, ?_, ?_, ?_⟩, ⟨?_, ?_, ?_⟩, ⟨?_, ?_, ?_⟩, ?_⟩ <;> decide
theorem witness_HeatObjectsWritten :
    let up : Req := ⟨12, 0, 8, [0, 0, 0, 40, 0, 40, 0, 40, 0, 40, 0, 40, 0, 40, 3, 255]⟩
    let down : Req := ⟨12, 0, 8, [0, 0, 0, 40, 0, 39, 0, 40, 0, 40, 0, 40, 0, 40, 3, 255]⟩
    (member.judges local' .write up ∧ member.admits local' .heatProfile up ∧ profileOk (words up.data) = true)
    ∧ (member.admits local' .heatProfile down ∧ profileOk (words down.data) = false)
    ∧ (member.judges local' .write ⟨15, 0, 1, [0x10, 0]⟩ ∧ member.admits local' .supplyLimit ⟨15, 0, 1, [0x10, 0]⟩
      ∧ words [0x10, 0] = [4096])
    ∧ (member.judges local' .write ⟨14, 0, 1, [8]⟩ ∧ member.admits local' .heatDemand ⟨14, 0, 1, [8]⟩)
    ∧ (member.judges local' .write ⟨13, 0, 2, [7, 8]⟩ ∧ member.admits local' .heatSettings ⟨13, 0, 2, [7, 8]⟩) := by
  refine ⟨⟨?_, ?_, ?_⟩, ⟨?_, ?_⟩, ⟨?_, ?_, ?_⟩, ⟨?_, ?_⟩, ?_, ?_⟩ <;> decide
theorem witness_TimerSettingsWritten : member.judges local' .write ⟨16, 15, 1, [4, 0]⟩
    ∧ member.admits local' .timers ⟨16, 15, 1, [4, 0]⟩ ∧ member.timers.settings.length = 16 := by decide
theorem witness_FaultsAndLockoutCleared : member.judges local' .clearFaults (bare 0 255 0)
    ∧ member.judges train .clearFaults (bare 0 8 0) ∧ member.judges local' .clearLockout (bare 0 0 0)
    ∧ accessOf local' = .ownTap ∧ member.HeatSafe := by decide
theorem witness_NodeRestarts :
    let room := member
    let stuffed := member.setQueues .e1 ⟨[], List.replicate 6 (waiting 0), []⟩
    let cut := member.setConsist { member.consist with orientation := .reversed }
    (member.judges local' .restart (bare 0 0 0) ∧ member.judges train .restart (bare 0 0 0))
    ∧ (room.isUp (forwardOf room.consist.orientation) = true
      ∧ (room.whenTaken train .restart (bare 0 0 0)).hasRoom .e1 .control = true)
    ∧ (stuffed.judges train .restart (bare 0 0 0)
      ∧ (stuffed.whenTaken train .restart (bare 0 0 0)).hasRoom .e1 .control = false)
    ∧ ((cut.setPort .e2 (idle .down)).judges train .restart (bare 0 0 0)
      ∧ (cut.setPort .e2 (idle .down)).isUp (forwardOf cut.consist.orientation) = false)
    ∧ (member.bypass.node = .operating ∧ (member.setMgmt ⟨none, .due⟩).mgmt.restart ≠ .none) := by decide
theorem witness_WithdrawTaken : member.judges local' .withdraw (bare 0 0 0) ∧ accessOf local' = .ownTap
    ∧ member.relay.draining = false ∧ master.consist.role = .master ∧ member.isUp .e1 = true
    ∧ last.isUp .e2 = false := by decide
/-- A table with one DENIED record against the tap. -/
def oneRecord : State := recordFault .denied .tap member
/-- A table whose eight slots are taken. -/
def eightRecords : State :=
  member.setFaults ⟨(List.range 8).map fun n => some ⟨.badKind, .line n, 255, 0, 0, 0, false⟩, false⟩
theorem witness_FaultsRecorded :
    oneRecord.faults.slots[0]? = some (some ⟨.denied, .tap, 1, 0, 0, 5, true⟩)
    ∧ oneRecord.faults.slots[1]? = some none ∧ some ⟨.denied, .tap, 1, 0, 0, 5, true⟩ ∈ oneRecord.faults.slots
    ∧ (∀ y ∈ eightRecords.faults.slots, ∃ r ∈ y, ¬(r.kind = .denied ∧ r.source = .tap))
    ∧ eightRecords.faults.slots[7]? = some (some ⟨.badKind, .line 7, 255, 0, 0, 0, false⟩) := by decide
theorem witness_QueuesStayBounded : exec .portStart draining = .next (after .portStart draining) ∧ full.QueuesSafe
    ∧ full.TapSafe ∧ draining.DrainSafe ∧ full.DrainSafe := ⟨rfl, by decide⟩
set_option maxRecDepth 4000 in
theorem witness_TablesStayLegal : exec .portStart master = .next (after .portStart master) ∧ oneRecord.faults.Safe
    ∧ master.LinesSafe ∧ master.SettingsSafe ∧ coach2.SettingsSafe
    ∧ master.ProofSafe := ⟨rfl, by decide, by decide, by decide, by decide, fun d => by cases d <;> decide⟩

end Sys2Proof.Tests
end

section
/-! The statement on TOPO (R71): the two owners a TOPO can have, and what R84 and R92 say of a frame of an urgent kind. -/

namespace Sys2Proof.Machine

open Sys2Proof

/-- The command of a TOPO is the arrival of its frame (R5) with the consist unit as its owner. -/
theorem exec_topo (p : Port) (h : Header) (x : TopoBody) (s : State) :
    exec (.topo p h x) s = .next (frameArrives p ⟨h, .topo x⟩ (takeTopo p ⟨h, .topo x⟩) s) := rfl

/-- R71: at a member the relay unit takes a TOPO on. -/
theorem takeTopo_of_member {p : Port} {f : Frame} {s : State} (hr : s.consist.role = .member) :
    takeTopo p f s = sendFrame p.other f s := by
  simp [takeTopo, State.isMaster, hr]

/-- R71: at a master a TOPO is a trigger, whatever the consist state, and goes to the tap. -/
theorem takeTopo_of_master {p : Port} {f : Frame} {s : State} (hr : s.consist.role ≠ .member) :
    takeTopo p f s = deliver f (trigger s) := by
  have hm : s.consist.role = .master := by
    cases h : s.consist.role with
    | member => exact absurd h hr
    | master => rfl
  simp [takeTopo, State.isMaster, hm]

/-- R83, R84: a frame of a kind that waits at the URGENT level takes one of its four places on an UP port. -/
theorem sendFrame_of_urgent (p : Port) {f : Frame} (s : State) (hf : bodyLevel f.body = .urgent) :
    sendFrame p f s = if s.isUp p = false then s
      else if (s.queues p).urgent.length < 4 then
        s.setQueues p { s.queues p with urgent := (s.queues p).urgent ++ [plain f] }
      else recordFault .queueFull (.port p) s := by
  have hroom : s.hasRoom p .urgent = true ↔ (s.queues p).urgent.length < 4 := decide_eq_true_iff
  rw [sendFrame, hf]
  rcases enqueue_cases p .urgent (plain f) s with ⟨hdown, he⟩ | ⟨hup, hfree, he⟩ | ⟨hup, hfull, he⟩
  · rw [he, if_pos hdown]
  · rw [he, if_neg (by simp [hup]), if_pos (hroom.mp hfree)]
    rfl
  · rw [he, if_neg (by simp [hup]), if_neg (by simp [← hroom, hfull])]

/-- R92: a frame of an urgent kind may take each of the sixteen places of the tap delivery queue. -/
theorem deliver_of_urgent {f : Frame} (s : State) (hf : Body.urgent f.body = true) :
    deliver f s = if s.relay.tapQueue.length < 16 then s.setTapQueue (s.relay.tapQueue ++ [f])
      else recordFault .tapOverrun .tap s := by
  simp [deliver, tapLimit, hf]

/-- Settles O35, by the node's role: a member's part is the relay unit's (R84) on the state that the arrival left, a
master's the trigger and then the tap delivery queue (R92), which the trigger leaves as it was. -/
theorem topoTaken : Obligations.TopoTaken := by
  intro p h x s ht hf
  dsimp only
  rw [exec_topo, frameArrives_of_takesFrame ht hf]
  congr 1
  by_cases hr : s.consist.role = .member
  · rw [if_pos hr, takeTopo_of_member (by simpa using hr), sendFrame_of_urgent _ _ rfl,
      afterFrame_isUp, afterFrame_queues, plain]
  · rw [if_neg hr, takeTopo_of_master (by simpa using hr), deliver_of_urgent _ rfl,
      trigger_relay, afterFrame_relay]

end Sys2Proof.Machine
end

section
/-! The statement on DOOR_ALERT (R139, R140): the two owners an alert can have, by the rules of R84 and R92 for a frame
of an urgent kind. -/

namespace Sys2Proof.Machine

open Sys2Proof

/-- The command of a DOOR_ALERT is the arrival of its frame (R5) with the door unit as its owner. -/
theorem exec_doorAlert (p : Port) (h : Header) (x : AlertBody) (s : State) :
    exec (.doorAlert p h x) s = .next (frameArrives p ⟨h, .doorAlert x⟩ (takeAlert p ⟨h, .doorAlert x⟩) s) := rfl

/-- R139: at a member the relay unit takes a DOOR_ALERT on. -/
theorem takeAlert_of_member {p : Port} {f : Frame} {s : State} (hr : s.consist.role = .member) :
    takeAlert p f s = sendFrame p.other f s := by
  simp [takeAlert, State.isMaster, hr]

/-- R140: at a master a DOOR_ALERT drops the interlock, whatever its epoch and the consist state, and goes to the
tap. -/
theorem takeAlert_of_master {p : Port} {f : Frame} {s : State} (hr : s.consist.role = .master) :
    takeAlert p f s = deliver f (dropInterlock s) := by
  simp [takeAlert, State.isMaster, hr]

/-- Settles O22, by the node's role: a member's part is the relay unit's (R84) on the state that the arrival left, a
master's the interlock and then the tap delivery queue (R92), which the interlock leaves as it was. -/
theorem doorAlertTaken : Obligations.DoorAlertTaken := by
  intro p h x s ht hf
  dsimp only
  rw [exec_doorAlert, frameArrives_of_takesFrame ht hf]
  congr 1
  cases hr : s.consist.role with
  | member =>
    rw [if_pos rfl, takeAlert_of_member (by simpa using hr), sendFrame_of_urgent _ _ rfl,
      afterFrame_isUp, afterFrame_queues, plain]
  | master =>
    rw [if_neg (by decide), takeAlert_of_master (by simpa using hr), deliver_of_urgent _ rfl,
      dropInterlock_relay, afterFrame_relay, dropInterlock, afterFrame_door]

end Sys2Proof.Machine
end

section
/-! The statement on MGMT_RSP (R82, R193): the node's own part of a response by the route of its frame, and what R92 says
of a frame of an ordinary kind. -/

namespace Sys2Proof.Machine

open Sys2Proof

/-- The command of a MGMT_RSP is the arrival of its frame (R5), routed (R82) with the management unit as its owner. -/
theorem exec_mgmtRsp (p : Port) (h : Header) (x : RspBody) (s : State) :
    exec (.mgmtRsp p h x) s
      = .next (frameArrives p ⟨h, .mgmtRsp x⟩ (routed p ⟨h, .mgmtRsp x⟩ (takeResponse ⟨h, .mgmtRsp x⟩)) s) := rfl

/-- R92: a frame of an ordinary kind may take the first twelve places of the tap delivery queue. -/
theorem deliver_of_ordinary {f : Frame} (s : State) (hf : Body.urgent f.body = false) :
    deliver f s = if s.relay.tapQueue.length < 12 then s.setTapQueue (s.relay.tapQueue ++ [f])
      else recordFault .tapOverrun .tap s := by
  simp [deliver, tapLimit, hf]

/-- R79: a route is made out from the selector and the consist record alone. -/
theorem route_congr {s t : State} (p : Port) (sel : Selector) (hc : t.consist = s.consist) :
    t.route p sel = s.route p sel := by
  unfold State.route State.portToward State.forwardPort State.rearwardPort State.direction
  rw [hc]

/-- R82: queueing a frame leaves every route as it was. -/
@[simp] theorem sendFrame_route (p q : Port) (f : Frame) (sel : Selector) (s : State) :
    (sendFrame q f s).route p sel = s.route p sel :=
  route_congr p sel (sendFrame_consist q f s)

/-- R193: the addressee of a response is the node at which its way ends (R79), under the node's epoch (R34). -/
theorem responseMine_iff (p : Port) (h : Header) (s : State) :
    s.responseMine h = true ↔ s.route p h.sel = .here ∧ s.epochMatches h.epoch = true := by
  rw [(route_cases s p h.sel).2.1]
  cases ht : h.sel.type <;> simp [State.responseMine, State.inScope, ht, and_comm]

/-- R193: where its way ends, a response is delivered under the node's epoch and dropped under another. -/
theorem takeResponse_of_here {p : Port} {f : Frame} {s : State} (hr : s.route p f.header.sel = .here) :
    takeResponse f s = if s.epochMatches f.header.epoch = true then deliver f s else s := by
  simp [takeResponse, responseMine_iff p, hr]

/-- R193: the management unit does nothing with a response whose way does not end here. -/
theorem takeResponse_of_not_here {p : Port} {f : Frame} {s : State} (hr : s.route p f.header.sel ≠ .here) :
    takeResponse f s = s := by
  simp [takeResponse, responseMine_iff p, hr]

/-- R82, R193: what a routed response does, by its route. -/
theorem routed_takeResponse (p : Port) (f : Frame) (s : State) :
    routed p f (takeResponse f) s = match s.route p f.header.sel with
      | .here => if s.epochMatches f.header.epoch = true then deliver f s else s
      | .onward => sendFrame p.other f s
      | .misrouted => recordFault .misroute (.port p) s := by
  rcases routed_cases p f (takeResponse f) s with ⟨hr, he⟩ | ⟨hr, he⟩ | ⟨hr, he⟩
  · rw [he, hr, takeResponse_of_here hr]
  · rw [he, hr, takeResponse_of_not_here (p := p) (by simp [hr])]
  · rw [he, hr]

/-- Settles O15, by the route of the response on the state that the arrival left: `mine` says that its way ends here,
`away` that it is misrouted, and every other response goes on. -/
theorem responsesDelivered : Obligations.ResponsesDelivered := by
  intro p h x s ht hf
  obtain ⟨-, hhere, haway⟩ := route_cases s p h.sel
  dsimp only
  rw [exec_mgmtRsp, frameArrives_of_takesFrame ht hf, routed_takeResponse, afterFrame_route,
    afterFrame_epochMatches, ← hhere, ← haway, ← epochMatches_iff]
  refine ⟨fun hr he hz => ?_, fun hr he => ?_, fun hr => ?_, fun hnh hna => ?_⟩
  · rw [hr, if_pos ((epochMatches_iff _ _).mpr ⟨he, hz⟩), deliver_of_ordinary _ rfl, afterFrame_relay]
  · rw [hr, if_neg he]
  · rw [hr]
  · cases hr : s.route p h.sel with
    | here => exact absurd hr hnh
    | misrouted => exact absurd hr hna
    | onward => rfl

end Sys2Proof.Machine
end

section
/-! The statement on the fault table (R200, R201): whether a record takes the fault, which slot is the lowest free one,
and what each of the three ways of `record_cases` does to one slot. -/

namespace Sys2Proof.Machine

open Sys2Proof

section Slots

variable {t : FaultTable} {k : FaultKind} {x : FaultSource} {r : FaultRecord} {i : Nat}

@[simp] theorem holds_none (k : FaultKind) (x : FaultSource) : holds k x none = false := rfl

/-- R200: a slot in use holds the fault when its record is of the same kind and the same source. -/
@[simp] theorem holds_some_iff : holds k x (some r) = true ↔ r.kind = k ∧ r.source = x := by
  simp [holds]

/-- R200: a slot that holds the fault is one in use by a record of its kind and source. -/
theorem any_holds_iff :
    t.slots.any (holds k x) = true ↔ ∃ r, some r ∈ t.slots ∧ r.kind = k ∧ r.source = x := by
  rw [List.any_eq_true]
  constructor
  · rintro ⟨_ | r, hr, hh⟩
    · simp at hh
    · exact ⟨r, hr, holds_some_iff.mp hh⟩
  · rintro ⟨r, hr, hs⟩
    exact ⟨some r, hr, holds_some_iff.mpr hs⟩

/-- R201: the search for a slot answers the lowest free one. -/
theorem findIdx?_isNone_eq_some_iff :
    t.slots.findIdx? Option.isNone = some i
      ↔ t.slots[i]? = some none ∧ ∀ j < i, t.slots[j]? ≠ some none := by
  rw [List.findIdx?_eq_some_iff_getElem]
  constructor
  · rintro ⟨hi, hfree, hlow⟩
    refine ⟨by simpa [List.getElem?_eq_getElem hi] using hfree, fun j hj => ?_⟩
    simpa [List.getElem?_eq_getElem (hj.trans hi)] using hlow j hj
  · rintro ⟨hfree, hlow⟩
    obtain ⟨hi, hfree⟩ := List.getElem?_eq_some_iff.mp hfree
    refine ⟨hi, by simp [hfree], fun j hj => ?_⟩
    simpa [List.getElem?_eq_getElem (hj.trans hi)] using hlow j hj

/-- R200: the record counts on, to 255 at most. -/
theorem FaultRecord.again_eq (now : Stamp) (r : FaultRecord) :
    r.again now
      = { r with count := if r.count < 255 then r.count + 1 else 255, last := now, unread := true } := by
  have hcount : min 255 (r.count + 1) = if r.count < 255 then r.count + 1 else 255 := by
    split <;> omega
  rw [FaultRecord.again, hcount]

/-- R200: a record of the same kind and source takes the fault. -/
theorem record_of_held (now : Stamp) (epoch : Nat)
    (hr : ∃ r, some r ∈ t.slots ∧ r.kind = k ∧ r.source = x) :
    t.record k x now epoch
      = { t with slots := t.slots.map fun y => if holds k x y then y.map (FaultRecord.again now) else y } := by
  have hany := any_holds_iff.mpr hr
  rcases record_cases t k x now epoch with ⟨-, he⟩ | ⟨hno, -⟩ | ⟨hno, -⟩
  · exact he
  · simp [hno] at hany
  · simp [hno] at hany

/-- R201: a new kind and source takes the lowest free slot. -/
theorem record_of_free (now : Stamp) (epoch : Nat)
    (hnew : ∀ r, some r ∈ t.slots → ¬(r.kind = k ∧ r.source = x))
    (hfree : t.slots[i]? = some none) (hlow : ∀ j < i, t.slots[j]? ≠ some none) :
    t.record k x now epoch = { t with slots := t.slots.set i (some ⟨k, x, 1, now, now, epoch, true⟩) } := by
  have hidx := findIdx?_isNone_eq_some_iff.mpr ⟨hfree, hlow⟩
  rcases record_cases t k x now epoch with ⟨hany, -⟩ | ⟨-, j, hj, he⟩ | ⟨-, hnone, -⟩
  · obtain ⟨r, hr, hs⟩ := any_holds_iff.mp hany
    exact absurd hs (hnew r hr)
  · obtain rfl : i = j := Option.some.inj (hidx.symm.trans hj)
    exact he
  · simp [hidx] at hnone

/-- R201: a new kind and source that finds all slots taken sets the overflow flag. -/
theorem record_of_full (now : Stamp) (epoch : Nat)
    (hfull : ∀ y ∈ t.slots, ∃ r, y = some r ∧ ¬(r.kind = k ∧ r.source = x)) :
    t.record k x now epoch = { t with overflow := true } := by
  rcases record_cases t k x now epoch with ⟨hany, -⟩ | ⟨-, j, hj, -⟩ | ⟨-, -, he⟩
  · obtain ⟨r, hr, hs⟩ := any_holds_iff.mp hany
    obtain ⟨_, ⟨⟩, hns⟩ := hfull _ hr
    exact absurd hs hns
  · have hfree := (findIdx?_isNone_eq_some_iff.mp hj).1
    obtain ⟨r, hr, -⟩ := hfull _ (List.mem_of_getElem? hfree)
    cases hr
  · exact he

/-- R199: no fault adds a slot or takes one away. -/
theorem length_record_slots (t : FaultTable) (k : FaultKind) (x : FaultSource) (now : Stamp) (epoch : Nat) :
    (t.record k x now epoch).slots.length = t.slots.length := by
  rcases record_cases t k x now epoch with ⟨-, he⟩ | ⟨-, j, -, he⟩ | ⟨-, -, he⟩
  · simp [he]
  · simp [he]
  · simp [he]

/-- R200: the record of the fault's kind and source counts on where it stands. -/
theorem getElem?_record_of_same (now : Stamp) (epoch : Nat) (hr : t.slots[i]? = some (some r))
    (hs : r.kind = k ∧ r.source = x) :
    (t.record k x now epoch).slots[i]? = some (some (r.again now)) := by
  rw [record_of_held now epoch ⟨r, List.mem_of_getElem? hr, hs⟩]
  simp [hr, hs]

/-- R200, R201: a record of another kind or source stays, whichever way the fault goes. -/
theorem getElem?_record_of_other (now : Stamp) (epoch : Nat) (hr : t.slots[i]? = some (some r))
    (hs : ¬(r.kind = k ∧ r.source = x)) :
    (t.record k x now epoch).slots[i]? = some (some r) := by
  rcases record_cases t k x now epoch with ⟨-, he⟩ | ⟨-, j, hj, he⟩ | ⟨-, -, he⟩
  · simp [he, hr, hs]
  · have hfree := (findIdx?_isNone_eq_some_iff.mp hj).1
    have hji : j ≠ i := by
      rintro rfl
      simp [hr] at hfree
    rw [he, List.getElem?_set_ne hji, hr]
  · rw [he, hr]

/-- R200: where a record takes the fault, a free slot stays free. -/
theorem getElem?_record_of_held_of_free (now : Stamp) (epoch : Nat)
    (hr : ∃ r, some r ∈ t.slots ∧ r.kind = k ∧ r.source = x) (hi : t.slots[i]? = some none) :
    (t.record k x now epoch).slots[i]? = some none := by
  rw [record_of_held now epoch hr]
  simp [hi]

end Slots

/-- R200: a fault that reaches the table changes the table alone. -/
theorem recordFault_setFaults (k : FaultKind) (x : FaultSource) (s : State) :
    (recordFault k x s).setFaults s.faults = s := rfl

theorem recordFault_faults (k : FaultKind) (x : FaultSource) (s : State) :
    (recordFault k x s).faults = s.faults.record k x s.timers.timebase s.consist.epoch := rfl

/-- Settles O58, slot by slot: the ways of `record_cases`, told apart by the record or the free slot at `i`. -/
theorem faultsRecorded : Obligations.FaultsRecorded := by
  refine ⟨fun k x i s => ?_, fun k x s hfull => congrArg s.setFaults (record_of_full _ _ hfull)⟩
  dsimp only
  rw [recordFault_faults]
  refine ⟨recordFault_setFaults k x s, fun r hr hs => ⟨?_, ?_⟩, fun r hr hs => ?_, fun hheld hi => ⟨?_, ?_⟩,
    length_record_slots .., fun hnew hfree hlow => ?_⟩
  · rw [record_of_held _ _ ⟨r, List.mem_of_getElem? hr, hs⟩]
  · rw [getElem?_record_of_same _ _ hr hs, FaultRecord.again_eq]
  · exact getElem?_record_of_other _ _ hr hs
  · rw [record_of_held _ _ hheld]
  · exact getElem?_record_of_held_of_free _ _ hheld hi
  · rw [record_of_free _ _ hnew hfree hlow]
    exact ⟨rfl, rfl⟩

end Sys2Proof.Machine
end

section
/-! What a command is made of: the acts that the shared operations come to, each with the condition on which the node does
it, and the runs of acts. Every invariant of Safety.lean is shown of the acts alone (one case each), and every operation of
the model is shown once to be a run of acts; a command adds the few larger changes that no act covers. -/

namespace Sys2Proof.Machine

open Sys2Proof

/-- R129, R141, R157, R181: where a stopped timer may be started. T15 starts with a drain alone. -/
def State.mayRun (s : State) : TimerId → Prop
  | .t2 | .t3 | .t4 => s.isMaster = true
  | .t5 | .t6 | .t9 => s.isMaster = false
  | .t7 | .t8 | .t11 | .t12 => s.stableMaster = true
  | .t10 d => (s.side d).state = .closing
  | .t15 => False
  | .t0 _ | .t1 _ | .t13 | .t14 => True

/-- R88, R191: a drain is over: T15 stops and the reference is gone. -/
def drainClosed (s : State) : State :=
  let s1 := stopTimer .t15 (s.setRelay { s.relay with draining := false })
  s1.setMgmt { s1.mgmt with commit := none }

/-- A change of the door unit's record beside its sides: the interlock is not raised, and a walk becomes outstanding at a
STABLE master alone (R141, R148). -/
structure DoorMove (s : State) (y : DoorUnit) : Prop where
  sides : y.sides = s.door.sides
  closed : y.doorsClosed = true → s.door.doorsClosed = true
  out : y.outstanding = none ∨ y.outstanding = s.door.outstanding ∨ s.stableMaster = true

/-- R156: the bounds of the applied stage that stand apart from the effective demand. -/
abbrev State.HeatCapped (s : State) : Prop :=
  (s.heat.fallback = true → s.heat.applied ≤ s.heat.fallbackStage) ∧ (s.heat.lockedOut = true → s.heat.applied = 0)

/-- A change of the heat unit's record that leaves its settings and does not raise the applied stage (R156, R157, R168). -/
structure HeatMove (s : State) (y : HeatUnit) : Prop where
  profile : y.profile = s.heat.profile
  written : y.writtenDemand = s.heat.writtenDemand
  cap : y.doorCap = s.heat.doorCap
  stage : y.fallbackStage = s.heat.fallbackStage
  limit : y.supplyLimit = s.heat.supplyLimit
  applied : y.applied ≤ s.heat.applied
  out : y.outstanding = none ∨ y.outstanding = s.heat.outstanding ∨ s.stableMaster = true
  settled : s.settled = true
    ∨ (s.heat.fallback = true → y.fallback = true) ∧ (s.heat.walkRecord = none → y.walkRecord = none)
  safe : s.HeatSafe → (s.setHeat y).HeatSafe
  capped : s.HeatCapped → (s.setHeat y).HeatCapped

/-- A change of the consist unit's record that leaves the coach descriptor: each of the conditions on the consist that held
still holds (R41, R42, R63, R126, R148, R168, R181). -/
structure ConsistMove (s : State) (y : ConsistUnit) : Prop where
  coachClass : y.coachClass = s.consist.coachClass
  doors : y.doors = s.consist.doors
  role : y.role = .master → s.isMaster = true ∨ s.mayLead = true
  legal : s.StateOfRole → (s.setConsist y).StateOfRole
  outside : s.OutsideSafe → (s.setConsist y).OutsideSafe
  released : s.DoorsSafe → (s.setConsist y).DoorsSafe
  fallback : s.FallbackSafe → (s.setConsist y).FallbackSafe
  interlock : s.InterlockSafe → (s.setConsist y).InterlockSafe
  walks : s.WalkTimersSafe → (s.setConsist y).WalkTimersSafe
  timers : s.StateOfRole → s.WalkTimersSafe → s.TimersSafe → (s.setConsist y).TimersSafe

/-- One act of the node, with the condition on which it is done. -/
inductive Act : State → State → Prop
  | fault (k : FaultKind) (x : FaultSource) (s : State) : Act s (recordFault k x s)
  | queue (p : Port) (l : Level) (q : Queued) (s : State) (hu : s.isUp p = true) (hr : s.hasRoom p l = true) :
    Act s (appendQueue p l q s)
  | shrink (x : PerPort Queues) (s : State)
    (h : ∀ p l, ((x.get p).get l).length ≤ ((s.queues p).get l).length) :
    Act s (s.setRelay { s.relay with queues := x })
  | tap (f : Frame) (s : State) (h : s.relay.tapQueue.length < tapLimit f) :
    Act s (s.setTapQueue (s.relay.tapQueue ++ [f]))
  | tapServe (s : State) (hn : s.bypass.node ≠ .starting) :
    Act s (s.setRelay { s.relay with report := some s.tapReport, select := .serving (!s.relay.tapQueue.isEmpty) })
  | tapEnd (done : Bool) (s : State) : Act s (endExchange done s)
  | tapRefuse (s : State) : Act s (s.setRelay { s.relay with select := .unserved })
  | tapUnserved (s : State) : Act s (s.setRelay { s.relay with select := .idle })
  | tapClear (s : State) : Act s (s.setRelay { s.relay with tapQueue := [], select := s.relay.select.emptied })
  | intake (x : IntakeResult) (s : State) : Act s (setIntake x s)
  | groups (s : State) : Act s (clearConsistGroups s)
  | banks (s : State) : Act s (commitBanks s)
  | drain (tag : Nat) (s : State) : Act s (beginDrain tag s)
  | drained (s : State) : Act s (drainClosed s)
  | restartMark (x : RestartState) (s : State) : Act s (s.setMgmt { s.mgmt with restart := x })
  | clear (i : Nat) (s : State) : Act s (s.setFaults (clearTable i s.faults))
  | read (i c : Nat) (s : State) : Act s (markRead i c s)
  | collect (s : State) : Act s (collectReport s)
  | quiet (s : State) : Act s (withdrawLines s)
  | holdoff (b : Bool) (s : State) : Act s (s.setBypass { s.bypass with holdoff := b })
  | port (p : Port) (x : PortState) (s : State) (h : (x.link == .up) = s.isUp p) : Act s (s.setPort p x)
  | leave (p : Port) (x : PortState) (s : State) (h : x.link ≠ .up) : Act s ((s.setPort p x).setQueues p Queues.empty)
  | stop (t : TimerId) (s : State) : Act s (stopTimer t s)
  | again (t : TimerId) (s : State) (h : s.Runs t) : Act s (startTimer t s)
  | start (t : TimerId) (s : State) (h : s.mayRun t) : Act s (startTimer t s)
  | advance (s : State) : Act s (advanceTimers s)
  | halt (s : State) : Act s (s.setTimers { s.timers with counts := Counts.stopped })
  | side (d : Side) (x : DoorState) (s : State) (hs : (s.side d).state ≠ .closed) (hx : x ≠ .released)
    (ht : x = .closing ∨ s.count (.t10 d) = none) : Act s (setDoorState d x s)
  | release (d : Side) (s : State) (hi : s.inhibited d = false)
    (hc : s.consist.state ≠ .uninaugurated ∧ s.consist.state ≠ .blocked) :
    Act s (heatRefresh (stopTimer (.t10 d) (setDoorState d .released s)))
  | held (d : Side) (s : State) : Act s (s.setSide d { s.side d with held := true })
  | door (y : DoorUnit) (s : State) (h : DoorMove s y) : Act s (s.setDoor y)
  | heat (y : HeatUnit) (s : State) (h : HeatMove s y) : Act s (s.setHeat y)
  | consist (y : ConsistUnit) (s : State) (h : ConsistMove s y) : Act s (s.setConsist y)

/-- A run of acts and of the larger changes `X`. -/
inductive Steps (X : State → State → Prop) : State → State → Prop
  | refl (s : State) : Steps X s s
  | act {s t u : State} (h : Steps X s t) (a : Act t u) : Steps X s u
  | large {s t u : State} (h : Steps X s t) (x : X t u) : Steps X s u

/-- No larger change. -/
def NoLarge : State → State → Prop := fun _ _ => False

/-- A run keeps what each act and each larger change keeps. -/
theorem Steps.keeps {X : State → State → Prop} {P : State → Prop} (ha : ∀ t u, Act t u → P t → P u)
    (hx : ∀ t u, X t u → P t → P u) {s t : State} (h : Steps X s t) (hs : P s) : P t := by
  induction h with
  | refl => exact hs
  | act _ a ih => exact ha _ _ a ih
  | large _ x ih => exact hx _ _ x ih

/-- A run of acts alone keeps what each act keeps. -/
theorem Steps.keeps_of_acts {P : State → Prop} (ha : ∀ t u, Act t u → P t → P u) {s t : State}
    (h : Steps NoLarge s t) (hs : P s) : P t := h.keeps ha (fun _ _ => False.elim) hs

theorem Steps.trans {X : State → State → Prop} {s t u : State} (h : Steps X s t) (k : Steps X t u) : Steps X s u := by
  induction k with
  | refl => exact h
  | act _ a ih => exact ih.act a
  | large _ x ih => exact ih.large x

/-- A run is a run among more larger changes. -/
theorem Steps.mono {X Y : State → State → Prop} (hxy : ∀ t u, X t u → Steps Y t u) {s t : State} (h : Steps X s t) :
    Steps Y s t := by
  induction h with
  | refl => exact .refl _
  | act _ a ih => exact ih.act a
  | large _ x ih => exact ih.trans (hxy _ _ x)

section Runs

variable {X : State → State → Prop} {s t : State}

/-! ### Timers, faults and queues -/

theorem steps_ite {c : Prop} [Decidable c] {a b : State} (ha : c → Steps X s a) (hb : ¬c → Steps X s b) :
    Steps X s (if c then a else b) := by
  split_ifs with h
  · exact ha h
  · exact hb h

theorem steps_fault (k : FaultKind) (x : FaultSource) (h : Steps X s t) : Steps X s (recordFault k x t) :=
  h.act (.fault ..)

theorem steps_stop (u : TimerId) (h : Steps X s t) : Steps X s (stopTimer u t) := h.act (.stop ..)

theorem steps_stopTimers (l : List TimerId) (h : Steps X s t) : Steps X s (stopTimers l t) := by
  unfold stopTimers
  induction l generalizing t with
  | nil => exact h
  | cons u l ih => exact ih (steps_stop u h)

theorem steps_start {u : TimerId} (hm : t.mayRun u) (h : Steps X s t) : Steps X s (startTimer u t) :=
  h.act (.start _ _ hm)

/-- R179: a count that has run out is running, so a periodic timer may start again. -/
theorem steps_takeExpiry {u : TimerId} (hr : t.ranOut u = true) (h : Steps X s t) : Steps X s (takeExpiry u t) := by
  have hrun : t.Runs u := by
    have h0 : t.count u = some 0 := by
      simp only [State.ranOut, Bool.and_eq_true, beq_iff_eq] at hr
      exact hr.2
    rw [State.Runs, h0]
    rfl
  unfold takeExpiry
  split
  · exact h.act (.again _ _ hrun)
  · exact steps_stop u h

theorem steps_enqueue (p : Port) (l : Level) (q : Queued) (h : Steps X s t) : Steps X s (enqueue p l q t) := by
  rcases enqueue_cases p l q t with ⟨-, he⟩ | ⟨hu, hr, he⟩ | ⟨-, -, he⟩ <;> rw [he]
  · exact h
  · exact h.act (.queue p l q t hu hr)
  · exact steps_fault _ _ h

theorem steps_sendFrame (p : Port) (f : Frame) (h : Steps X s t) : Steps X s (sendFrame p f t) :=
  steps_enqueue _ _ _ h

theorem steps_sendCopies (l : List Port) (v : Level) (q : Queued) (h : Steps X s t) :
    Steps X s (sendCopies l v q t) := by
  unfold sendCopies
  induction l generalizing t with
  | nil => exact h
  | cons p l ih => exact ih (steps_enqueue p v q h)

theorem steps_sendTopo (l : List Port) (f : Frame) (h : Steps X s t) : Steps X s (sendTopo l f t) := by
  unfold sendTopo
  induction l generalizing t with
  | nil => exact h
  | cons p l ih => exact ih (steps_sendFrame p f h)

theorem steps_deliver (f : Frame) (h : Steps X s t) : Steps X s (deliver f t) := by
  rcases deliver_cases f t with ⟨hl, he⟩ | ⟨-, he⟩ <;> rw [he]
  · exact h.act (.tap f t hl)
  · exact steps_fault _ _ h

/-! ### Answers, drain, flush and BREAK -/

theorem steps_place (a : Access) (tag : Nat) (x : RspBody) (h : Steps X s t) : Steps X s (place a tag x t) := by
  cases a
  · exact steps_deliver _ h
  · exact steps_sendFrame _ _ h

theorem drainDone_eq (n : Nat) (s : State) : drainDone n s = match s.mgmt.commit with
    | some r => if (drainClosed s).consist.position = 0 then drainClosed s
      else answerTrain r.position r.request (commitResponse n) (drainClosed s)
    | none => drainClosed s := rfl

theorem steps_drainDone (n : Nat) (h : Steps X s t) : Steps X s (drainDone n t) := by
  have hd := h.act (.drained t)
  rw [drainDone_eq]
  repeat' split
  · exact hd
  · exact steps_sendFrame _ _ hd
  · exact hd

theorem steps_drainCheck (h : Steps X s t) : Steps X s (drainCheck t) := by
  unfold drainCheck
  split
  · exact steps_drainDone 0 h
  · exact h

theorem steps_restartCheck (l : List Queued) (h : Steps X s t) : Steps X s (restartCheck l t) := by
  unfold restartCheck
  split
  · exact h.act (.restartMark _ _)
  · exact h

theorem steps_afterRemoval (l : List Queued) (h : Steps X s t) : Steps X s (afterRemoval l t) :=
  steps_drainCheck (steps_restartCheck l h)

/-- A port's record changes, but not whether the port is UP. -/
theorem steps_port (p : Port) (x : PortState) (hl : (x.link == .up) = t.isUp p) (h : Steps X s t) :
    Steps X s (t.setPort p x) := h.act (.port p x t hl)

theorem steps_setRx (p : Port) (x : RxCondition) (h : Steps X s t) : Steps X s (setRx p x t) :=
  steps_port p _ rfl h

theorem steps_startT1 (p : Port) (h : Steps X s t) : Steps X s (startTimer (.t1 p) t) := steps_start trivial h

theorem steps_keepAlive (p : Port) (h : Steps X s t) : Steps X s (keepAlive p t) := by
  unfold keepAlive
  split
  · exact h
  · exact steps_startT1 p h

theorem steps_keepAliveInFrame (p : Port) (h : Steps X s t) : Steps X s (keepAliveInFrame p t) := by
  rcases keepAliveInFrame_cases p t with he | ⟨-, he⟩ <;> rw [he]
  · exact h
  · exact steps_keepAlive p h

theorem steps_keepAliveByBits (p : Port) (h : Steps X s t) : Steps X s (keepAliveByBits p t) := by
  rcases keepAliveByBits_cases p t with ⟨-, he⟩ | he <;> rw [he]
  · exact h
  · exact steps_keepAlive p h

theorem steps_cutTransmission (p : Port) (h : Steps X s t) : Steps X s (cutTransmission p t) := by
  unfold cutTransmission
  split
  · exact steps_startT1 p (steps_port p _ rfl h)
  · exact h

/-- R17, R18: the queues of both ports are empty, and a frame being sent runs on. -/
def flushedPorts (s : State) : State :=
  let s1 := s.setRelay { s.relay with queues := ⟨Queues.empty, Queues.empty⟩ }
  let s2 := s1.setPort .e1 { s1.port .e1 with tx := (s1.port .e1).tx.flushed }
  s2.setPort .e2 { s2.port .e2 with tx := (s2.port .e2).tx.flushed }

theorem flush_eq (s : State) : flush s =
    let s1 := restartCheck ((s.queues .e1).frames ++ (s.queues .e2).frames) (flushedPorts s)
    if s1.relay.draining then drainDone 0 s1 else s1 := rfl

theorem steps_flush (h : Steps X s t) : Steps X s (flush t) := by
  have he : ∀ p l, ((PerPort.get ⟨Queues.empty, Queues.empty⟩ p).get l).length ≤ ((t.queues p).get l).length := by
    intro p l
    cases p <;> cases l <;> exact Nat.zero_le _
  have hr : ∀ l, Steps X s (restartCheck l (flushedPorts t)) := by
    intro l
    refine steps_restartCheck l (steps_port .e2 _ ?_ (steps_port .e1 _ ?_ (h.act (.shrink _ t he)))) <;> rfl
  rw [flush_eq]
  dsimp only
  split
  · exact steps_drainDone 0 (hr _)
  · exact hr _

theorem steps_beginBreak (p : Port) (h : Steps X s t) : Steps X s (beginBreak p t) := by
  refine (steps_port p _ ?_ (steps_cutTransmission p (steps_keepAliveInFrame p h))).act (.holdoff true _)
  rfl

theorem steps_beginBreaks (l : List Port) (h : Steps X s t) :
    Steps X s (l.foldl (fun s p => beginBreak p s) t) := by
  induction l generalizing t with
  | nil => exact h
  | cons p l ih => exact ih (steps_beginBreak p h)

theorem steps_sendBreaks (l : List Port) (h : Steps X s t) : Steps X s (sendBreaks l t) := by
  unfold sendBreaks
  split
  · exact h
  · exact steps_flush (steps_beginBreaks _ h)

end Runs

end Sys2Proof.Machine
end

section
/-! The runs of acts that the heat unit's, the door unit's and the consist unit's shared operations come to. -/

namespace Sys2Proof.Machine

open Sys2Proof

/-! ### Heat unit -/

/-- R156, R170: a new applied stage changes T14 alone beside it. -/
theorem setApplied_cases (n : Nat) (s : State) :
    let u := s.setHeat { s.heat with applied := n }
    setApplied n s = u ∨ setApplied n s = startTimer .t14 u ∨ setApplied n s = stopTimer .t14 u := by
  dsimp only [setApplied, judgeFeedback]
  split
  · exact .inl rfl
  · split
    · split
      · exact .inl rfl
      · exact .inr (.inl rfl)
    · exact .inr (.inr rfl)

/-- R155: what the effective demand is made out from. -/
theorem effectiveDemand_congr {s t : State} (hl : t.lines = s.lines) (hd : t.consist.doors = s.consist.doors)
    (hs : ∀ d, (t.side d).state = (s.side d).state ∧ (t.side d).proof = (s.side d).proof)
    (hk : t.heat.lockedOut = s.heat.lockedOut) (hw : t.heat.writtenDemand = s.heat.writtenDemand)
    (hc : t.heat.doorCap = s.heat.doorCap) : t.effectiveDemand = s.effectiveDemand := by
  have hb : t.bothClosed = s.bothClosed := by
    simp only [State.bothClosed, State.countsClosed, hd, (hs _).1, (hs _).2]
  have hp : ∀ f, t.present f = s.present f := fun f => by simp only [State.present, hl]
  have ha : ∀ f, t.asserted f = s.asserted f := fun f => by simp only [State.asserted, hl]
  have hm : t.demand = s.demand := by simp only [State.demand, State.lineDemand, hp, ha, hw]
  simp only [State.effectiveDemand, hb, hm, hk, hc]

theorem effectiveDemand_of_lockedOut {s : State} (h : s.heat.lockedOut = true) : s.effectiveDemand = 0 := by
  simp [State.effectiveDemand, h]

@[simp] theorem effectiveDemand_applied (n : Nat) (s : State) :
    (s.setHeat { s.heat with applied := n }).effectiveDemand = s.effectiveDemand := rfl

/-- R156: a lower stage keeps the bounds of the applied stage. -/
theorem heatCapped_lower {n : Nat} {s : State} (hf : n ≤ s.heat.applied) (h : s.HeatCapped) :
    (s.setHeat { s.heat with applied := n }).HeatCapped :=
  ⟨fun hb => hf.trans (h.1 hb), fun hb => Nat.le_zero.mp (hf.trans (h.2 hb).le)⟩

theorem heatSafe_lower {n : Nat} {s : State} (hf : n ≤ s.heat.applied) (h : s.HeatSafe) :
    (s.setHeat { s.heat with applied := n }).HeatSafe :=
  ⟨hf.trans h.1, heatCapped_lower hf h.2⟩

section Runs

variable {X : State → State → Prop} {s t : State}

theorem steps_heat {y : HeatUnit} (hm : HeatMove t y) (h : Steps X s t) : Steps X s (t.setHeat y) := h.act (.heat y t hm)

theorem steps_judgeFeedback (h : Steps X s t) : Steps X s (judgeFeedback t) := by
  unfold judgeFeedback
  repeat' split
  · exact h
  · exact steps_start trivial h
  · exact steps_stop _ h

theorem steps_setApplied {n : Nat} (hm : HeatMove t { t.heat with applied := n }) (h : Steps X s t) :
    Steps X s (setApplied n t) := by
  rcases setApplied_cases n t with he | he | he <;> rw [he]
  · exact steps_heat hm h
  · exact steps_start trivial (steps_heat hm h)
  · exact steps_stop _ (steps_heat hm h)

/-- R156: the applied stage falls. -/
theorem heatMove_lower {n : Nat} (hf : n ≤ t.heat.applied) :
    HeatMove t { t.heat with applied := n } where
  profile := rfl
  written := rfl
  cap := rfl
  stage := rfl
  limit := rfl
  applied := hf
  out := .inr (.inl rfl)
  settled := .inr ⟨id, id⟩
  safe := heatSafe_lower hf
  capped := heatCapped_lower hf

theorem steps_heatRefresh (h : Steps X s t) : Steps X s (heatRefresh t) := by
  unfold heatRefresh
  split
  · exact steps_setApplied (heatMove_lower (Nat.le_of_lt ‹_›)) h
  · exact h

/-- R168: fallback is entered at a stage no higher than the ceiling. -/
theorem steps_enterFallback (h : Steps X s t) : Steps X s (enterFallback t) := by
  unfold enterFallback
  split
  · exact h
  · have hceil : t.fallbackCeiling ≤ t.effectiveDemand ∧ t.fallbackCeiling ≤ t.heat.fallbackStage
        ∧ t.fallbackCeiling ≤ t.heat.applied := by
      unfold State.fallbackCeiling; omega
    have hm : HeatMove (stopTimer .t13 t) { t.heat with fallback := true, applied := t.fallbackCeiling } :=
      { profile := rfl, written := rfl, cap := rfl, stage := rfl, limit := rfl, applied := hceil.2.2
        out := .inr (.inl rfl), settled := .inr ⟨fun _ => rfl, id⟩
        safe := fun hs => ⟨hceil.1, fun _ => hceil.2.1, fun hl => Nat.le_zero.mp (hceil.2.2.trans (hs.2.2 hl).le)⟩
        capped := fun hs => ⟨fun _ => hceil.2.1, fun hl => Nat.le_zero.mp (hceil.2.2.trans (hs.2 hl).le)⟩ }
    have hu := steps_heat hm (steps_stop .t13 h)
    rcases setApplied_cases t.fallbackCeiling
      (stopTimer .t13 (t.setHeat { t.heat with fallback := true })) with he | he | he
    · exact he ▸ hu
    · exact he ▸ steps_start trivial hu
    · exact he ▸ steps_stop _ hu

/-- R166: the walk record is dropped. -/
theorem heatMove_dropRecord : HeatMove t { t.heat with walkRecord := none } where
  profile := rfl
  written := rfl
  cap := rfl
  stage := rfl
  limit := rfl
  applied := le_rfl
  out := .inr (.inl rfl)
  settled := .inr ⟨id, fun _ => rfl⟩
  safe := id
  capped := id

theorem steps_heatUnsettled (h : Steps X s t) : Steps X s (heatUnsettled t) :=
  steps_enterFallback (steps_heat heatMove_dropRecord h)

theorem steps_lockOut (h : Steps X s t) : Steps X s (lockOut t) := by
  have hm : HeatMove t { t.heat with lockedOut := true, applied := 0 } :=
    { profile := rfl, written := rfl, cap := rfl, stage := rfl, limit := rfl, applied := Nat.zero_le _
      out := .inr (.inl rfl), settled := .inr ⟨id, id⟩
      safe := fun _ => ⟨Nat.zero_le _, fun _ => Nat.zero_le _, fun _ => rfl⟩
      capped := fun _ => ⟨fun _ => Nat.zero_le _, fun _ => rfl⟩ }
  have hu := steps_heat hm h
  unfold lockOut
  refine steps_stop _ ?_
  rcases setApplied_cases 0 (t.setHeat { t.heat with lockedOut := true }) with he | he | he
  · exact he ▸ hu
  · exact he ▸ steps_start trivial hu
  · exact he ▸ steps_stop _ hu

/-! ### Door unit -/

theorem steps_enterClosed (d : Side) (hs : (t.side d).state ≠ .closed) (h : Steps X s t) :
    Steps X s (enterClosed d t) :=
  (steps_stop (.t10 d) h).act (.side d .closed (stopTimer (.t10 d) t) hs (by decide) (.inr (by simp [stopTimer])))

theorem steps_enterClosing (d : Side) (hs : (t.side d).state ≠ .closed) (h : Steps X s t) :
    Steps X s (enterClosing d t) :=
  steps_start (by simp [State.mayRun, setDoorState]) (h.act (.side d .closing t hs (by decide) (.inl rfl)))

theorem steps_closeSide (d : Side) (hs : (t.side d).state ≠ .closed) (h : Steps X s t) :
    Steps X s (closeSide d t) := by
  unfold closeSide
  apply steps_heatRefresh
  split
  · exact steps_enterClosed d hs h
  · exact steps_enterClosing d hs h

theorem steps_closeReleased (d : Side) (h : Steps X s t) : Steps X s (closeReleased d t) := by
  unfold closeReleased
  split
  · rename_i hr
    exact steps_closeSide d (by simp [hr]) h
  · exact h

theorem steps_localClose (h : Steps X s t) : Steps X s (localClose t) :=
  steps_closeReleased .b (steps_closeReleased .a h)

theorem steps_applyRelease (d : Side) (hc : t.consist.state ≠ .uninaugurated ∧ t.consist.state ≠ .blocked)
    (h : Steps X s t) : Steps X s (applyRelease d t) := by
  unfold applyRelease
  split
  · exact h
  · rename_i hi
    have hi : t.inhibited d = false := by simpa using fun hb => hi (.inl hb)
    split
    · exact h.act (.release d t hi hc)
    · exact h.act (.release d t hi hc)
    · exact h
    · exact h

theorem steps_applyReleases (l : List Side) (hc : t.consist.state ≠ .uninaugurated ∧ t.consist.state ≠ .blocked)
    (h : Steps X s t) : Steps X s (applyReleases l t) := by
  unfold applyReleases
  induction l generalizing t with
  | nil => exact h
  | cons d l ih => exact ih (by simpa using hc) (steps_applyRelease d hc h)

theorem steps_applyClose (d : Side) (h : Steps X s t) : Steps X s (applyClose d t) := by
  unfold applyClose
  split
  · rename_i hr
    exact steps_closeSide d (by simp [hr]) h
  · rename_i hr
    exact steps_closeSide d (by simp [hr]) h
  · exact h
  · exact h

theorem steps_applyCloses (l : List Side) (h : Steps X s t) : Steps X s (applyCloses l t) := by
  unfold applyCloses
  induction l generalizing t with
  | nil => exact h
  | cons d l ih => exact ih (steps_applyClose d h)

theorem steps_door {y : DoorUnit} (hm : DoorMove t y) (h : Steps X s t) : Steps X s (t.setDoor y) :=
  h.act (.door y t hm)

theorem steps_dropInterlock (h : Steps X s t) : Steps X s (dropInterlock t) :=
  steps_door ⟨rfl, Bool.noConfusion, .inr (.inl rfl)⟩ h

theorem steps_raiseAlert (d : Side) (h : Steps X s t) : Steps X s (raiseAlert d t) := by
  have h2 := (steps_fault .doorAlertRaised (.side d) h).act (.held d _)
  unfold raiseAlert
  dsimp only
  repeat' split
  · exact steps_deliver _ (steps_dropInterlock h2)
  · exact h2
  · exact steps_sendFrame _ _ h2

/-! ### Consist unit -/

theorem steps_consist {y : ConsistUnit} (hm : ConsistMove t y) (h : Steps X s t) : Steps X s (t.setConsist y) :=
  h.act (.consist y t hm)

/-- A change of the consist record that leaves role, consist state, coach descriptor and, in UNINAUGURATED and BLOCKED, the
cleared consist. -/
theorem consistMove_of_same {y : ConsistUnit} (hr : y.role = t.consist.role) (hx : y.state = t.consist.state)
    (hc : y.coachClass = t.consist.coachClass) (hd : y.doors = t.consist.doors)
    (ho : (t.consist.state = .uninaugurated ∨ t.consist.state = .blocked) → t.ConsistCleared →
      (t.setConsist y).ConsistCleared) : ConsistMove t y where
  coachClass := hc
  doors := hd
  role := fun hm => .inl (by simpa [State.isMaster, hr] using hm)
  legal := by simp [State.StateOfRole, hr, hx]
  outside := fun h hs => ho (by simpa [hx] using hs) (h (by simpa [hx] using hs))
  released := by simp [State.DoorsSafe, State.SideSafe, State.inhibited, hx]
  fallback := by simp [State.FallbackSafe, State.settled, hx]
  interlock := by simp [State.InterlockSafe, State.stableMaster, State.isMaster, hr, hx]
  walks := by simp [State.WalkTimersSafe, State.stableMaster, State.isMaster, hr, hx]
  timers := fun _ _ => by simp [State.TimersSafe, State.isMaster, hr]

end Runs

end Sys2Proof.Machine
end

section
/-! The runs of acts that a change of role and consist state comes to. The other blocks' part of the change (R131, R141,
R157, R166, R168) does not look at role and consist state, so that it may be taken before the change itself, on which the
conditions of Safety.lean then hold. -/

namespace Sys2Proof.Machine

open Sys2Proof

/-! ### Role and consist state are not looked at -/

section Consist

variable {y : ConsistUnit} {s : State}

theorem judgeFeedback_setConsist : judgeFeedback (s.setConsist y) = (judgeFeedback s).setConsist y := by
  simp only [judgeFeedback, apply_ite (State.setConsist · y)]
  rfl

theorem setApplied_setConsist (n : Nat) : setApplied n (s.setConsist y) = (setApplied n s).setConsist y := by
  have hj := judgeFeedback_setConsist (y := y) (s := s.setHeat { s.heat with applied := n })
  simp only [setApplied, apply_ite (State.setConsist · y), ← hj]
  rfl

variable (hd : y.doors = s.consist.doors)

include hd

theorem effectiveDemand_setConsist : (s.setConsist y).effectiveDemand = s.effectiveDemand :=
  effectiveDemand_congr rfl hd (fun _ => ⟨rfl, rfl⟩) rfl rfl rfl

theorem heatRefresh_setConsist : heatRefresh (s.setConsist y) = (heatRefresh s).setConsist y := by
  simp only [heatRefresh, apply_ite (State.setConsist · y), ← setApplied_setConsist, effectiveDemand_setConsist hd]
  rfl

theorem closeReleased_setConsist (d : Side) : closeReleased d (s.setConsist y) = (closeReleased d s).setConsist y := by
  have hc : closeSide d (s.setConsist y) = (closeSide d s).setConsist y := by
    have hn : y.doors = (if (s.side d).proof = .proved then enterClosed d s else enterClosing d s).consist.doors := by
      split <;> simpa using hd
    rw [closeSide, closeSide, ← heatRefresh_setConsist hn]
    simp only [apply_ite (State.setConsist · y)]
    rfl
  simp only [closeReleased, apply_ite (State.setConsist · y), ← hc]
  rfl

theorem localClose_setConsist : localClose (s.setConsist y) = (localClose s).setConsist y := by
  unfold localClose
  rw [closeReleased_setConsist hd, closeReleased_setConsist (by simpa using hd)]

theorem enterFallback_setConsist : enterFallback (s.setConsist y) = (enterFallback s).setConsist y := by
  unfold enterFallback
  have hc : (s.setConsist y).fallbackCeiling = s.fallbackCeiling := by
    simp only [State.fallbackCeiling, effectiveDemand_setConsist hd, State.setConsist_heat]
  simp only [apply_ite (State.setConsist · y), ← setApplied_setConsist, hc]
  rfl

theorem heatUnsettled_setConsist : heatUnsettled (s.setConsist y) = (heatUnsettled s).setConsist y :=
  enterFallback_setConsist (s := s.setHeat { s.heat with walkRecord := none }) hd

end Consist

/-- R131, R141, R157, R166, R168: what the other blocks do at a change of role and consist state. -/
def madeReady (r : Role) (x : ConsistState) (s : State) : State :=
  let s1 := if s.stableMaster ∧ ¬(r = .master ∧ x = .stable) then abandonWalks s else s
  let s2 := if x.closesDoors then localClose s1 else s1
  if x.settled then s2 else heatUnsettled s2

theorem enterState_eq (r : Role) (x : ConsistState) (s : State) :
    enterState r x s = (madeReady r x s).setConsist { s.consist with role := r, state := x } := by
  unfold enterState madeReady
  dsimp only
  generalize hs1 : (if s.stableMaster = true ∧ ¬(r = .master ∧ x = .stable) then abandonWalks s else s) = s1
  have hc : s1.consist = s.consist := by rw [← hs1]; split <;> simp
  rw [hc]
  cases x.closesDoors <;> cases x.settled <;> simp only [Bool.false_eq_true, if_true, if_false]
  · exact heatUnsettled_setConsist (by rw [hc])
  · rw [localClose_setConsist (by rw [hc]), heatUnsettled_setConsist (by simp [hc])]
  · exact localClose_setConsist (by rw [hc])

/-! ### What the other blocks' part leaves -/

@[simp] theorem heatRefresh_side (d : Side) (s : State) : (heatRefresh s).side d = s.side d := by
  simp only [State.side, heatRefresh_door]

theorem closeSide_side (d : Side) (s : State) :
    ((closeSide d s).side d).state = if (s.side d).proof = .proved then .closed else .closing := by
  unfold closeSide
  rw [heatRefresh_side]
  split <;> simp [enterClosed, enterClosing, setDoorState, startTimer, stopTimer]

theorem closeSide_side_ne {d e : Side} (h : e ≠ d) (s : State) : (closeSide d s).side e = s.side e := by
  unfold closeSide
  rw [heatRefresh_side]
  split <;> simp [enterClosed, enterClosing, setDoorState, startTimer, stopTimer, State.side_setSide_ne _ h]

/-- R130, R131: no RELEASED side stays so. -/
theorem closeReleased_side (d : Side) (s : State) : ((closeReleased d s).side d).state ≠ .released := by
  unfold closeReleased
  split
  · rw [closeSide_side]
    split <;> decide
  · assumption

theorem closeReleased_side_ne {d e : Side} (h : e ≠ d) (s : State) : (closeReleased d s).side e = s.side e := by
  unfold closeReleased
  split
  · exact closeSide_side_ne h s
  · rfl

theorem localClose_side (d : Side) (s : State) : ((localClose s).side d).state ≠ .released := by
  unfold localClose
  cases d with
  | a => rw [closeReleased_side_ne (by decide)]; exact closeReleased_side .a s
  | b => exact closeReleased_side .b _

@[simp] theorem heatUnsettled_side (d : Side) (s : State) : (heatUnsettled s).side d = s.side d := by
  simp only [State.side, heatUnsettled_door]

theorem setApplied_heat (n : Nat) (s : State) : (setApplied n s).heat = { s.heat with applied := n } := by
  rcases setApplied_cases n s with h | h | h <;> simp [h]

/-- R168: in fallback. -/
theorem enterFallback_fallback (s : State) : (enterFallback s).heat.fallback = true := by
  unfold enterFallback
  split
  · assumption
  · simp [setApplied_heat]

theorem enterFallback_walkRecord (s : State) : (enterFallback s).heat.walkRecord = s.heat.walkRecord := by
  unfold enterFallback
  split
  · rfl
  · simp [setApplied_heat]

/-- R166, R168: in fallback, and without a walk record. -/
theorem heatUnsettled_heat (s : State) :
    (heatUnsettled s).heat.fallback = true ∧ (heatUnsettled s).heat.walkRecord = none :=
  ⟨enterFallback_fallback _, by rw [heatUnsettled, enterFallback_walkRecord]; rfl⟩

theorem enterFallback_outstanding (s : State) : (enterFallback s).heat.outstanding = s.heat.outstanding := by
  unfold enterFallback
  split
  · rfl
  · simp [setApplied_heat]

theorem heatRefresh_outstanding (s : State) : (heatRefresh s).heat.outstanding = s.heat.outstanding := by
  unfold heatRefresh
  split
  · simp [setApplied_heat]
  · rfl

theorem closeReleased_outstanding (d : Side) (s : State) :
    (closeReleased d s).heat.outstanding = s.heat.outstanding := by
  unfold closeReleased closeSide
  repeat' split
  · simp [heatRefresh_outstanding]
  · simp [heatRefresh_outstanding]
  · rfl

/-! ### Which timers are touched -/

section Counts

variable {u : TimerId}

theorem count_startTimer_ne {v : TimerId} (h : u ≠ v) (s : State) : (startTimer v s).count u = s.count u :=
  State.count_setCount_ne s h _

theorem count_stopTimer_ne {v : TimerId} (h : u ≠ v) (s : State) : (stopTimer v s).count u = s.count u :=
  State.count_setCount_ne s h _

@[simp] theorem count_startTimer (v : TimerId) (s : State) : (startTimer v s).count v = some (s.period v) := by
  simp [startTimer]

@[simp] theorem count_stopTimer (v : TimerId) (s : State) : (stopTimer v s).count v = none := by
  simp [stopTimer]

theorem count_stopTimers_not_mem {l : List TimerId} (h : u ∉ l) (s : State) : (stopTimers l s).count u = s.count u := by
  unfold stopTimers
  induction l generalizing s with
  | nil => rfl
  | cons v l ih =>
    obtain ⟨hv, hl⟩ : u ≠ v ∧ u ∉ l := by simpa using h
    rw [List.foldl_cons, ih hl, count_stopTimer_ne hv]

theorem count_stopTimers_mem {l : List TimerId} (h : u ∈ l) (s : State) : (stopTimers l s).count u = none := by
  unfold stopTimers
  induction l generalizing s with
  | nil => cases h
  | cons v l ih =>
    rw [List.foldl_cons]
    by_cases hl : u ∈ l
    · exact ih hl _
    · obtain rfl : u = v := (List.mem_cons.mp h).resolve_right hl
      exact (count_stopTimers_not_mem hl (stopTimer u s)).trans (count_stopTimer u s)

theorem count_judgeFeedback (h : u ≠ .t14) (s : State) : (judgeFeedback s).count u = s.count u := by
  unfold judgeFeedback
  split_ifs
  · rfl
  · exact count_startTimer_ne h s
  · exact count_stopTimer_ne h s

theorem count_setApplied (h : u ≠ .t14) (n : Nat) (s : State) : (setApplied n s).count u = s.count u := by
  unfold setApplied
  dsimp only
  split_ifs
  · rfl
  · exact count_judgeFeedback h _

theorem count_heatRefresh (h : u ≠ .t14) (s : State) : (heatRefresh s).count u = s.count u := by
  unfold heatRefresh
  split_ifs
  · exact count_setApplied h _ s
  · rfl

theorem count_heatUnsettled (h : u ≠ .t13 ∧ u ≠ .t14) (s : State) : (heatUnsettled s).count u = s.count u := by
  unfold heatUnsettled enterFallback
  split_ifs
  · rfl
  · rw [count_setApplied h.2, count_stopTimer_ne h.1]
    rfl

theorem count_closeReleased (d : Side) (h : u ≠ .t10 d ∧ u ≠ .t14) (s : State) :
    (closeReleased d s).count u = s.count u := by
  unfold closeReleased closeSide
  split_ifs
  · rw [count_heatRefresh h.2, enterClosed, count_stopTimer_ne h.1]
    rfl
  · rw [count_heatRefresh h.2, enterClosing, count_startTimer_ne h.1]
    rfl
  · rfl

theorem count_localClose (h : (∀ d, u ≠ .t10 d) ∧ u ≠ .t14) (s : State) : (localClose s).count u = s.count u := by
  rw [localClose, count_closeReleased _ ⟨h.1 _, h.2⟩, count_closeReleased _ ⟨h.1 _, h.2⟩]

/-- The other blocks' part of a change of consist state touches no timer of the consist unit. -/
theorem count_madeReady (hu : u ∈ consistTimers) (r : Role) (x : ConsistState) (s : State) :
    (madeReady r x s).count u = s.count u := by
  have hne : (∀ d, u ≠ .t10 d) ∧ u ≠ .t13 ∧ u ≠ .t14 ∧ u ∉ [TimerId.t7, .t8, .t11, .t12] := by
    simp only [consistTimers, List.mem_cons, List.not_mem_nil, or_false] at hu
    rcases hu with rfl | rfl | rfl | rfl | rfl | rfl <;> simp
  obtain ⟨h10, h13, h14, hw⟩ := hne
  have ha : (abandonWalks s).count u = s.count u := count_stopTimers_not_mem hw s
  unfold madeReady
  dsimp only
  split_ifs <;> simp only [count_heatUnsettled ⟨h13, h14⟩, count_localClose ⟨h10, h14⟩, ha]

end Counts

/-- R141, R148, R157: the walks are at rest and TRAIN_DOORS_CLOSED is inactive. -/
structure AtRest (s : State) : Prop where
  closed : s.door.doorsClosed = false
  summary : s.door.outstanding = none
  heat : s.heat.outstanding = none
  counts : s.count .t7 = none ∧ s.count .t8 = none ∧ s.count .t11 = none ∧ s.count .t12 = none

theorem abandonWalks_atRest (s : State) : AtRest (abandonWalks s) where
  closed := rfl
  summary := rfl
  heat := rfl
  counts := ⟨rfl, rfl, rfl, rfl⟩

theorem AtRest.closeReleased {s : State} (h : AtRest s) (d : Side) : AtRest (closeReleased d s) := by
  have hd : (Machine.closeReleased d s).door = { s.door with sides := (Machine.closeReleased d s).door.sides } := by
    unfold Machine.closeReleased closeSide
    split_ifs <;> simp [enterClosed, enterClosing, setDoorState]
  refine ⟨by rw [hd]; exact h.closed, by rw [hd]; exact h.summary, by rw [closeReleased_outstanding]; exact h.heat, ?_⟩
  obtain ⟨h7, h8, h11, h12⟩ := h.counts
  refine ⟨?_, ?_, ?_, ?_⟩ <;> rw [count_closeReleased _ (by simp)] <;> assumption

theorem AtRest.heatUnsettled {s : State} (h : AtRest s) : AtRest (heatUnsettled s) := by
  refine ⟨by simpa using h.closed, by simpa using h.summary, ?_, ?_⟩
  · rw [Machine.heatUnsettled, enterFallback_outstanding]
    exact h.heat
  · obtain ⟨h7, h8, h11, h12⟩ := h.counts
    refine ⟨?_, ?_, ?_, ?_⟩ <;> rw [count_heatUnsettled (by decide)] <;> assumption

/-- R141, R157: at a master's exit from STABLE its walks come to rest. -/
theorem madeReady_atRest {r : Role} {x : ConsistState} {s : State} (h : s.stableMaster = true)
    (hx : ¬(r = .master ∧ x = .stable)) : AtRest (madeReady r x s) := by
  unfold madeReady
  simp only [h, hx, not_false_eq_true, and_self, if_true]
  have ha := abandonWalks_atRest s
  split_ifs
  · exact (ha.closeReleased .a).closeReleased .b
  · exact ha
  · exact ((ha.closeReleased .a).closeReleased .b).heatUnsettled
  · exact ha.heatUnsettled

@[simp] theorem madeReady_consist (r : Role) (x : ConsistState) (s : State) : (madeReady r x s).consist = s.consist := by
  unfold madeReady
  split_ifs <;> simp

/-- R131: no side stays RELEASED at UNINAUGURATED and BLOCKED. -/
theorem madeReady_side {x : ConsistState} (hx : x.closesDoors = true) (r : Role) (d : Side) (s : State) :
    ((madeReady r x s).side d).state ≠ .released := by
  unfold madeReady
  simp only [hx, if_true]
  split
  · exact localClose_side d _
  · rw [heatUnsettled_side]
    exact localClose_side d _

/-- R166, R168: outside STABLE and SUSPECT the node is in fallback without a walk record. -/
theorem madeReady_heat {x : ConsistState} (hx : x.settled = false) (r : Role) (s : State) :
    (madeReady r x s).heat.fallback = true ∧ (madeReady r x s).heat.walkRecord = none := by
  unfold madeReady
  simp only [hx, Bool.false_eq_true, if_false]
  exact heatUnsettled_heat _

end Sys2Proof.Machine
end

section
/-! The runs of acts of the consist unit: changes of role and consist state, triggers and port reports. -/

namespace Sys2Proof.Machine

open Sys2Proof

/-- R41: the consist states a role has. -/
def Role.has : Role → ConsistState → Bool
  | .member, .settling | .member, .calling | .member, .confirming => false
  | .master, .uninaugurated | .master, .inaugurating | .master, .suspect => false
  | _, _ => true

theorem stateOfRole_iff (s : State) : s.StateOfRole ↔ s.consist.role.has s.consist.state = true := by
  unfold State.StateOfRole
  cases s.consist.role <;> cases s.consist.state <;> simp [Role.has]

/-- R46, R69, R181: the timers of the role that a change of role leaves are at rest. -/
def State.roleLeft (s : State) (r : Role) : Prop :=
  (s.isMaster = true → r = .member → s.count .t2 = none ∧ s.count .t3 = none ∧ s.count .t4 = none)
  ∧ (s.isMaster = false → r = .master → s.count .t5 = none ∧ s.count .t6 = none ∧ s.count .t9 = none)

theorem isMaster_iff (s : State) : s.isMaster = true ↔ s.consist.role = .master := by simp [State.isMaster]

theorem isMaster_eq_false_iff (s : State) : s.isMaster = false ↔ s.consist.role = .member := by
  cases h : s.consist.role <;> simp [State.isMaster, h]

/-- A node whose role stays has no timers to leave. -/
theorem roleLeft_same (s : State) : s.roleLeft s.consist.role :=
  ⟨fun h k => by simp [State.isMaster, k] at h, fun h k => by simp [State.isMaster, k] at h⟩

theorem closesDoors_iff (x : ConsistState) : x.closesDoors = true ↔ x = .uninaugurated ∨ x = .blocked := by
  cases x <;> simp [ConsistState.closesDoors]

/-- R42: whether a node may lead is made out from its lines and its ports. -/
theorem mayLead_congr {s t : State} (hl : t.lines = s.lines) (hp : t.ports = s.ports) : t.mayLead = s.mayLead := by
  have hc : t.cab = s.cab := by simp only [State.cab, State.asserted, hl]
  have hu : t.upPorts = s.upPorts := by simp only [State.upPorts, State.isUp, State.port, hp]
  simp only [State.mayLead, hc, hu]

/-- The conditions on the consist at the change itself, when the other blocks have done their part. -/
theorem consistMove_madeReady {r : Role} {x : ConsistState} {s : State}
    (hr : r = .master → s.isMaster = true ∨ s.mayLead = true) (hl : r.has x = true)
    (ho : x.closesDoors = true → s.ConsistCleared) (ht : s.roleLeft r) :
    ConsistMove (madeReady r x s) { s.consist with role := r, state := x } := by
  have hc := madeReady_consist r x s
  have hm : (madeReady r x s).isMaster = s.isMaster := by simp only [State.isMaster, hc]
  have hsm : (madeReady r x s).stableMaster = s.stableMaster := by simp only [State.stableMaster, hm, hc]
  have hrest : ¬(r = .master ∧ x = .stable) → s.stableMaster = true → AtRest (madeReady r x s) :=
    fun hx h => madeReady_atRest h hx
  exact {
    coachClass := by rw [hc]
    doors := by rw [hc]
    role := fun h => by
      have h1 := enterState_lines r x s
      have h2 := enterState_ports r x s
      rw [enterState_eq] at h1 h2
      rw [hm, mayLead_congr (t := madeReady r x s) h1 h2]
      exact hr h
    legal := fun _ => by rw [stateOfRole_iff]; exact hl
    outside := fun _ hx => ho ((closesDoors_iff x).mpr hx)
    released := fun hs => by
      have hside : ∀ d, (madeReady r x s).SideSafe d →
          ((madeReady r x s).setConsist { s.consist with role := r, state := x }).SideSafe d := by
        intro d h hrel
        by_cases hx : x.closesDoors = true
        · exact absurd hrel (madeReady_side hx r d s)
        · rw [closesDoors_iff, not_or] at hx
          exact ⟨(h hrel).1, hx⟩
      exact ⟨hside .a hs.1, hside .b hs.2⟩
    fallback := fun _ => by
      cases hx : x.settled with
      | true =>
        left
        cases x <;> first | rfl | cases hx
      | false => exact .inr (madeReady_heat hx r s)
    interlock := fun h => by
      by_cases hx : r = .master ∧ x = .stable
      · left
        simp [State.stableMaster, State.isMaster, hx]
      · right
        cases hs : s.stableMaster with
        | true =>
          have hq := hrest hx hs
          exact ⟨hq.closed, hq.summary, hq.heat⟩
        | false => exact h.resolve_left (by simp [hsm, hs])
    walks := fun h => by
      by_cases hx : r = .master ∧ x = .stable
      · left
        simp [State.stableMaster, State.isMaster, hx]
      · right
        cases hs : s.stableMaster with
        | true => exact (hrest hx hs).counts
        | false => exact h.resolve_left (by simp [hsm, hs])
    timers := fun _ hw h => by
      have hcount : ∀ u ∈ consistTimers, (madeReady r x s).count u = s.count u := fun u hu => count_madeReady hu r x s
      have h2 := hcount .t2 (by decide)
      have h3 := hcount .t3 (by decide)
      have h4 := hcount .t4 (by decide)
      have h5 := hcount .t5 (by decide)
      have h6 := hcount .t6 (by decide)
      have h9 := hcount .t9 (by decide)
      refine ⟨fun hf => ?_, fun hf => ?_⟩
      · have hr : r = .member := (isMaster_eq_false_iff _).mp hf
        cases hs : s.isMaster with
        | false => exact h.1 (hm.trans hs)
        | true =>
          obtain ⟨k2, k3, k4⟩ := ht.1 hs hr
          have hx : ¬(r = .master ∧ x = .stable) := by simp [hr]
          obtain ⟨k7, k8, k11, k12⟩ : (madeReady r x s).count .t7 = none ∧ (madeReady r x s).count .t8 = none
              ∧ (madeReady r x s).count .t11 = none ∧ (madeReady r x s).count .t12 = none := by
            cases hst : s.stableMaster with
            | true => exact (hrest hx hst).counts
            | false => exact hw.resolve_left (by simp [hsm, hst])
          exact ⟨h2.trans k2, h3.trans k3, h4.trans k4, k7, k8, k11, k12⟩
      · have hr : r = .master := (isMaster_iff _).mp hf
        cases hs : s.isMaster with
        | true => exact h.2 (hm.trans hs)
        | false =>
          obtain ⟨k5, k6, k9⟩ := ht.2 hs hr
          exact ⟨h5.trans k5, h6.trans k6, h9.trans k9⟩ }

section Runs

variable {X : State → State → Prop} {s t : State}

theorem steps_abandonWalks (h : Steps X s t) : Steps X s (abandonWalks t) := by
  unfold abandonWalks
  refine steps_heat ?_ (steps_door ?_ (steps_stopTimers _ h))
  · exact { profile := rfl, written := rfl, cap := rfl, stage := rfl, limit := rfl, applied := le_rfl, out := .inl rfl
            settled := .inr ⟨id, id⟩, safe := id, capped := id }
  · exact ⟨rfl, Bool.noConfusion, .inl rfl⟩

theorem steps_madeReady (r : Role) (x : ConsistState) (h : Steps X s t) : Steps X s (madeReady r x t) := by
  unfold madeReady
  dsimp only
  have h1 : Steps X s (if t.stableMaster ∧ ¬(r = .master ∧ x = .stable) then abandonWalks t else t) :=
    steps_ite (fun _ => steps_abandonWalks h) fun _ => h
  have h2 := steps_ite (c := x.closesDoors = true) (fun _ => steps_localClose h1) fun _ => h1
  exact steps_ite (fun _ => h2) fun _ => steps_heatUnsettled h2

/-- The node may change its role and consist state in this way. -/
structure State.mayEnter (s : State) (r : Role) (x : ConsistState) : Prop where
  role : r = .master → s.isMaster = true ∨ s.mayLead = true
  legal : r.has x = true
  cleared : x.closesDoors = true → s.ConsistCleared
  left : s.roleLeft r

theorem steps_enterState {r : Role} {x : ConsistState} (hm : t.mayEnter r x) (h : Steps X s t) :
    Steps X s (enterState r x t) := by
  rw [enterState_eq]
  exact steps_consist (consistMove_madeReady hm.role hm.legal hm.cleared hm.left) (steps_madeReady r x h)

@[simp] theorem enterState_consist (r : Role) (x : ConsistState) (s : State) :
    (enterState r x s).consist = { s.consist with role := r, state := x } := by
  rw [enterState_eq]
  rfl

/-- R63, R69: the consist is cleared. -/
theorem consistMove_clear : ConsistMove t { t.consist with
    epoch := 0, position := 0, orientation := .normal, table := [], joined := none, attempt := none } :=
  consistMove_of_same rfl rfl rfl rfl fun _ _ => ⟨rfl, rfl, rfl, rfl⟩

theorem steps_clearConsist (h : Steps X s t) : Steps X s (clearConsist t) := steps_consist consistMove_clear h

/-- A change of the records, the blocked reason and the report flag alone. -/
theorem steps_consistRecords {y : ConsistUnit} (h : Steps X s t)
    (hy : y = { t.consist with joined := y.joined, attempt := y.attempt, blocked := y.blocked
                               restartReport := y.restartReport }) : Steps X s (t.setConsist y) := by
  rw [hy]
  exact steps_consist (consistMove_of_same rfl rfl rfl rfl fun _ h => h) h

theorem count_of_stopTimers {u : TimerId} (hu : u ∈ consistTimers) (y : ConsistUnit) (s : State) :
    ((stopTimers consistTimers s).setConsist y).count u = none := count_stopTimers_mem hu s

theorem steps_enterUninaugurated (h : Steps X s t) : Steps X s (enterUninaugurated t) := by
  unfold enterUninaugurated
  refine steps_enterState ⟨fun h => (nomatch h), rfl, fun _ => ?_, ⟨fun _ _ => ?_, fun _ h => (nomatch h)⟩⟩ ?_
  · simp [State.ConsistCleared, clearConsist]
  · exact ⟨count_of_stopTimers (by decide) .., count_of_stopTimers (by decide) .., count_of_stopTimers (by decide) ..⟩
  · exact steps_consistRecords (steps_stopTimers _ (steps_clearConsist h)) rfl

theorem steps_enterBlocked (why : BlockedReason) (h : Steps X s t) : Steps X s (enterBlocked why t) := by
  unfold enterBlocked
  refine steps_enterState ⟨fun hr => .inl ?_, ?_, fun _ => ?_, ?_⟩ ?_
  · simpa [State.isMaster, clearConsist] using hr
  · cases t.consist.role <;> rfl
  · simp [State.ConsistCleared, clearConsist]
  · have hs := roleLeft_same ((stopTimers consistTimers (clearConsist t)).setConsist
      { (stopTimers consistTimers (clearConsist t)).consist with blocked := why })
    simpa [clearConsist] using hs
  · exact steps_consistRecords (steps_stopTimers _ (steps_clearConsist h)) rfl

/-- R44, R64, R65, R66: a node whose master's timers are at rest may become a SUSPECT member. -/
theorem steps_enterSuspect (hl : t.isMaster = true → t.count .t2 = none ∧ t.count .t3 = none ∧ t.count .t4 = none)
    (h : Steps X s t) : Steps X s (enterSuspect t) := by
  unfold enterSuspect
  have he := steps_enterState (r := .member) (x := .suspect)
    ⟨fun h => (nomatch h), rfl, fun h => (nomatch h), ⟨fun hm _ => hl hm, fun _ h => (nomatch h)⟩⟩ h
  exact steps_start (by simp [State.mayRun, State.isMaster]) (steps_stop .t9 he)

/-- R46: a master enters SETTLING. -/
theorem steps_enterSettling (hr : t.isMaster = true ∨ t.mayLead = true)
    (hl : t.isMaster = false → t.count .t5 = none ∧ t.count .t6 = none ∧ t.count .t9 = none) (h : Steps X s t) :
    Steps X s (enterSettling t) := by
  unfold enterSettling
  have he := steps_enterState (r := .master) (x := .settling)
    ⟨fun _ => hr, rfl, fun h => (nomatch h), ⟨fun _ h => (nomatch h), fun hm _ => hl hm⟩⟩ h
  exact steps_start (by simp [State.mayRun, State.isMaster]) he

theorem steps_abandonAttempt (u : TimerId) (h : Steps X s t) : Steps X s (abandonAttempt u t) :=
  steps_stop u (steps_consistRecords h rfl)

/-- R46: a trigger at a master. -/
theorem steps_trigger (hm : t.isMaster = true) (h : Steps X s t) : Steps X s (trigger t) := by
  have hf : ∀ {u : State}, u.isMaster = true → Steps X s u → Steps X s (enterSettling u) := fun hu hs =>
    steps_enterSettling (.inl hu) (by simp [hu]) hs
  unfold trigger
  split
  · exact steps_start hm h
  · exact hf hm (steps_abandonAttempt _ h)
  · exact hf hm (steps_abandonAttempt _ h)
  · exact hf hm (steps_consistRecords h rfl)
  · exact hf hm h

/-- R42: a member that may lead becomes MASTER. -/
theorem steps_becomeMaster (hl : t.mayLead = true) (h : Steps X s t) : Steps X s (becomeMaster t) := by
  refine steps_enterSettling (.inr ?_) (fun _ => ?_) (steps_consistRecords (steps_stopTimers _ h) rfl)
  · exact hl
  · exact ⟨rfl, rfl, rfl⟩

/-- R44: a master loses its role. -/
theorem steps_loseRole (h : Steps X s t) : Steps X s (loseRole t) := by
  unfold loseRole
  split
  · exact steps_enterSuspect (fun _ => ⟨rfl, rfl, rfl⟩) (steps_consistRecords (steps_stopTimers _ h) rfl)
  · exact steps_enterUninaugurated h

theorem steps_evaluateRole (h : Steps X s t) : Steps X s (evaluateRole t) := by
  unfold evaluateRole
  split_ifs with h1 h2 h3
  · exact h
  · exact steps_loseRole h
  · exact steps_becomeMaster h3 h
  · exact h

theorem steps_cabEdge (h : Steps X s t) : Steps X s (cabEdge t) := by
  unfold cabEdge
  split_ifs
  · exact steps_fault _ _ h
  · exact steps_evaluateRole h

theorem loseRole_role (s : State) : (loseRole s).consist.role = .member := by
  unfold loseRole
  split_ifs <;> simp [enterSuspect, enterUninaugurated]

theorem steps_clearRestartReport (e : TopoEvent) (h : Steps X s t) : Steps X s (clearRestartReport e t) := by
  unfold clearRestartReport
  split_ifs
  · exact steps_consistRecords h rfl
  · exact h

theorem clearRestartReport_role (e : TopoEvent) (s : State) :
    (clearRestartReport e s).consist.role = s.consist.role := by
  unfold clearRestartReport
  split_ifs <;> rfl

/-- R64, R70: a port report at a member. -/
theorem steps_memberReport (e : TopoEvent) (p : Port) (hm : t.isMaster = false) (h : Steps X s t) :
    Steps X s (memberReport e p t) := by
  have hc := steps_clearRestartReport e h
  have hm' : (clearRestartReport e t).isMaster = false := by
    rw [isMaster_eq_false_iff] at hm ⊢
    rw [clearRestartReport_role, hm]
  unfold memberReport
  dsimp only
  split_ifs
  · exact steps_sendTopo _ _ (steps_enterSuspect (by simp [hm']) hc)
  · exact steps_sendTopo _ _ hc

/-- R42, R44, R46, R64, R70: the consist unit takes a port event. -/
theorem steps_portReport (e : TopoEvent) (p : Port) (h : Steps X s t) : Steps X s (portReport e p t) := by
  unfold portReport
  split_ifs with hm h2 hl
  · exact steps_memberReport e p ((isMaster_eq_false_iff _).mpr (loseRole_role _)) (steps_loseRole (steps_fault _ _ h))
  · refine steps_trigger ?_ (steps_clearRestartReport e h)
    rw [isMaster_iff] at hm ⊢
    rw [clearRestartReport_role, hm]
  · refine steps_becomeMaster ?_ (steps_clearRestartReport e h)
    unfold clearRestartReport
    split_ifs <;> exact hl
  · exact steps_memberReport e p (by simpa using hm) h

theorem steps_breakTold (h : Steps X s t) : Steps X s (breakTold t) := by
  unfold breakTold
  split_ifs with hm hx
  · exact h
  · exact steps_enterSuspect (fun hf => absurd hf hm) h
  · exact h

end Runs

end Sys2Proof.Machine
end

section
/-! The runs of the segment controllers, the walks and the frames from the train. The larger changes are a port that becomes
UP, the interlock as a summary walk gives it, and the stage a return step gives. -/

namespace Sys2Proof.Machine

open Sys2Proof

section Runs

variable {X : State → State → Prop} {s t : State}

/-! ### Segment controllers -/

/-- A port that is not UP enters DOWN. -/
theorem steps_takeDown (p : Port) (hu : t.isUp p = false) (h : Steps X s t) : Steps X s (takeDown p t) :=
  steps_stop _ (steps_port p _ (by rw [hu]; rfl) h)

/-- R16, R85: an UP port enters another link state and its queues are emptied. -/
theorem steps_emptyQueues_left {p : Port} {u : State} {x : PortState} (hx : x.link ≠ .up)
    (hu : u.setQueues p Queues.empty = (t.setPort p x).setQueues p Queues.empty) (h : Steps X s t) :
    Steps X s (emptyQueues p u) := by
  unfold emptyQueues
  rw [hu]
  exact steps_afterRemoval _ (h.act (.leave p x t hx))

/-- R15: the frame being sent may be cut off before the link state changes. -/
theorem cutTransmission_setPort (p : Port) (l : LinkState) (s : State) :
    cutTransmission p (s.setPort p { s.port p with link := l })
      = (cutTransmission p s).setPort p { (cutTransmission p s).port p with link := l } := by
  have ht : ((s.setPort p { s.port p with link := l }).port p).tx = (s.port p).tx := by simp
  unfold cutTransmission
  rw [ht]
  split_ifs <;> cases p <;> rfl

theorem steps_enterFaulted (p : Port) (h : Steps X s t) : Steps X s (enterFaulted p t) := by
  have hc := steps_cutTransmission p (steps_fault .portFaulted (.port p) h)
  refine steps_portReport _ _ (steps_emptyQueues_left
    (x := { (cutTransmission p (recordFault .portFaulted (.port p) t)).port p with link := .faulted }) ?_ ?_ hc)
  · simp
  · rw [cutTransmission_setPort]

theorem steps_silenceUp (p : Port) (h : Steps X s t) : Steps X s (silenceUp p t) := by
  refine steps_portReport _ _ (steps_emptyQueues_left (t := stopTimer (.t1 p) t)
    (x := { t.port p with link := .down, arrival := 0, score := 0, rx := .betweenFrames, assembly := [], tx := .idle })
    ?_ ?_ (steps_stop _ h))
  · simp
  · rfl

theorem isUp_of_link {p : Port} {l : LinkState} (hl : (t.port p).link = l) : t.isUp p = (l == .up) := by
  rw [State.isUp, hl]

theorem steps_invalidItem (p : Port) (h : Steps X s t) : Steps X s (invalidItem p t) := by
  have hs : ∀ n, Steps X s (t.setPort p { t.port p with score := n }) := fun n => steps_port p _ rfl h
  unfold invalidItem
  dsimp only
  split
  · exact h
  · exact steps_port p _ rfl h
  · exact steps_ite (fun _ => steps_enterFaulted p (hs _)) fun _ => hs _
  · exact hs _

/-- R11 to R14: a valid item, that may bring a port UP. -/
theorem steps_validItem (p : Port)
    (hX : ∀ u : State, u.bypass.started = true → u.isUp p = false → X u (becomeUp p u))
    (hs : t.bypass.started = true) (h : Steps X s t) : Steps X s (validItem p t) := by
  unfold validItem
  dsimp only
  split
  · rename_i hl
    exact steps_startT1 p (steps_port p _ (by rw [isUp_of_link hl]; rfl) h)
  · rename_i hl
    have h1 := steps_port p { t.port p with arrival := min 4 ((t.port p).arrival + 1) } rfl h
    exact steps_ite (fun _ => h1.large (hX _ hs (by simp [State.isUp, hl]))) fun _ => h1
  · exact h
  · rename_i hl
    have h1 := steps_port p { t.port p with score := (t.port p).score - 1 } rfl h
    exact steps_ite (fun _ => h1.large (hX _ hs (by simp [State.isUp, hl]))) fun _ => h1

theorem steps_scoreFrame (p : Port) (h : Steps X s t) : Steps X s (scoreFrame p t) := steps_port p _ rfl h

theorem started_of_receives {p : Port} (h : t.receives p = true) : t.bypass.started = true := by
  simp only [State.receives, State.portsRun, Bool.and_eq_true] at h
  exact h.1.2

/-- R5: a frame arrives and may go to its owner. -/
theorem steps_frameArrives (p : Port) (f : Frame) {handle : State → State}
    (hX : ∀ u : State, u.bypass.started = true → u.isUp p = false → X u (becomeUp p u))
    (hh : ∀ u, Steps X s u → Steps X s (handle u)) (h : Steps X s t) : Steps X s (frameArrives p f handle t) := by
  unfold frameArrives
  refine steps_ite (fun hr => ?_) fun _ => h
  have h1 := steps_setRx p .betweenFrames (steps_keepAliveByBits p h)
  have hst : (setRx p .betweenFrames (keepAliveByBits p t)).bypass.started = true := by
    simp only [Bool.and_eq_true] at hr
    simpa using started_of_receives hr.1
  exact steps_ite (fun _ => steps_ite (fun _ => hh _ (steps_scoreFrame p h1)) fun _ => steps_validItem p hX hst h1)
    fun _ => steps_invalidItem p h1

theorem steps_symbolItem (p : Port) (c : WidthClass)
    (hX : ∀ u : State, u.bypass.started = true → u.isUp p = false → X u (becomeUp p u)) (h : Steps X s t) :
    Steps X s (symbolItem p c t) := by
  unfold symbolItem
  refine steps_ite (fun hr => ?_) fun _ => h
  split
  · exact steps_validItem p hX (by simpa using started_of_receives hr) (steps_keepAlive p h)
  · exact steps_invalidItem p (steps_setRx p _ (steps_keepAliveInFrame p h))
  · exact h

theorem steps_badReception (alive : State → State) (p : Port) (x : RxCondition) (why : FrameFailure)
    (ha : Steps X s (alive t)) (h : Steps X s t) : Steps X s (badReception alive p x why t) := by
  unfold badReception recordBadKind
  refine steps_ite (fun _ => steps_invalidItem p ?_) fun _ => h
  have h1 := steps_setRx p x ha
  exact steps_ite (fun _ => steps_fault _ _ h1) fun _ => h1

theorem steps_takeBreak (p : Port) (h : Steps X s t) : Steps X s (takeBreak p t) :=
  steps_breakTold (steps_flush (steps_beginBreaks _ (steps_startT1 p (steps_setRx p _ (steps_cutTransmission p h)))))

theorem steps_midFrame (p : Port) (r : Reception) (h : Steps X s t) : Steps X s (midFrame p r t) := by
  rcases midFrame_cases p r t with he | ⟨-, -, he⟩ | ⟨x, -, -, -, he⟩ <;> rw [he]
  · exact h
  · exact steps_keepAlive p h
  · refine steps_keepAlive p (steps_port p _ ?_ h)
    rfl

/-- R9, R89: the head of a queue is removed. -/
theorem steps_dropHead (p : Port) (l : Level) (h : Steps X s t) : Steps X s (dropHead p l t) := by
  refine h.act (.shrink (t.relay.queues.set p ((t.queues p).set l ((t.queues p).get l).tail)) t fun q m => ?_)
  cases p <;> cases q <;> cases l <;> cases m <;>
    simp [PerPort.get, PerPort.set, Queues.get, Queues.set, State.queues]

/-! ### Walks -/

theorem isMaster_of_stableMaster (hm : t.stableMaster = true) : t.isMaster = true := by
  simp only [State.stableMaster, Bool.and_eq_true] at hm
  exact hm.1

theorem settled_of_stableMaster (hm : t.stableMaster = true) : t.settled = true := by
  simp only [State.stableMaster, Bool.and_eq_true] at hm
  simp [State.settled, hm.2]

/-- R148: the interlock as a summary walk gives it, at a STABLE master. -/
abbrev Summaries (X : State → State → Prop) : Prop := ∀ (x : SumBody) (u : State), u.stableMaster = true →
  X u (u.setDoor { u.door with outstanding := none, doorsClosed := u.interlockAfter x })

/-- R163: the stage as a return step gives it. -/
abbrev Grants (X : State → State → Prop) : Prop := ∀ (n : Nat) (u : State), X u (setApplied (u.cappedGrant n) u)

theorem steps_takeSummary (f : Frame) (x : SumBody) (hX : Summaries X) (hm : t.stableMaster = true)
    (h : Steps X s t) : Steps X s (takeSummary f x t) := by
  unfold takeSummary
  have h1 := steps_deliver f (steps_stop .t8 (h.large (hX x t hm)))
  refine steps_ite (fun _ => steps_trigger ?_ h1) fun _ => h1
  simpa [State.isMaster] using isMaster_of_stableMaster hm

theorem steps_startSummaryWalk (hX : Summaries X) (hm : t.stableMaster = true) (h : Steps X s t) :
    Steps X s (startSummaryWalk t) := by
  have h2 : Steps X s (startTimer .t8 (numberSummaryWalk t)) :=
    steps_start hm (steps_door ⟨rfl, id, .inr (.inr hm)⟩ h)
  exact steps_ite (fun _ => steps_takeSummary _ _ hX hm h2) fun _ => steps_sendFrame _ _ h2

theorem steps_nextSummaryWalk (hX : Summaries X) (h : Steps X s t) : Steps X s (nextSummaryWalk t) := by
  unfold nextSummaryWalk
  refine steps_ite (fun hc => ?_) fun _ => h
  simp only [Bool.and_eq_true] at hc
  exact steps_startSummaryWalk hX hc.2 (steps_door ⟨rfl, id, .inr (.inl rfl)⟩ h)

/-- A change of the walk fields of the heat unit. -/
theorem heatMove_walk {y : HeatUnit}
    (hy : y = { t.heat with walk := y.walk, outstanding := y.outstanding, startPending := y.startPending })
    (ho : y.outstanding = none ∨ y.outstanding = t.heat.outstanding ∨ t.stableMaster = true) : HeatMove t y := by
  rw [hy]
  exact { profile := rfl, written := rfl, cap := rfl, stage := rfl, limit := rfl, applied := le_rfl, out := ho
          settled := .inr ⟨id, id⟩, safe := id, capped := id }

/-- R160: the outbound step of a node in STABLE or SUSPECT. -/
theorem steps_outboundStep (walk : Nat) (x : HeatBody) (hm : t.settled = true) (h : Steps X s t) :
    Steps X s (outboundStep walk x t) := by
  have h1 : Steps X s (if x.remaining = 0 then recordFault .heatCount .node t else t) :=
    steps_ite (fun _ => steps_fault _ _ h) fun _ => h
  have hm1 : (if x.remaining = 0 then recordFault .heatCount .node t else t).settled = true := by
    split_ifs <;> exact hm
  unfold outboundStep
  dsimp only
  generalize (if x.remaining = 0 then recordFault .heatCount .node t else t) = t1 at h1 hm1 ⊢
  have h2 : ∀ r, Steps X s (t1.setHeat { t1.heat with walkRecord := some r }) := fun r =>
    steps_heat { profile := rfl, written := rfl, cap := rfl, stage := rfl, limit := rfl, applied := le_rfl
                 out := .inr (.inl rfl), settled := .inl hm1, safe := id, capped := id } h1
  have h3 := steps_setApplied (heatMove_lower (Nat.min_le_left _ (t.firstGrant x.budget x.remaining)))
    (h2 ⟨walk, t.effectiveDemand, t.firstGrant x.budget x.remaining, t.wants (t.firstGrant x.budget x.remaining)⟩)
  refine steps_start trivial (steps_heat ?_ h3)
  exact { profile := rfl, written := rfl, cap := rfl, stage := rfl, limit := rfl, applied := le_rfl
          out := .inr (.inl rfl), settled := .inl (by simpa [State.settled] using hm1)
          safe := fun hs => ⟨hs.1, Bool.noConfusion, hs.2.2⟩
          capped := fun hs => ⟨Bool.noConfusion, hs.2⟩ }

theorem steps_returnStep (r : WalkRecord) (x : HeatBody) (hX : Grants X) (h : Steps X s t) :
    Steps X s (returnStep r x t) := by
  have h1 : Steps X s (if r.wanting ∧ x.wanting = 0 then recordFault .heatCount .node t else t) :=
    steps_ite (fun _ => steps_fault _ _ h) fun _ => h
  exact steps_heat heatMove_dropRecord (h1.large (hX _ _))

theorem steps_masterReturn (walk : Nat) (x : HeatBody) (hX : Grants X) (h : Steps X s t) :
    Steps X s (masterReturn walk x t).2 := by
  unfold masterReturn
  split
  · exact steps_returnStep _ _ hX h
  · exact h

theorem steps_takeHeat (hd : Header) (x : HeatBody) (hX : Grants X) (h : Steps X s t) :
    Steps X s (takeHeat hd x t) :=
  steps_deliver _ (steps_masterReturn _ _ hX (steps_stop _ (steps_heat (heatMove_walk rfl (.inl rfl)) h)))

theorem steps_startHeatWalk (hX : Grants X) (hm : t.stableMaster = true) (h : Steps X s t) :
    Steps X s (startHeatWalk t) := by
  have h1 : Steps X s (numberHeatWalk t) := steps_heat (heatMove_walk rfl (.inr (.inr hm))) h
  have h2 := steps_outboundStep (numberHeatWalk t).heat.walk (numberHeatWalk t).heatInitial
    (settled_of_stableMaster (t := numberHeatWalk t) hm) h1
  have h3 := steps_start (u := .t12) (show State.stableMaster _ = true by
    simpa [State.stableMaster, State.isMaster] using hm) h2
  exact steps_ite (fun _ => steps_takeHeat _ _ hX h3) fun _ => steps_sendFrame _ _ h3

theorem steps_nextHeatWalk (hX : Grants X) (h : Steps X s t) : Steps X s (nextHeatWalk t) := by
  unfold nextHeatWalk
  refine steps_ite (fun hc => ?_) fun _ => h
  simp only [Bool.and_eq_true] at hc
  exact steps_startHeatWalk hX hc.2 (steps_heat (heatMove_walk rfl (.inr (.inl rfl))) h)

theorem steps_startWalks (hS : Summaries X) (hG : Grants X) (hm : t.stableMaster = true) (h : Steps X s t) :
    Steps X s (startWalks t) := by
  have h1 := steps_startSummaryWalk hS (t := startTimer .t7 t) hm (steps_start hm h)
  exact steps_ite (fun hc => steps_startHeatWalk hG hc (steps_start hc h1)) fun _ => h1

/-- R48, R61: a master that is not in UNINAUGURATED or BLOCKED installs a consist. -/
theorem steps_installMaster (epoch : Nat) (o : Orientation) (l : List Entry) (hS : Summaries X) (hG : Grants X)
    (hm : t.isMaster = true) (hx : t.consist.state ≠ .uninaugurated ∧ t.consist.state ≠ .blocked) (h : Steps X s t) :
    Steps X s (installMaster epoch o l t) := by
  unfold installMaster
  have h1 : Steps X s (t.setConsist { t.consist with
      table := l, epoch := epoch, position := 1, orientation := o, attempt := none }) :=
    steps_consist (consistMove_of_same rfl rfl rfl rfl fun ho => absurd ho (by simp [hx])) h
  refine steps_startWalks hS hG ?_ (steps_enterState ?_ (h1.act (.groups _)))
  · simp [State.stableMaster, State.isMaster]
  · exact ⟨fun _ => .inl hm, rfl, fun hf => (nomatch hf), fun _ hf => (nomatch hf), fun hf => by
      have : t.isMaster = false := hf
      simp [hm] at this⟩

end Runs

end Sys2Proof.Machine
end

section
/-! The runs of the frames from the train, of the expiries and of the tap's exchanges. -/

namespace Sys2Proof.Machine

open Sys2Proof

section Runs

variable {X : State → State → Prop} {s t : State}

/-! ### Consist unit -/

/-- R47, R62: an attempt begins at a master. -/
theorem steps_startAttempt (epoch n : Nat) (hm : t.isMaster = true) (h : Steps X s t) :
    Steps X s (startAttempt epoch n t) := by
  unfold startAttempt
  dsimp only
  have h1 : Steps X s (t.setConsist { t.consist with
      attempt := some ⟨epoch, n, t.attemptOrientation, [], t.masterEntry t.attemptOrientation⟩ }) :=
    steps_consistRecords h rfl
  have h3 := steps_sendFrame (rearwardOf t.attemptOrientation) (t.callFrame epoch n t.attemptOrientation)
    (steps_sendBreaks [rearwardOf t.attemptOrientation] h1)
  have hm3 := hm
  rw [isMaster_iff] at hm3
  refine steps_enterState ⟨fun _ => .inl ?_, rfl, fun hf => (nomatch hf), fun _ hf => (nomatch hf), fun hf => ?_⟩
    (steps_start ?_ h3)
  · simp [isMaster_iff, hm3]
  · rw [isMaster_eq_false_iff] at hf
    simp [hm3] at hf
  · simp [State.mayRun, isMaster_iff, hm3]

theorem steps_attemptTimeout (hm : t.isMaster = true) (h : Steps X s t) : Steps X s (attemptTimeout t) := by
  unfold attemptTimeout
  split
  · exact steps_ite (fun _ => steps_startAttempt _ _ hm h) fun _ => steps_enterBlocked _ (steps_fault _ _ h)
  · exact h

theorem steps_settle (hS : Summaries X) (hG : Grants X) (hm : t.isMaster = true) (hx : t.consist.state = .settling)
    (h : Steps X s t) : Steps X s (settle t) :=
  steps_ite (fun _ => steps_installMaster _ _ _ hS hG hm (by simp [hx]) h) fun _ => steps_startAttempt _ _ hm h

/-- R50: a member joins an attempt. -/
theorem steps_joinAttempt (j : Joined) (hm : t.isMaster = false) (h : Steps X s t) : Steps X s (joinAttempt j t) := by
  unfold joinAttempt
  have h1 := steps_enterState (r := .member) (x := .inaugurating)
    ⟨fun hf => (nomatch hf), rfl, fun hf => (nomatch hf), fun hf => ?_, fun _ hf => (nomatch hf)⟩
    (steps_stopTimers [.t6, .t9] (steps_consistRecords (y := { t.consist with joined := some j, blocked := .none }) h rfl))
  · exact steps_start (by simp [State.mayRun, State.isMaster]) h1
  · have hf' : t.isMaster = true := hf
    simp [hm] at hf'

theorem steps_takeRollCall (p : Port) (hd : Header) (x : RollBody) (h : Steps X s t) :
    Steps X s (takeRollCall p hd x t) := by
  unfold takeRollCall
  refine steps_ite (fun _ => ?_) fun hm => ?_
  · exact steps_ite (fun _ => steps_fault _ _ h) fun _ => steps_ite (fun _ => steps_sendFrame _ _ h) fun _ =>
      steps_sendFrame _ _ h
  · have hj := steps_joinAttempt (joinedBy p hd x) (by simpa using hm) h
    exact steps_ite (fun _ => steps_ite (fun _ => steps_sendFrame _ _ hj) fun _ => steps_sendFrame _ _ hj) fun _ =>
      steps_sendFrame _ _ h

/-- R54, R55: a master in CALLING takes the returned list. -/
theorem steps_acceptBack (a : Attempt) (x : RollBody) (hm : t.isMaster = true) (h : Steps X s t) :
    Steps X s (acceptBack a x t) := by
  have hm1 := hm
  rw [isMaster_iff] at hm1
  have h1 : Steps X s (stopTimer .t3 (t.setConsist { t.consist with attempt := some { a with returned := x.entries } })) :=
    steps_stop _ (steps_consistRecords h rfl)
  unfold acceptBack
  refine steps_ite (fun _ => ?_) fun _ => steps_enterBlocked _ (steps_sendFrame _ _ h1)
  refine steps_start (by simp [State.mayRun, State.isMaster]) (steps_enterState ?_ (steps_sendFrame _ _ h1))
  refine ⟨fun _ => .inl ?_, rfl, fun hf => (nomatch hf), fun _ hf => (nomatch hf), fun hf => ?_⟩
  · simp [isMaster_iff, hm1]
  · rw [isMaster_eq_false_iff] at hf
    simp [hm1] at hf

theorem steps_takeRollBack (p : Port) (hd : Header) (x : RollBody) (h : Steps X s t) :
    Steps X s (takeRollBack p hd x t) := by
  unfold takeRollBack
  refine steps_ite (fun hm => ?_) fun _ => ?_ <;> split
  · exact steps_ite (fun _ => steps_acceptBack _ _ hm h) fun _ => steps_fault _ _ h
  · exact steps_fault _ _ h
  · exact steps_ite (fun _ => steps_sendFrame _ _ h) fun _ => steps_fault _ _ h
  · exact steps_fault _ _ h

/-- R56: at a member the change to STABLE is the change of the consist record alone. -/
theorem enterState_member_stable {u : State} (hm : u.isMaster = false) :
    enterState .member .stable u = u.setConsist { u.consist with role := .member, state := .stable } := by
  have hs : u.stableMaster = false := by simp [State.stableMaster, hm]
  simp [enterState, hs, ConsistState.closesDoors, ConsistState.settled]

/-- R56: a member installs the consist. -/
theorem steps_installMember (j : Joined) (l : List Entry) (hm : t.isMaster = false) (h : Steps X s t) :
    Steps X s (installMember j l t) := by
  have hr := (isMaster_eq_false_iff _).mp hm
  unfold installMember
  dsimp only
  rw [enterState_member_stable (by exact hm)]
  have h1 : Steps X s (startTimer .t9 (stopTimer .t5 t)) := steps_start (by exact hm) (steps_stop .t5 h)
  have hm1 : (startTimer .t9 (stopTimer .t5 t)).isMaster = false := hm
  have hsm : (startTimer .t9 (stopTimer .t5 t)).stableMaster = false := by simp [State.stableMaster, hm1]
  refine Steps.act (steps_consist (t := startTimer .t9 (stopTimer .t5 t)) (y := { t.consist with
    table := l, epoch := j.epoch, position := j.position, orientation := j.orientation, joined := none
    blocked := .none, role := .member, state := .stable }) ?_ h1) (.groups _)
  exact {
    coachClass := rfl
    doors := rfl
    role := fun hf => (nomatch hf)
    legal := fun _ => trivial
    outside := fun _ hf => by simp at hf
    released := fun hd => ⟨fun hs => ⟨(hd.1 hs).1, by simp⟩, fun hs => ⟨(hd.2 hs).1, by simp⟩⟩
    fallback := fun _ => .inl rfl
    interlock := fun hi => .inr (hi.resolve_left (by simp [hsm]))
    walks := fun hw => .inr (hw.resolve_left (by simp [hsm]))
    timers := fun _ _ ht => ⟨fun _ => ht.1 hm1, fun hf => (nomatch hf)⟩ }

theorem steps_passConfirm (hd : Header) (x : ConfirmBody) (h : Steps X s t) : Steps X s (passConfirm hd x t) :=
  steps_ite (fun _ => steps_sendFrame _ _ h) fun _ => steps_ite (fun _ => steps_sendFrame _ _ h) fun _ => h

theorem steps_takeConfirmOut (p : Port) (hd : Header) (x : ConfirmBody) (h : Steps X s t) :
    Steps X s (takeConfirmOut p hd x t) := by
  unfold takeConfirmOut
  refine steps_ite (fun _ => ?_) fun hm => steps_ite (fun _ => ?_) fun _ => ?_
  · exact steps_ite (fun _ => steps_enterBlocked _ h) fun _ => steps_fault _ _ h
  · split
    · exact steps_ite (fun _ => steps_passConfirm _ _ (steps_installMember _ _ (by simpa using hm) h)) fun _ =>
        steps_fault _ _ h
    · exact steps_fault _ _ h
  · exact steps_sendFrame _ _ (steps_enterBlocked _ h)

theorem steps_takeConfirmDone (p : Port) (hd : Header) (m : Identity) (hS : Summaries X) (hG : Grants X)
    (h : Steps X s t) : Steps X s (takeConfirmDone p hd m t) := by
  unfold takeConfirmDone
  refine steps_ite (fun hm => ?_) fun _ => ?_
  · split
    · refine steps_ite (fun hd => ?_) fun _ => steps_fault _ _ h
      simp only [State.doneAccepted, Bool.and_eq_true, beq_iff_eq] at hd
      obtain ⟨⟨⟨⟨hx, -⟩, -⟩, -⟩, -⟩ := hd
      exact steps_installMaster _ _ _ hS hG hm (by simp [hx]) (steps_stop _ h)
    · exact steps_fault _ _ h
  · exact steps_ite (fun _ => steps_sendFrame _ _ h) fun _ => steps_fault _ _ h

theorem steps_takeTopo (p : Port) (f : Frame) (h : Steps X s t) : Steps X s (takeTopo p f t) :=
  steps_ite (fun hm => steps_deliver _ (steps_trigger hm h)) fun _ => steps_sendFrame _ _ h

/-! ### Door unit and heat unit -/

theorem steps_routed (p : Port) (f : Frame) {owner : State → State} (ho : ∀ u, Steps X s u → Steps X s (owner u))
    (h : Steps X s t) : Steps X s (routed p f owner t) := by
  rcases routed_cases p f owner t with ⟨-, he⟩ | ⟨-, he⟩ | ⟨-, he⟩ <;> rw [he]
  · exact ho _ h
  · exact ho _ (steps_sendFrame _ _ h)
  · exact steps_fault _ _ h

theorem steps_takeRelease (f : Frame) (side : TrainSide) (r : Bool) (h : Steps X s t) :
    Steps X s (takeRelease f side r t) := by
  unfold takeRelease
  refine steps_ite (fun ha => steps_deliver _ (steps_applyReleases _ ?_ h)) fun _ => h
  simp only [State.releaseAccepted, Bool.and_eq_true, beq_iff_eq] at ha
  obtain ⟨⟨⟨⟨hx, -⟩, -⟩, -⟩, -⟩ := ha
  simp [hx]

theorem steps_takeClose (f : Frame) (side : TrainSide) (h : Steps X s t) : Steps X s (takeClose f side t) := by
  unfold takeClose
  split
  · exact steps_deliver _ (steps_applyCloses _ h)
  · exact h

theorem steps_takeAlert (p : Port) (f : Frame) (h : Steps X s t) : Steps X s (takeAlert p f t) :=
  steps_ite (fun _ => steps_deliver _ (steps_dropInterlock h)) fun _ => steps_sendFrame _ _ h

theorem isMaster_of_walkTaken {p q : Port} {hd : Header} (hw : t.walkTaken p q hd = true) :
    t.isMaster = false ∧ t.settled = true := by
  simp only [State.walkTaken, Bool.and_eq_true, Bool.not_eq_true'] at hw
  obtain ⟨⟨⟨hm, hs⟩, -⟩, -⟩ := hw
  exact ⟨hm, hs⟩

theorem stableMaster_of_walkReturned {p : Port} {hd : Header} {o : Option Nat}
    (hw : t.walkReturned p hd o = true) : t.stableMaster = true := by
  simp only [State.walkReturned, Bool.and_eq_true] at hw
  obtain ⟨⟨⟨hm, -⟩, -⟩, -⟩ := hw
  exact hm

theorem steps_takeSumOut (p : Port) (hd : Header) (x : SumBody) (h : Steps X s t) :
    Steps X s (takeSumOut p hd x t) := by
  unfold takeSumOut
  refine steps_ite (fun hw => ?_) fun _ => h
  have h1 : Steps X s (renewSilence t) :=
    steps_ite (fun _ => steps_start (isMaster_of_walkTaken hw).1 h) fun _ => h
  exact steps_ite (fun _ => steps_sendFrame _ _ h1) fun _ => steps_sendFrame _ _ h1

theorem steps_takeSumBack (p : Port) (hd : Header) (x : SumBody) (hX : Summaries X) (h : Steps X s t) :
    Steps X s (takeSumBack p hd x t) :=
  steps_ite (fun hw => steps_nextSummaryWalk hX (steps_takeSummary _ _ hX (stableMaster_of_walkReturned hw) h)) fun _ =>
    steps_ite (fun _ => steps_sendFrame _ _ h) fun _ => h

theorem steps_takeHeatOut (p : Port) (hd : Header) (x : HeatBody) (hX : Grants X) (h : Steps X s t) :
    Steps X s (takeHeatOut p hd x t) := by
  unfold takeHeatOut
  refine steps_ite (fun hw => ?_) fun _ => h
  have h1 := steps_outboundStep hd.tag x (isMaster_of_walkTaken hw).2 h
  exact steps_ite (fun _ => steps_sendFrame _ _ h1) fun _ => steps_sendFrame _ _ (steps_masterReturn _ _ hX h1)

theorem steps_takeHeatBack (p : Port) (hd : Header) (x : HeatBody) (hX : Grants X) (h : Steps X s t) :
    Steps X s (takeHeatBack p hd x t) :=
  steps_ite (fun _ => steps_nextHeatWalk hX (steps_takeHeat _ _ hX h)) fun _ =>
    steps_ite (fun _ => steps_sendFrame _ _ (steps_masterReturn _ _ hX h)) fun _ => h

theorem steps_summaryPeriod (hX : Summaries X) (h : Steps X s t) : Steps X s (summaryPeriod t) :=
  steps_ite (fun hm => steps_ite (fun _ => steps_startSummaryWalk hX hm h) fun _ =>
    steps_door ⟨rfl, id, .inr (.inl rfl)⟩ h) fun _ => h

theorem steps_summaryLost (hX : Summaries X) (h : Steps X s t) : Steps X s (summaryLost t) :=
  steps_nextSummaryWalk hX (steps_fault _ _ (steps_door ⟨rfl, Bool.noConfusion, .inl rfl⟩ h))

theorem steps_heatPeriod (hX : Grants X) (h : Steps X s t) : Steps X s (heatPeriod t) :=
  steps_ite (fun hm => steps_ite (fun _ => steps_startHeatWalk hX hm h) fun _ =>
    steps_heat (heatMove_walk rfl (.inr (.inl rfl))) h) fun _ => h

theorem steps_heatLost (hX : Grants X) (h : Steps X s t) : Steps X s (heatLost t) :=
  steps_nextHeatWalk hX (steps_fault _ _ (steps_heat (heatMove_walk rfl (.inl rfl)) h))

theorem steps_feedbackFailed (h : Steps X s t) : Steps X s (feedbackFailed t) := by
  unfold feedbackFailed
  split
  · exact steps_fault _ _ (steps_lockOut h)
  · exact h

/-! ### Relay unit -/

theorem steps_takeData (p : Port) (hd : Header) (l : List Byte) (h : Steps X s t) :
    Steps X s (takeData p hd l t) := by
  have hdel : ∀ e b f, Steps X s (deliverData e b f t) := fun _ _ _ =>
    steps_ite (fun _ => steps_deliver _ h) fun _ => h
  unfold takeData
  refine steps_ite (fun _ => steps_fault _ _ h) fun _ => steps_ite (fun _ => steps_fault _ _ h) fun _ => ?_
  split
  · exact steps_fault _ _ h
  · exact hdel _ _ _
  · unfold forwardData
    split
    · exact steps_enqueue _ _ _ (hdel _ _ _)
    · exact hdel _ _ _

theorem steps_takeResponse (f : Frame) (h : Steps X s t) : Steps X s (takeResponse f t) :=
  steps_ite (fun _ => steps_deliver _ h) fun _ => h

/-- R89: a queue loses frames at a drain timeout, and gains none. -/
theorem keptAtDrain_length (p : Port) (l : Level) (s : State) :
    (s.keptAtDrain p l).length ≤ ((s.queues p).get l).length := by
  unfold State.keptAtDrain
  dsimp only
  split
  · have hf := List.length_filter_le (fun q => !s.older q) (((s.queues p).get l).drop 1)
    simp only [List.length_append, List.length_take, List.length_drop] at hf ⊢
    omega
  · exact List.length_filter_le _ _

theorem steps_drainTimedOut (h : Steps X s t) : Steps X s (drainTimedOut t) := by
  have h1 := h.act (.shrink ⟨t.drainedQueues .e1, t.drainedQueues .e2⟩ t fun p l => by
    cases p <;> cases l <;> exact keptAtDrain_length ..)
  have h2 : Steps X s (discardOlder t) := by
    refine steps_port .e2 { t.ports.e2 with tx := t.doomed t.ports.e2.tx } ?_
      (steps_port .e1 { t.ports.e1 with tx := t.doomed t.ports.e1.tx } ?_ h1) <;> rfl
  exact steps_drainDone _ (steps_fault _ _ h2)

/-! ### Exchanges of the tap -/

theorem steps_beginExchange (h : Steps X s t) : Steps X s (beginExchange t) := by
  rcases beginExchange_cases t with ⟨-, -, he⟩ | ⟨-, hn, he⟩ | ⟨-, he⟩ <;> rw [he]
  · exact h.act (.tapRefuse t)
  · exact h.act (.tapServe t hn)
  · exact h

theorem steps_nodePart (done : Bool) (h : Steps X s t) : Steps X s (nodePart done t) :=
  (steps_beginExchange h).act (.tapEnd done _)

/-- R94: an exchange is released; what taking the frame does is a run. -/
theorem steps_exchange (done : Bool) {part : State → IntakeResult × (State → State)}
    (hp : Steps X s (nodePart done t) → Steps X s ((part t).2 (nodePart done t))) (h : Steps X s t) :
    Steps X s (exchange done part t) :=
  steps_ite (fun _ => (hp (steps_nodePart done h)).act (.intake _ _)) fun _ => h.act (.tapUnserved t)

theorem steps_intakePart {why : Option RefuseReason} {effect : State → State} {u : State}
    (he : why = none → Steps X s (effect u)) (h : Steps X s u) : Steps X s ((intakePart why effect).2 u) := by
  cases why with
  | some x => exact h
  | none => exact he rfl

theorem steps_dataPart (sel : Selector) (m : TapMark) (l : List Byte) {u : State} (h : Steps X s u) :
    Steps X s ((dataPart sel m l t).2 u) := by
  unfold dataPart
  split
  · exact h
  · exact steps_intakePart (fun _ => steps_sendCopies _ _ _ h) h

theorem steps_requestPart (sel : Selector) (m : TapMark) (b : Body) {u : State} (h : Steps X s u) :
    Steps X s ((requestPart sel m b t).2 u) :=
  steps_intakePart (fun _ => steps_sendCopies _ _ _ h) h

/-- R134: a door command is originated at a node that is STABLE. -/
theorem steps_originateDoor (c : DoorCommand) (sel : Selector) (side : TrainSide)
    (hx : t.consist.state = .stable) (h : Steps X s t) : Steps X s (originateDoor c sel side t) := by
  have h1 : Steps X s (t.setDoor { t.door with commandCounter := next256 t.door.commandCounter }) :=
    steps_door ⟨rfl, id, .inr (.inl rfl)⟩ h
  unfold originateDoor
  refine steps_sendCopies _ _ _ ?_
  unfold actOwnCoach
  dsimp only
  have h2 : Steps X s (if c = .release
      then dropInterlock (t.setDoor { t.door with commandCounter := next256 t.door.commandCounter })
      else t.setDoor { t.door with commandCounter := next256 t.door.commandCounter }) :=
    steps_ite (fun _ => steps_dropInterlock h1) fun _ => h1
  refine steps_ite (fun _ => ?_) fun _ => h2
  cases c with
  | release => exact steps_applyReleases _ (by simp [hx]) h2
  | close => exact steps_applyCloses _ h2

/-- R100, R133, R134: a DOOR_CMD from the tap. -/
theorem steps_doorPart (c : DoorCommand) (own : Option RefuseReason) (sel : Selector) (m : TapMark) (side : TrainSide)
    (r : Bool) {u : State} (hu : u.consist = t.consist) (h : Steps X s u) :
    Steps X s ((doorPart c own sel m side r t).2 u) := by
  refine steps_intakePart (fun hw => steps_originateDoor c sel side ?_ h) h
  have hgate : t.doorGate sel = none := by
    cases hg : t.intakeGate (tapRecord sel m (.doorCmd c side r)) <;> cases hq : t.doorGate sel <;> simp_all
  unfold State.doorGate at hgate
  split_ifs at hgate with hsm
  obtain ⟨-, hx⟩ : t.isMaster = true ∧ t.consist.state = .stable := by simpa [State.stableMaster] using hsm
  rw [hu, hx]

@[simp] theorem nodePart_consist (done : Bool) (s : State) : (nodePart done s).consist = s.consist := by
  obtain ⟨r, b, h⟩ := nodePart_cases done s
  rw [h]
  rfl

/-! ### Management requests -/

/-- R185, R192: a request is judged, carried out and answered. -/
theorem steps_serve (c : ReqCode) (q : Req) (act : Access → Nat → State → State × Answer) (a : Access) (tag : Nat)
    (ha : Steps X s (act a tag t).1) (h : Steps X s t) : Steps X s (serve c q act a tag t) := by
  unfold serve
  split
  · exact steps_place _ _ _ h
  · split
    · rename_i he
      rw [he] at ha
      exact steps_place _ _ _ ha
    · rename_i he
      rw [he] at ha
      exact ha

/-- R82, R99, R183, R184: a request arrives on one of the two ways. -/
theorem steps_request (v : Via) (c : ReqCode) (q : Req) {take : Access → Nat → State → State}
    (hX : ∀ (p : Port) (u : State), u.bypass.started = true → u.isUp p = false → X u (becomeUp p u))
    (ht : ∀ a tag u, Steps X s u → Steps X s (take a tag u)) (h : Steps X s t) :
    Steps X s (request v c q take t) := by
  cases v with
  | tap done tag =>
    refine steps_exchange done (fun hu => ?_) h
    unfold selfPart
    split_ifs
    · exact hu
    · exact hu
    · exact ht _ _ _ hu
  | train p hd =>
    refine steps_frameArrives p _ (hX p) (fun u hu => steps_routed p _ (fun w hw => ?_) hu) h
    exact steps_ite (fun _ => steps_ite (fun _ => ht _ _ _ hw) fun _ => steps_fault _ _ hw) fun _ => hw

theorem steps_carryRead (q : Req) (h : Steps X s t) (a : Access) (tag : Nat) : Steps X s (carryRead q a tag t).1 := by
  unfold carryRead readObject
  split
  · exact h
  · split_ifs
    · exact h
    · exact h
    · exact h
    · unfold readEffect
      split
      · exact h.act (.collect t)
      · exact h.act (.read _ _ t)
      · exact h

theorem steps_carryCommit (q : Req) (a : Access) (tag : Nat) (h : Steps X s t) :
    Steps X s (carryCommit q a tag t).1 := by
  have hb := h.act (.banks t)
  unfold carryCommit
  dsimp only
  split_ifs
  · exact h
  · exact h
  · exact hb
  · exact hb
  · exact hb.act (.drain tag _)

theorem steps_carryClear (q : Req) (a : Access) (tag : Nat) (h : Steps X s t) :
    Steps X s (carryClear q a tag t).1 := by
  unfold carryClear
  split_ifs
  · exact h.act (.clear _ t)
  · exact h

theorem steps_carryReinaugurate (a : Access) (tag : Nat) (h : Steps X s t) :
    Steps X s (carryReinaugurate a tag t).1 := by
  unfold carryReinaugurate
  split_ifs with hm
  · exact steps_trigger hm h
  · exact h

/-- R171: LOCKED_OUT is cleared; the stage was 0. -/
theorem steps_clearLockedOut (h : Steps X s t) : Steps X s (clearLockedOut t) := by
  unfold clearLockedOut
  refine steps_ite (fun hl => steps_judgeFeedback (steps_heat ?_ h)) fun _ => h
  exact { profile := rfl, written := rfl, cap := rfl, stage := rfl, limit := rfl, applied := le_rfl
          out := .inr (.inl rfl), settled := .inr ⟨id, id⟩
          safe := fun hs => ⟨(hs.2.2 hl).le.trans (Nat.zero_le _), fun _ => (hs.2.2 hl).le.trans (Nat.zero_le _),
            Bool.noConfusion⟩
          capped := fun hs => ⟨fun _ => (hs.2 hl).le.trans (Nat.zero_le _), Bool.noConfusion⟩ }

end Runs

end Sys2Proof.Machine
end

section
/-! Every command is a run of acts and of its larger changes. -/

namespace Sys2Proof.Machine

open Sys2Proof

/-- The commands in which a summary walk may end with its result (R146). -/
def endsSummary : Instr → Bool
  | .sumBack .. | .settleExpiry | .confirmDone .. | .summaryPeriodExpiry | .summaryReturnTimeout => true
  | _ => false

/-- The commands in which the node may make its return step (R161 to R164). -/
def returnsHeat : Instr → Bool
  | .heatBack .. | .heatOut .. | .settleExpiry | .confirmDone .. | .heatPeriodExpiry | .heatReturnTimeout => true
  | _ => false

/-- R20: the node after a power-on. -/
def poweredOn (s : State) : State :=
  { State.reset with
    pending := s.pending, identity := s.identity
    relay := { State.reset.relay with select := s.relay.select.cutOff } }

/-- R20: the node at the end of its start-up check. -/
def startChecked (pass : Bool) (s : State) : State :=
  s.setBypass (if pass then { s.bypass with node := .operating, hold := true }
    else { s.bypass with node := .withdrawn, cause := .startCheck })

/-- R20: the node as its ports are started. -/
def portsStarted (s : State) : State := resetPort .e2 (resetPort .e1 (s.setBypass { s.bypass with started := true }))

/-- R21, R22: the node at the end of a withdraw. -/
def withdrawEnded (s : State) : State :=
  withdrawnPort .e2 (withdrawnPort .e1 (s.setBypass { s.bypass with node := .withdrawn, hold := false, cause := .requested }))

/-- The changes of a command that no act covers. -/
inductive Large (c : Instr) : State → State → Prop
  | up (p : Port) (s : State) (hs : s.bypass.started = true) (hu : s.isUp p = false) : Large c s (becomeUp p s)
  | summary (x : SumBody) (s : State) (hc : endsSummary c = true) (hm : s.stableMaster = true) :
    Large c s (s.setDoor { s.door with outstanding := none, doorsClosed := s.interlockAfter x })
  | grant (n : Nat) (s : State) (hc : returnsHeat c = true) : Large c s (setApplied (s.cappedGrant n) s)
  | edge (n : Fin 16) (s : State) (hd : (s.lineAt n.val).due s.timers.timebase = true) : Large c s (takeEdge n.val s)
  | sample (levels : Levels) (s : State) : Large c s (sampleLines levels s)
  | write (o : Object) (q : Req) (s : State) (hs : o.shapeOk q = true) (hi : s.indexOk o q.index q.count = true) :
    Large c s (writeValues o q s).1
  | restart (levels : Levels) (s : State) : Large c s (restartNode levels s)
  | powerOn (s : State) (hc : c = .powerOn) : Large c s (poweredOn s)
  | startCheck (pass : Bool) (s : State) (hc : c = .startCheckComplete pass) (hn : s.bypass.node = .starting) :
    Large c s (startChecked pass s)
  | portStart (s : State) (hs : s.bypass.started = false) : Large c s (portsStarted s)
  | withdrawing (s : State) (hc : ∃ v q, c = .withdraw v q) :
    Large c s (s.setBypass { s.bypass with node := .withdrawing })
  | withdrawEnd (s : State) (hc : c = .withdrawComplete) : Large c s (withdrawEnded s)

section Runs

variable {c : Instr} {s t : State}

theorem large_up (p : Port) (u : State) (hs : u.bypass.started = true) (hu : u.isUp p = false) :
    Large c u (becomeUp p u) := .up p u hs hu

theorem large_summaries (hc : endsSummary c = true) : Summaries (Large c) := fun x u hm => .summary x u hc hm

theorem large_grants (hc : returnsHeat c = true) : Grants (Large c) := fun n u => .grant n u hc

theorem steps_arrival (p : Port) (f : Frame) {handle : State → State}
    (hh : ∀ u, Steps (Large c) s u → Steps (Large c) s (handle u)) (h : Steps (Large c) s t) :
    Steps (Large c) s (frameArrives p f handle t) := steps_frameArrives p f (large_up p) hh h

theorem steps_writeObject (a : Access) (q : Req) (h : Steps (Large c) s t) :
    Steps (Large c) s (writeObject a q t).1 := by
  unfold writeObject
  split
  · exact h
  · split_ifs with h1 h2 h3 h4
    · exact h
    · exact h
    · exact h
    · exact h
    · exact h.large (.write _ q t (by simpa using h3) (by simpa using h4))

theorem steps_readRequest (v : Via) (q : Req) (h : Steps (Large c) s t) : Steps (Large c) s (readRequest v q t) :=
  steps_request v .read q large_up (fun _ _ _ hu => steps_serve _ _ _ _ _ (steps_carryRead q hu _ _) hu) h

theorem steps_writeRequest (v : Via) (q : Req) (h : Steps (Large c) s t) : Steps (Large c) s (writeRequest v q t) :=
  steps_request v .write q large_up (fun _ _ _ hu => steps_serve _ _ _ _ _ (steps_writeObject _ q hu) hu) h

theorem steps_carryRestart (levels : Levels) (q : Req) (a : Access) (tag : Nat) (h : Steps (Large c) s t) :
    Steps (Large c) s (carryRestart levels q a tag t).1 := by
  cases a with
  | ownTap =>
    dsimp only [carryRestart]
    exact h.large (.restart levels t)
  | train =>
    dsimp only [carryRestart, restartAfterResponse]
    have h1 := steps_enqueue t.answerPort .control (t.restartResponse q tag) h
    exact steps_ite (fun _ => h1.act (.restartMark _ _)) fun _ => h1.large (.restart levels _)

/-- R174: the heat unit at the entry to WITHDRAWING. -/
theorem steps_withdrawHeat {X : State → State → Prop} (h : Steps X s t) : Steps X s (withdrawHeat t) :=
  steps_heat { profile := rfl, written := rfl, cap := rfl, stage := rfl, limit := rfl, applied := Nat.zero_le _
               out := .inl rfl, settled := .inr ⟨id, fun _ => rfl⟩
               safe := fun _ => ⟨Nat.zero_le _, fun _ => Nat.zero_le _, fun _ => rfl⟩
               capped := fun _ => ⟨fun _ => Nat.zero_le _, fun _ => rfl⟩ } h

theorem steps_withdrawDoors {X : State → State → Prop} (b : Bool) (h : Steps X s t) : Steps X s (withdrawDoors b t) :=
  steps_ite (fun _ => steps_door ⟨rfl, Bool.noConfusion, .inl rfl⟩ h) fun _ =>
    steps_door ⟨rfl, Bool.noConfusion, .inr (.inl rfl)⟩ h

/-- R21: the entry to WITHDRAWING. -/
theorem steps_enterWithdrawing (hc : ∃ v q, c = .withdraw v q) (h : Steps (Large c) s t) :
    Steps (Large c) s (enterWithdrawing t) := by
  have h1 := steps_enterUninaugurated (steps_sendBreaks t.upPorts h)
  have h2 := steps_withdrawHeat (steps_withdrawDoors t.isMaster (h1.act (.quiet _)))
  exact (h2.act (.halt _)).large (.withdrawing _ hc)

end Runs

/-- What every command comes to. -/
theorem exec_steps {c : Instr} {s t : State} (he : exec c s = .next t) : Steps (Large c) s t := by
  have h : Steps (Large c) s s := .refl s
  cases c with
  | powerOn => cases he; exact h.large (.powerOn s rfl)
  | startCheckComplete pass =>
    cases he
    exact steps_ite (fun hn => h.large (.startCheck pass s rfl hn)) fun _ => h
  | portStart =>
    cases he
    refine steps_ite (fun hc => h.large (.portStart s ?_)) fun _ => h
    simp only [Bool.and_eq_true, Bool.not_eq_true'] at hc
    exact hc.2
  | probeIntervalExpiry p =>
    cases he
    exact steps_ite (fun hr => steps_port p _ rfl (steps_takeExpiry hr h)) fun _ => h
  | probeSend p =>
    cases he
    exact steps_ite (fun _ => steps_port p _ rfl h) fun _ => h
  | frameBegin p =>
    cases he
    refine steps_ite (fun _ => ?_) fun _ => h
    split
    · exact steps_stop _ (steps_port p _ rfl h)
    · exact h
  | arbitrationLost p place =>
    cases he
    split
    · rename_i l q how hq
      refine steps_ite (fun _ => ?_) fun _ => h
      have h1 := steps_startT1 p (steps_port p { s.port p with
        tx := .idle, rx := .inFrame, assembly := (bitsOf q.frame.bytes).take place ++ [false] } rfl h)
      exact steps_ite (fun _ => steps_afterRemoval _ (steps_dropHead _ _ h1)) fun _ => h1
    · exact h
  | frameSent p =>
    cases he
    split
    · refine steps_ite (fun _ => ?_) fun _ => h
      have h1 := steps_startT1 p (steps_port p { s.port p with tx := .idle } rfl h)
      exact steps_ite (fun _ => h1) fun _ => steps_afterRemoval _ (steps_dropHead _ _ h1)
    · exact h
  | probeReceived x =>
    cases he
    exact steps_ite (fun _ => h) fun _ => steps_symbolItem _ _ (large_up _) h
  | invalidItem p cause =>
    cases he
    split
    · exact steps_symbolItem _ _ (large_up _) h
    · exact steps_symbolItem _ _ (large_up _) h
    · exact steps_badReception _ _ _ _ (steps_keepAliveByBits p h) h
    · exact steps_badReception _ _ _ _ (steps_keepAlive p h) h
    · exact steps_badReception _ _ _ _ (steps_keepAliveByBits p h) h
  | breakReceived x =>
    cases he
    exact steps_ite (fun _ => steps_takeBreak _ h) fun _ => h
  | breakHoldoffEnd => cases he; exact h.act (.holdoff false s)
  | linkSilenceTimeout p =>
    cases he
    refine steps_ite (fun _ => ?_) fun _ => h
    split
    · exact steps_silenceUp p (steps_fault _ _ h)
    · rename_i hl
      exact steps_takeDown p (isUp_of_link (t := recordFault .portLost (.port p) s) hl) (steps_fault _ _ h)
    · rename_i hu _
      exact steps_takeDown p (by simpa [State.isUp] using hu) h
  | data p hd l => cases he; exact steps_arrival p _ (fun u hu => steps_takeData p hd l hu) h
  | doorCmdRelease p hd side r =>
    cases he
    exact steps_arrival p _ (fun u hu => steps_routed p _ (fun w hw => steps_takeRelease _ _ _ hw) hu) h
  | doorCmdClose p hd side r =>
    cases he
    exact steps_arrival p _ (fun u hu => steps_routed p _ (fun w hw => steps_takeClose _ _ hw) hu) h
  | doorAlert p hd x => cases he; exact steps_arrival p _ (fun u hu => steps_takeAlert p _ hu) h
  | sumOut p hd x => cases he; exact steps_arrival p _ (fun u hu => steps_takeSumOut p _ x hu) h
  | sumBack p hd x =>
    cases he
    exact steps_arrival p _ (fun u hu => steps_takeSumBack p _ x (large_summaries rfl) hu) h
  | topo p hd x => cases he; exact steps_arrival p _ (fun u hu => steps_takeTopo p _ hu) h
  | rollCall p hd x => cases he; exact steps_arrival p _ (fun u hu => steps_takeRollCall p _ x hu) h
  | rollBack p hd x => cases he; exact steps_arrival p _ (fun u hu => steps_takeRollBack p _ x hu) h
  | confirmOut p hd x => cases he; exact steps_arrival p _ (fun u hu => steps_takeConfirmOut p _ x hu) h
  | confirmDone p hd m =>
    cases he
    exact steps_arrival p _ (fun u hu => steps_takeConfirmDone p _ m (large_summaries rfl) (large_grants rfl) hu) h
  | heatOut p hd x =>
    cases he
    exact steps_arrival p _ (fun u hu => steps_takeHeatOut p _ x (large_grants rfl) hu) h
  | heatBack p hd x =>
    cases he
    exact steps_arrival p _ (fun u hu => steps_takeHeatBack p _ x (large_grants rfl) hu) h
  | mgmtRsp p hd x =>
    cases he
    exact steps_arrival p _ (fun u hu => steps_routed p _ (fun w hw => steps_takeResponse _ hw) hu) h
  | tapExchange done part =>
    cases he
    cases part with
    | begins => exact steps_beginExchange h
    | nothing => exact steps_exchange done id h
    | refusedRecord why => exact steps_exchange done id h
  | tapData done sel m l => cases he; exact steps_exchange done (steps_dataPart sel m l) h
  | tapDoorCmdRelease done sel m side r =>
    cases he
    exact steps_exchange done (steps_doorPart .release _ sel m side r (nodePart_consist done s)) h
  | tapDoorCmdClose done sel m side r =>
    cases he
    exact steps_exchange done (steps_doorPart .close _ sel m side r (nodePart_consist done s)) h
  | tapMgmtReqToTrain done dest m code q => cases he; exact steps_exchange done (steps_requestPart _ m _) h
  | read v q => cases he; exact steps_readRequest v _ h
  | readLineReport v q => cases he; exact steps_readRequest v _ h
  | readFaults v q => cases he; exact steps_readRequest v _ h
  | write v q => cases he; exact steps_writeRequest v _ h
  | writeService v q => cases he; exact steps_writeRequest v _ h
  | writeGroups v q => cases he; exact steps_writeRequest v _ h
  | writeLines v q => cases he; exact steps_writeRequest v _ h
  | writeGeneralOut v q => cases he; exact steps_writeRequest v _ h
  | writeDoorInhibit v q => cases he; exact steps_writeRequest v _ h
  | writeCoachDescriptor v q => cases he; exact steps_writeRequest v _ h
  | writeHeatProfile v q => cases he; exact steps_writeRequest v _ h
  | writeHeatSettings v q => cases he; exact steps_writeRequest v _ h
  | writeHeatDemand v q => cases he; exact steps_writeRequest v _ h
  | writeSupplyLimit v q => cases he; exact steps_writeRequest v _ h
  | writeTimers v q => cases he; exact steps_writeRequest v _ h
  | commit v q =>
    cases he
    exact steps_request v _ _ large_up (fun _ _ _ hu => steps_serve _ _ _ _ _ (steps_carryCommit _ _ _ hu) hu) h
  | commitWithDrain v q =>
    cases he
    exact steps_request v _ _ large_up (fun _ _ _ hu => steps_serve _ _ _ _ _ (steps_carryCommit _ _ _ hu) hu) h
  | clearFaults v q =>
    cases he
    exact steps_request v _ _ large_up (fun _ _ _ hu => steps_serve _ _ _ _ _ (steps_carryClear _ _ _ hu) hu) h
  | reinaugurate v q =>
    cases he
    exact steps_request v _ _ large_up (fun _ _ _ hu => steps_serve _ _ _ _ _ (steps_carryReinaugurate _ _ hu) hu) h
  | restart v q levels =>
    cases he
    exact steps_request v _ _ large_up (fun _ _ _ hu => steps_serve _ _ _ _ _ (steps_carryRestart _ _ _ _ hu) hu) h
  | pendingRestart levels => cases he; exact steps_ite (fun _ => h.large (.restart levels s)) fun _ => h
  | withdraw v q =>
    cases he
    exact steps_request v _ _ large_up (fun a tag u hu => steps_serve _ _ _ _ _
      (steps_enterWithdrawing ⟨v, q, rfl⟩ (steps_place a tag _ hu)) hu) h
  | withdrawComplete => cases he; exact steps_ite (fun _ => h.large (.withdrawEnd s rfl)) fun _ => h
  | clearLockout v q =>
    cases he
    exact steps_request v _ _ large_up (fun _ _ _ hu => steps_serve _ _ _ _ _ (steps_clearLockedOut hu) hu) h
  | qualifiedEdge n =>
    cases he
    refine steps_ite (fun hc => h.large (.edge n s ?_)) fun _ => h
    simp only [Bool.and_eq_true] at hc
    exact hc.2
  | settleExpiry =>
    cases he
    exact steps_ite (fun hr => steps_ite (fun hc => steps_settle (large_summaries rfl) (large_grants rfl) hc.1 hc.2
      (steps_takeExpiry hr h)) fun _ => steps_takeExpiry hr h) fun _ => h
  | callTimeout =>
    cases he
    exact steps_ite (fun hr => steps_ite (fun hc => steps_attemptTimeout hc.1 (steps_takeExpiry hr h)) fun _ =>
      steps_takeExpiry hr h) fun _ => h
  | confirmTimeout =>
    cases he
    exact steps_ite (fun hr => steps_ite (fun hc => steps_attemptTimeout hc.1 (steps_takeExpiry hr h)) fun _ =>
      steps_takeExpiry hr h) fun _ => h
  | pendingTimeout =>
    cases he
    exact steps_ite (fun hr => steps_ite (fun _ => steps_enterUninaugurated (steps_takeExpiry hr h)) fun _ =>
      steps_takeExpiry hr h) fun _ => h
  | suspectTimeout =>
    cases he
    exact steps_ite (fun hr => steps_ite (fun _ => steps_enterUninaugurated (steps_takeExpiry hr h)) fun _ =>
      steps_takeExpiry hr h) fun _ => h
  | masterSilenceTimeout =>
    cases he
    refine steps_ite (fun hr => steps_ite (fun hc => steps_enterSuspect (fun hm => ?_) (steps_takeExpiry hr h)) fun _ =>
      steps_takeExpiry hr h) fun _ => h
    simp [hm] at hc
  | summaryPeriodExpiry =>
    cases he
    exact steps_ite (fun hr => steps_summaryPeriod (large_summaries rfl) (steps_takeExpiry hr h)) fun _ => h
  | summaryReturnTimeout =>
    cases he
    exact steps_ite (fun hr => steps_ite (fun _ => steps_summaryLost (large_summaries rfl) (steps_takeExpiry hr h))
      fun _ => steps_takeExpiry hr h) fun _ => h
  | closeTimeout side =>
    cases he
    refine steps_ite (fun hr => ?_) fun _ => h
    have h1 := steps_takeExpiry hr h
    refine steps_ite (fun hc => steps_fault _ _ (h1.act (.side side .stuck _ ?_ ?_ ?_))) fun _ => h1
    · simp [hc]
    · decide
    · exact .inr (by simp [takeExpiry, TimerId.periodic])
  | heatPeriodExpiry =>
    cases he
    exact steps_ite (fun hr => steps_heatPeriod (large_grants rfl) (steps_takeExpiry hr h)) fun _ => h
  | heatReturnTimeout =>
    cases he
    exact steps_ite (fun hr => steps_ite (fun _ => steps_heatLost (large_grants rfl) (steps_takeExpiry hr h))
      fun _ => steps_takeExpiry hr h) fun _ => h
  | heatSupervisionTimeout =>
    cases he
    exact steps_ite (fun hr => steps_enterFallback (steps_takeExpiry hr h)) fun _ => h
  | feedbackMismatchTimeout =>
    cases he
    exact steps_ite (fun hr => steps_feedbackFailed (steps_takeExpiry hr h)) fun _ => h
  | drainTimeout =>
    cases he
    exact steps_ite (fun hr => steps_ite (fun _ => steps_drainTimedOut (steps_takeExpiry hr h)) fun _ =>
      steps_takeExpiry hr h) fun _ => h
  | timebaseStep now =>
    cases he
    exact ((steps_midFrame .e2 _ (steps_midFrame .e1 _ h)).act (.advance _)).large (.sample now.levels _)
  | returnBetweenFrames p =>
    cases he
    exact steps_ite (fun _ => steps_setRx p _ h) fun _ => h

end Sys2Proof.Machine
end

section
/-! The larger changes, taken apart: the acts between which they change a line, a proof, a setting or the node state. The
conditions that look at none of these are kept by every part, and so by every command. -/

namespace Sys2Proof.Machine

open Sys2Proof

/-- The commands that set BYPASS_HOLD and the withdraw cause (R20, R22). -/
def resetsBypass : Instr → Bool
  | .startCheckComplete _ | .withdrawComplete => true
  | _ => false

/-- A part of a larger change of a command that is no act. -/
inductive Raw (c : Instr) : State → State → Prop
  | rise (p : Port) (x : PortState) (s : State) (hs : s.bypass.started = true) (hx : x.link = .up) :
    Raw c s (s.setPort p x)
  | lines (x : LineUnit) (s : State) : Raw c s (s.setLines x)
  | side (d : Side) (x : SideRecord) (s : State) (h : x.state = (s.side d).state) : Raw c s (s.setSide d x)
  | descriptor (k d : Nat) (s : State) : Raw c s (s.setConsist { s.consist with coachClass := k, doors := d })
  | profile (l : List Nat) (s : State) : Raw c s (s.setHeat { s.heat with profile := l, walkRecord := none })
  | settings (w k f l : Nat) (s : State) : Raw c s (s.setHeat { s.heat with
      writtenDemand := w, doorCap := k, fallbackStage := f, supplyLimit := l })
  | timers (l : List Setting) (s : State) : Raw c s (s.setTimers { s.timers with settings := l })
  | staged (l : List ServiceEntry) (g : BitVec 16) (s : State) :
    Raw c s (s.setRelay { s.relay with serviceStaged := l, groupsStaged := g })
  | summary (b : Bool) (s : State) (hm : s.stableMaster = true) (hc : endsSummary c = true) :
    Raw c s (s.setDoor { s.door with outstanding := none, doorsClosed := b })
  | grant (n : Nat) (s : State) (hc : returnsHeat c = true) : Raw c s (s.setHeat { s.heat with applied := n })
  | bypass (y : BypassHold) (s : State) (hn : y.node ≠ .starting) (hs : y.started = s.bypass.started)
    (hc : resetsBypass c = true
      ∨ y = { s.bypass with node := y.node } ∧ ∃ v q, c = .withdraw v q) :
    Raw c s (s.setBypass y)
  | portStart (s : State) (hs : s.bypass.started = false) : Raw c s (portsStarted s)
  | powerOn (s : State) (hc : c = .powerOn) : Raw c s (poweredOn s)

/-- The changes of the proof and the alert hold-off of a side are among the larger changes `X`. -/
def Proofs (X : State → State → Prop) : Prop :=
  ∀ (d : Side) (p : Proof) (b : Bool) (s : State), X s (s.setSide d { s.side d with proof := p, held := b })

theorem raw_proofs {c : Instr} : Proofs (Raw c) := fun d _ _ s => .side d _ s rfl

/-- A change of the proof and the alert hold-off of one side. -/
inductive Reproof : State → State → Prop
  | side (d : Side) (p : Proof) (b : Bool) (s : State) : Reproof s (s.setSide d { s.side d with proof := p, held := b })

theorem reproof_proofs : Proofs Reproof := .side

/-- Every change of the lines is among the larger changes `X`. -/
def Relines (X : State → State → Prop) : Prop := ∀ (x : LineUnit) (s : State), X s (s.setLines x)

theorem raw_relines {c : Instr} : Relines (Raw c) := .lines

/-- A change of the lines, or of the proof and the alert hold-off of one side. -/
inductive Resampled : State → State → Prop
  | lines (x : LineUnit) (s : State) : Resampled s (s.setLines x)
  | side (d : Side) (p : Proof) (b : Bool) (s : State) : Resampled s (s.setSide d { s.side d with proof := p, held := b })

theorem resampled_proofs : Proofs Resampled := .side

theorem resampled_relines : Relines Resampled := .lines

section Proved

variable {X : State → State → Prop} {s t : State}

/-- R122, R128, R138: a side with its new proof, and CLOSED where that ends a CLOSING or STUCK. -/
def proofTaken (d : Side) (new : Proof) (s : State) : State :=
  let s1 := s.setSide d { s.side d with proof := new, held := (s.side d).held && new != .proved }
  if new = .proved ∧ ((s.side d).state = .closing ∨ (s.side d).state = .stuck) then enterClosed d s1 else s1

theorem proofNotice_eq (d : Side) (new : Proof) (s : State) : proofNotice d new s =
    if s.alertDue d new then raiseAlert d (heatRefresh (proofTaken d new s)) else heatRefresh (proofTaken d new s) := by
  simp only [proofNotice, proofTaken, State.side_setSide]

/-- R118, R150: a side with the proof its line shows, and CLOSED where that ends a CLOSING. -/
def proofReread (d : Side) (s : State) : State :=
  let s1 := s.setSide d { s.side d with proof := s.lineProof d }
  if s.lineProof d = .proved ∧ (s.side d).state = .closing then enterClosed d s1 else s1

theorem rereadSide_eq (d : Side) (s : State) : rereadSide d s = heatRefresh (if (proofReread d s).inhibited d
    then closeReleased d (proofReread d s) else proofReread d s) := by
  simp only [rereadSide, proofReread, State.side_setSide]

theorem steps_proofTaken (hX : Proofs X) (d : Side) (new : Proof) (h : Steps X s t) : Steps X s (proofTaken d new t) := by
  have h1 := h.large (hX d (new) ((t.side d).held && new != .proved) t)
  refine steps_ite (fun hc => steps_enterClosed d ?_ h1) fun _ => h1
  rcases hc.2 with hx | hx <;> simp [hx]

theorem steps_proofNotice (hX : Proofs X) (d : Side) (new : Proof) (h : Steps X s t) : Steps X s (proofNotice d new t) := by
  have h1 := steps_heatRefresh (steps_proofTaken hX d new h)
  rw [proofNotice_eq]
  exact steps_ite (fun _ => steps_raiseAlert d h1) fun _ => h1

theorem steps_proofReread (hX : Proofs X) (d : Side) (h : Steps X s t) : Steps X s (proofReread d t) := by
  have h1 := h.large (hX d (t.lineProof d) (t.side d).held t)
  exact steps_ite (fun hc => steps_enterClosed d (by simp [hc.2]) h1) fun _ => h1

theorem steps_rereadSide (hX : Proofs X) (d : Side) (h : Steps X s t) : Steps X s (rereadSide d t) := by
  have h1 := steps_proofReread hX d h
  rw [rereadSide_eq]
  exact steps_heatRefresh (steps_ite (fun _ => steps_closeReleased d h1) fun _ => h1)

theorem steps_rereadOwners (hX : Proofs X) (h : Steps X s t) : Steps X s (rereadOwners t) :=
  steps_heatRefresh (steps_rereadSide hX .b (steps_rereadSide hX .a h))

theorem steps_ownerEdge (hX : Proofs X) (f : LineFunction) (level : Bool) (h : Steps X s t) : Steps X s (ownerEdge f level t) := by
  unfold ownerEdge
  split
  · exact steps_cabEdge h
  · exact steps_proofNotice hX _ _ h
  · exact steps_ite (fun _ => steps_closeReleased _ h) fun _ => h
  · exact steps_judgeFeedback h
  · exact steps_heatRefresh h
  · exact steps_heatRefresh h
  · exact steps_heatRefresh h
  · exact h

/-- R109: the owner of an input function is told that it is absent, or present at level released; `p` is the proof that a
side then reads. -/
def ownerTold (p : Proof) (f : LineFunction) (s : State) : State :=
  match f with
  | .cabActive => evaluateRole s
  | .doorProof d => proofNotice d p s
  | .heatFeedback => judgeFeedback s
  | .heatDemand0 | .heatDemand1 | .heatDemand2 => heatRefresh s
  | _ => s

theorem ownerAbsent_eq : ownerAbsent = ownerTold .absent := rfl

theorem ownerPresent_eq : ownerPresent = ownerTold .notProved := rfl

theorem steps_ownerTold (hX : Proofs X) (p : Proof) (f : LineFunction) (h : Steps X s t) :
    Steps X s (ownerTold p f t) := by
  unfold ownerTold
  split
  · exact steps_evaluateRole h
  · exact steps_proofNotice hX _ _ h
  · exact steps_judgeFeedback h
  · exact steps_heatRefresh h
  · exact steps_heatRefresh h
  · exact steps_heatRefresh h
  · exact h

theorem steps_restartSide (hX : Proofs X) (d : Side) (h : Steps X s t) : Steps X s (restartSide d t) := by
  have h1 := h.large (hX d (t.lineProof d) (t.lineProof d != .proved) t)
  have hc : ∀ x, (t.side d).state = x → x ≠ .closed → Steps X s
      (if t.lineProof d = .proved
        then enterClosed d (t.setSide d { t.side d with proof := t.lineProof d, held := t.lineProof d != .proved })
        else enterClosing d (t.setSide d { t.side d with proof := t.lineProof d, held := t.lineProof d != .proved })) :=
    fun x hx hn => steps_ite (fun _ => steps_enterClosed d (by simp [hx, hn]) h1) fun _ =>
      steps_enterClosing d (by simp [hx, hn]) h1
  unfold restartSide
  dsimp only
  split
  · rename_i hx
    exact hc _ hx (by decide)
  · rename_i hx
    exact hc _ hx (by decide)
  · exact h1
  · exact h1

theorem steps_restartDoors (hX : Proofs X) (h : Steps X s t) : Steps X s (restartDoors t) :=
  steps_door ⟨rfl, Bool.noConfusion, .inl rfl⟩ (steps_stopTimers _ (steps_restartSide hX .b (steps_restartSide hX .a h)))

theorem steps_sampleLines (hX : Proofs X) (hL : Relines X) (levels : Levels) (h : Steps X s t) :
    Steps X s (sampleLines levels t) := by
  unfold sampleLines sampleOperating
  split
  · exact h
  · exact steps_ite (fun _ => steps_rereadOwners hX (h.large (hL _ t))) fun _ => h.large (hL _ t)
  · exact h.large (hL _ t)
  · exact h.large (hL _ t)

theorem steps_takeEdge (hX : Proofs X) (hL : Relines X) (n : Nat) (h : Steps X s t) : Steps X s (takeEdge n t) :=
  steps_ownerEdge hX _ _ (h.large (hL _ t))

/-- What each part of a fold keeps. -/
theorem steps_foldl {α : Type} {f : State → α → State} (l : List α)
    (hf : ∀ u x, Steps X s u → Steps X s (f u x)) (h : Steps X s t) : Steps X s (l.foldl f t) := by
  induction l generalizing t with
  | nil => exact h
  | cons x l ih => exact ih (hf _ _ h)

theorem steps_applyLines (hX : Proofs X) (hL : Relines X) (i : Nat) (l : List LineEntry) (h : Steps X s t) :
    Steps X s (applyLines i l t) := by
  have hw : ∀ f (u : State), Steps X s u → Steps X s (writeLinesAt f i l u) := fun _ _ hu =>
    steps_foldl _ (fun _ _ hv => hv.large (hL _ _)) hu
  have h1 := steps_foldl (t.removedFunctions i l) (fun _ f hu => steps_ownerTold hX .absent f hu) (hw LineRecord.removed t h)
  exact steps_foldl _ (fun _ f hu => steps_ownerTold hX .notProved f hu) (hw _ _ h1)

end Proved

section Runs

variable {c : Instr} {s t : State}

theorem steps_setSide (d : Side) (x : SideRecord) (hx : x.state = (t.side d).state) (h : Steps (Raw c) s t) :
    Steps (Raw c) s (t.setSide d x) := h.large (.side d x t hx)

theorem steps_heatSettings (w k f l : Nat) (h : Steps (Raw c) s t) : Steps (Raw c) s (t.setHeat { t.heat with
    writtenDemand := w, doorCap := k, fallbackStage := f, supplyLimit := l }) := h.large (.settings w k f l t)

theorem steps_heatSettingsTaken {X : State → State → Prop} (h : Steps X s t) : Steps X s (heatSettingsTaken t) := by
  unfold heatSettingsTaken
  dsimp only
  refine steps_ite (fun _ => steps_setApplied (heatMove_lower ?_) (steps_heatRefresh h)) fun _ => steps_heatRefresh h
  exact Nat.min_le_left _ _

theorem steps_setDescriptor (k d : Nat) (h : Steps (Raw c) s t) : Steps (Raw c) s (setDescriptor k d t) := by
  have hc : ∀ e u, Steps (Raw c) s u → Steps (Raw c) s (closeDoorless e u) := fun e _ hu =>
    steps_ite (fun _ => hu) fun hs => steps_enterClosed e hs hu
  have h1 := h.large (.descriptor k d t)
  exact steps_heatRefresh (steps_ite (fun _ => hc _ _ (hc _ _ h1)) fun _ => h1)

theorem steps_rerunTimers (i c : Nat) {X : State → State → Prop} (h : Steps X s t) :
    Steps X s (rerunTimers i c t) :=
  steps_foldl _ (fun u x hu => steps_ite (fun hr => hu.act (.again x u hr)) fun _ => hu) h

theorem steps_writeValues (o : Object) (q : Req) (h : Steps (Raw c) s t) : Steps (Raw c) s (writeValues o q t).1 := by
  cases o with
  | service =>
    dsimp only [writeValues, writeServiceTable]
    split
    · exact h.large (.staged _ t.relay.groupsStaged t)
    · exact h
  | groups =>
    dsimp only [writeValues, writeGroupTable]
    split
    · exact h.large (.staged t.relay.serviceStaged _ t)
    · exact h
  | lines =>
    dsimp only [writeValues, writeLineTable]
    split
    · split_ifs
      · exact steps_applyLines raw_proofs raw_relines _ _ h
      · exact h
    · exact h
  | generalOut =>
    dsimp only [writeValues, writeOutputs]
    split_ifs
    · exact steps_foldl _ (fun _ _ hu => hu.large (.lines _ _)) h
    · exact h
  | doorInhibit =>
    dsimp only [writeValues, writeInhibits]
    split_ifs
    · refine steps_foldl _ (fun u x hu => ?_) h
      have h1 := steps_setSide (sideAt x.2) { u.side (sideAt x.2) with localInhibit := isOne x.1 } rfl hu
      exact steps_ite (fun _ => steps_closeReleased _ h1) fun _ => h1
    · exact h
  | coachDescriptor =>
    dsimp only [writeValues, writeDescriptor]
    split
    · exact steps_setDescriptor _ _ h
    · exact h
  | heatProfile =>
    dsimp only [writeValues, writeProfile]
    split_ifs
    · exact h.large (.profile _ t)
    · exact h
  | heatSettings =>
    refine steps_heatSettingsTaken (steps_foldl _ (fun u x hu => ?_) h)
    exact steps_ite
      (fun _ => steps_heatSettings u.heat.writtenDemand (min 7 x.1.toNat) u.heat.fallbackStage u.heat.supplyLimit hu)
      fun _ => steps_heatSettings u.heat.writtenDemand u.heat.doorCap (min 7 x.1.toNat) u.heat.supplyLimit hu
  | heatDemand =>
    dsimp only [writeValues, writeDemand]
    split
    · exact steps_heatRefresh (steps_heatSettings _ t.heat.doorCap t.heat.fallbackStage t.heat.supplyLimit h)
    · exact h
  | supplyLimit =>
    dsimp only [writeValues, writeLimit]
    split
    · exact steps_heatSettings t.heat.writtenDemand t.heat.doorCap t.heat.fallbackStage _ h
    · exact h
  | timers => exact steps_rerunTimers _ _ (h.large (.timers _ t))
  | identity | status | consist | lineLevels | lineReport | faults => exact h

/-! ### Restart -/

theorem restartRelay_setQueues (p : Port) (x : Queues) (u : State) : restartRelay (u.setQueues p x) = restartRelay u := by
  cases p <;> rfl

theorem resetPort_setQueues (p q : Port) (x : Queues) (u : State) :
    resetPort q (u.setQueues p x) = (resetPort q u).setQueues p x := rfl

/-- R90, R102, R198: the relay unit and the management unit at a restart. -/
theorem steps_restartRelay {X : State → State → Prop} (h : Steps X s t) : Steps X s (restartRelay t) := by
  have h1 := (((h.act (.groups _)).act (.drained _)).act (.tapClear _)).act (.restartMark .none _)
  refine h1.act (.shrink ⟨Queues.empty, Queues.empty⟩ _ fun p l => ?_)
  cases p <;> cases l <;> exact Nat.zero_le _

/-- R23, R90, R102, R198: the segment controllers, the relay unit and the management unit at a restart. -/
theorem steps_restartLink {X : State → State → Prop} (h : Steps X s t) :
    Steps X s (restartRelay (restartPorts t)) := by
  have hport : ∀ p u, Steps X s u → Steps X s ((resetPort p u).setQueues p Queues.empty) := by
    intro p u hu
    have h1 := (steps_stop (.t1 p) hu).act (.leave p { u.port p with
      link := .down, arrival := 0, score := 0, rx := .betweenFrames, assembly := [], tx := .idle
      probeDue := true } _ (by simp))
    have h2 := steps_start (u := .t0 p) trivial h1
    have he : (resetPort p u).setQueues p Queues.empty = startTimer (.t0 p)
        (((stopTimer (.t1 p) u).setPort p { u.port p with
          link := .down, arrival := 0, score := 0, rx := .betweenFrames, assembly := [], tx := .idle
          probeDue := true }).setQueues p Queues.empty) := by
      cases p <;> rfl
    rw [he]
    exact h2
  have h1 := steps_restartRelay (hport .e2 _ (hport .e1 _ (h.act (.holdoff false t))))
  rw [restartRelay_setQueues, resetPort_setQueues, restartRelay_setQueues] at h1
  exact h1

theorem steps_restartConsist {X : State → State → Prop} (h : Steps X s t) : Steps X s (restartConsist t) :=
  steps_consistRecords (steps_enterUninaugurated h) rfl

/-- R173: the heat unit at a restart. -/
theorem steps_restartHeat {X : State → State → Prop} (h : Steps X s t) : Steps X s (restartHeat t) := by
  refine steps_judgeFeedback (steps_heat ?_ (steps_stopTimers [.t11, .t12, .t13, .t14] h))
  exact { profile := rfl, written := rfl, cap := rfl, stage := rfl, limit := rfl, applied := Nat.zero_le _
          out := .inl rfl, settled := .inr ⟨fun _ => rfl, fun _ => rfl⟩
          safe := fun _ => ⟨Nat.zero_le _, fun _ => Nat.zero_le _, fun _ => rfl⟩
          capped := fun _ => ⟨fun _ => Nat.zero_le _, fun _ => rfl⟩ }

theorem steps_restartNode {X : State → State → Prop} (hX : Proofs X) (hL : Relines X) (levels : Levels) (h : Steps X s t) :
    Steps X s (restartNode levels t) :=
  steps_evaluateRole (steps_restartHeat (steps_restartConsist (steps_restartDoors hX
    ((steps_restartLink h).large (hL _ _)))))

end Runs

/-- Every larger change is a run of acts and of such parts. -/
theorem large_raw {c : Instr} {s t : State} (h : Large c s t) : Steps (Raw c) s t := by
  have h0 : Steps (Raw c) s s := .refl s
  cases h with
  | up p _ hs hu => exact steps_portReport _ _ (h0.large (.rise p _ s hs rfl))
  | summary x _ hc hm => exact h0.large (.summary _ s hm hc)
  | grant n _ hc =>
    have h1 := h0.large (.grant (s.cappedGrant n) s hc)
    rcases setApplied_cases (s.cappedGrant n) s with he | he | he <;> rw [he]
    · exact h1
    · exact steps_start trivial h1
    · exact steps_stop _ h1
  | edge n _ hd => exact steps_takeEdge raw_proofs raw_relines _ h0
  | sample levels _ => exact steps_sampleLines raw_proofs raw_relines levels h0
  | write o q _ hs hi => exact steps_writeValues o q h0
  | restart levels _ => exact steps_restartNode raw_proofs raw_relines levels h0
  | powerOn _ hc => exact h0.large (.powerOn s hc)
  | startCheck pass _ hc hn => exact h0.large (.bypass _ s (by cases pass <;> simp) (by cases pass <;> rfl) (.inl (hc ▸ rfl)))
  | portStart _ hs => exact h0.large (.portStart s hs)
  | withdrawing _ hc => exact h0.large (.bypass _ s (by simp) rfl (.inr ⟨rfl, hc⟩))
  | withdrawEnd _ hc =>
    have hport : ∀ p u, Steps (Raw c) s u → Steps (Raw c) s (withdrawnPort p u) := fun p u hu =>
      (steps_stop (.t1 p) hu).act (.leave p { u.port p with
        link := .down, arrival := 0, score := 0, rx := .betweenFrames, assembly := [], tx := .idle } _ (by simp))
    exact hport _ _ (hport _ _ (h0.large (.bypass _ s (by simp) rfl (.inl (hc ▸ rfl)))))

/-- Every command is a run of acts and of such parts. -/
theorem exec_raw {c : Instr} {s t : State} (he : exec c s = .next t) : Steps (Raw c) s t :=
  (exec_steps he).mono fun _ _ => large_raw

end Sys2Proof.Machine
end

section
/-! What every command keeps: the conditions of Safety.lean that look at no line, proof or setting, act by act. -/

namespace Sys2Proof.Machine

open Sys2Proof

/-- A condition that every act and every part of a larger change keeps is kept by every command. -/
theorem exec_keeps {c : Instr} {P : State → Prop} (ha : ∀ s t, Act s t → P s → P t)
    (hr : ∀ s t, Raw c s t → P s → P t) {s t : State} (he : exec c s = .next t) (h : P s) : P t := (exec_raw he).keeps ha hr h

/-! ### Which acts touch what -/

section Frames

variable {s t : State}

/-- The consist record changes by its own act alone. -/
theorem Act.consist_cases (a : Act s t) : t.consist = s.consist ∨ ∃ y, ConsistMove s y ∧ t = s.setConsist y := by
  cases a with
  | consist y _ hm => exact .inr ⟨y, hm, rfl⟩
  | release d _ _ _ => exact .inl (by simp [setDoorState])
  | _ => exact .inl rfl

@[simp] theorem count_advanceTimers (u : TimerId) (s : State) : (advanceTimers s).count u = countDown (s.count u) := by
  cases u with
  | t0 p => cases p <;> rfl
  | t1 p => cases p <;> rfl
  | t10 d => cases d <;> rfl
  | _ => rfl

theorem count_stopped (u : TimerId) : Counts.stopped.get u = none := by
  cases u with
  | t0 p => cases p <;> rfl
  | t1 p => cases p <;> rfl
  | t10 d => cases d <;> rfl
  | _ => rfl

/-- R178: a stopped timer starts only where it may, T15 with a drain. -/
theorem Act.count_none (a : Act s t) {u : TimerId} (h : s.count u = none) :
    t.count u = none ∨ s.mayRun u ∨ u = .t15 ∧ t.relay.draining = true := by
  cases a with
  | stop v _ =>
    by_cases hu : u = v
    · exact .inl (by simp [hu])
    · exact .inl ((count_stopTimer_ne hu s).trans h)
  | again v _ hr =>
    by_cases hu : u = v
    · subst hu
      simp [State.Runs, h] at hr
    · exact .inl ((count_startTimer_ne hu s).trans h)
  | start v _ hm =>
    by_cases hu : u = v
    · exact .inr (.inl (hu ▸ hm))
    · exact .inl ((count_startTimer_ne hu s).trans h)
  | advance => exact .inl (by simp [h, countDown])
  | halt => exact .inl (count_stopped u)
  | drain tag _ =>
    by_cases hu : u = .t15
    · exact .inr (.inr ⟨hu, rfl⟩)
    · exact .inl ((count_startTimer_ne hu _).trans h)
  | drained _ =>
    by_cases hu : u = .t15
    · subst hu
      exact .inl rfl
    · exact .inl ((count_stopTimer_ne hu _).trans h)
  | release d _ _ _ =>
    by_cases h14 : u = .t14
    · exact .inr (.inl (by rw [h14]; trivial))
    · left
      rw [count_heatRefresh h14]
      by_cases hu : u = .t10 d
      · simp [hu]
      · exact (count_stopTimer_ne hu _).trans h
  | _ => exact .inl h

/-- R141, R157: a timer that only a STABLE master starts. -/
theorem Act.walkCounts (a : Act s t) (hm : s.stableMaster = false)
    (h : s.count .t7 = none ∧ s.count .t8 = none ∧ s.count .t11 = none ∧ s.count .t12 = none) :
    t.count .t7 = none ∧ t.count .t8 = none ∧ t.count .t11 = none ∧ t.count .t12 = none := by
  obtain ⟨h7, h8, h11, h12⟩ := h
  have hq : ∀ {u}, s.count u = none → u ≠ .t15 → ¬s.mayRun u → t.count u = none := fun hu hne hr =>
    (a.count_none hu).elim id fun hx => hx.elim (fun hx => absurd hx hr) fun hx => absurd hx.1 hne
  exact ⟨hq h7 (by decide) (by simp [State.mayRun, hm]), hq h8 (by decide) (by simp [State.mayRun, hm]),
    hq h11 (by decide) (by simp [State.mayRun, hm]), hq h12 (by decide) (by simp [State.mayRun, hm])⟩

end Frames

/-! ### The queue of commands and the identity -/

theorem act_pending (l : List Instr) (i : Identity) (s t : State) (a : Act s t)
    (h : s.pending = l ∧ s.identity = i) : t.pending = l ∧ t.identity = i := by
  cases a with
  | release d _ _ _ => simpa [setDoorState] using h
  | _ => exact h

theorem raw_pending {c : Instr} (l : List Instr) (i : Identity) (s t : State) (r : Raw c s t)
    (h : s.pending = l ∧ s.identity = i) : t.pending = l ∧ t.identity = i := by
  cases r with
  | _ => exact h

/-- Every command has an effect. -/
theorem exec_completes (c : Instr) (s : State) : ∃ t, exec c s = .next t := by
  cases c <;> exact ⟨_, rfl⟩

/-- Settles O2: the two cases of the queue. -/
theorem stepRunsFrontCommand : Obligations.StepRunsFrontCommand := by
  refine ⟨fun c l s => rfl, fun s h => ?_⟩
  unfold step
  rw [h]

/-- Settles O3: a step on an empty queue idles, and the front command of another queue has an effect that keeps the rest of
the queue and the identity, as every act does. -/
theorem everyStepCompletes : Obligations.EveryStepCompletes := by
  intro s
  unfold step
  cases hp : s.pending with
  | nil => exact ⟨s, rfl, hp, rfl⟩
  | cons c l =>
    obtain ⟨t, ht⟩ := exec_completes c (s.setPending l)
    exact ⟨t, ht, exec_keeps (act_pending l s.identity) (raw_pending l s.identity) ht ⟨rfl, rfl⟩⟩

/-! ### Queues (R83, R84, R92) -/

theorem queuesSafe_iff (s : State) : s.QueuesSafe ↔
    (∀ p l, ((s.queues p).get l).length ≤ l.capacity) ∧ (∀ p, s.DownEmpty p) ∧ s.StartedUp := by
  constructor
  · rintro ⟨⟨h1, h2, h3⟩, ⟨h4, h5, h6⟩, hd1, hd2, hs⟩
    refine ⟨fun p l => ?_, fun p => ?_, hs⟩
    · cases p <;> cases l <;> assumption
    · cases p <;> assumption
  · rintro ⟨hb, hd, hs⟩
    exact ⟨⟨hb .e1 .urgent, hb .e1 .control, hb .e1 .bulk⟩, ⟨hb .e2 .urgent, hb .e2 .control, hb .e2 .bulk⟩,
      hd .e1, hd .e2, hs⟩

theorem queues_eq_empty {x : Queues} (h : ∀ l, (x.get l).length ≤ 0) : x = Queues.empty := by
  obtain ⟨u, c, b⟩ := x
  have h1 := h .urgent
  have h2 := h .control
  have h3 := h .bulk
  simp only [Queues.get, Nat.le_zero, List.length_eq_zero_iff] at h1 h2 h3
  rw [h1, h2, h3]
  rfl

theorem isUp_setPort_same (p : Port) (x : PortState) (s : State) : (s.setPort p x).isUp p = (x.link == .up) := by
  simp [State.isUp]

theorem isUp_setPort_ne {p q : Port} (h : q ≠ p) (x : PortState) (s : State) : (s.setPort p x).isUp q = s.isUp q := by
  cases p <;> cases q <;> first | rfl | exact absurd rfl h

theorem queues_setQueues_ne {p q : Port} (h : q ≠ p) (x : Queues) (s : State) :
    (s.setQueues p x).queues q = s.queues q := by
  cases p <;> cases q <;> first | rfl | exact absurd rfl h

theorem get_set_queues_ne {l m : Level} (h : m ≠ l) (x : Queues) (v : List Queued) :
    (x.set l v).get m = x.get m := by
  cases l <;> cases m <;> first | rfl | exact absurd rfl h

/-- A port that is not UP before the ports are started. -/
theorem startedUp_of_down {s t : State} (h : s.StartedUp) (hb : t.bypass.started = s.bypass.started)
    (hu : ∀ p, t.isUp p = true → s.isUp p = true) : t.StartedUp := by
  have hd : ∀ p, s.isUp p = false → t.isUp p = false := fun p hp => by
    cases ht : t.isUp p with
    | false => rfl
    | true => simp [hu p ht] at hp
  rcases h with h | ⟨h1, h2⟩
  · exact .inl (hb.trans h)
  · exact .inr ⟨hd _ h1, hd _ h2⟩

theorem act_queuesSafe (s t : State) (a : Act s t) (h : s.QueuesSafe) : t.QueuesSafe := by
  rw [queuesSafe_iff] at h ⊢
  obtain ⟨hb, hd, hs⟩ := h
  cases a with
  | queue p l q _ hu hr =>
    have hlt : ((s.queues p).get l).length < l.capacity := by simpa [State.hasRoom] using hr
    refine ⟨fun r m => ?_, fun r => ?_, hs⟩
    · by_cases hrp : r = p
      · subst hrp
        by_cases hm : m = l
        · subst hm
          simp only [appendQueue, State.queues_setQueues, Queues.get_set, List.length_append, List.length_singleton]
          exact hlt
        · simp only [appendQueue, State.queues_setQueues, get_set_queues_ne hm]
          exact hb r m
      · simp only [appendQueue, queues_setQueues_ne hrp]
        exact hb r m
    · by_cases hrp : r = p
      · exact .inl (hrp ▸ hu)
      · have := hd r
        rwa [State.DownEmpty, appendQueue, State.isUp_setQueues, queues_setQueues_ne hrp]
  | shrink x _ hx =>
    refine ⟨fun p l => (hx p l).trans (hb p l), fun p => ?_, hs⟩
    refine (hd p).imp id fun he => queues_eq_empty fun l => (hx p l).trans ?_
    rw [he]
    cases l <;> exact le_rfl
  | port p x _ hx =>
    have hu : ∀ q, (s.setPort p x).isUp q = s.isUp q := fun q => by
      by_cases hq : q = p
      · rw [hq, isUp_setPort_same, hx]
      · exact isUp_setPort_ne hq x s
    refine ⟨hb, fun q => (hd q).imp (fun hq => (hu q).trans hq) id, ?_⟩
    exact startedUp_of_down hs rfl fun q hq => (hu q).symm.trans hq
  | leave p x _ hx =>
    refine ⟨fun q l => ?_, fun q => ?_, startedUp_of_down hs rfl fun q hq => ?_⟩
    · by_cases hq : q = p
      · rw [hq, State.queues_setQueues]
        cases l <;> exact Nat.zero_le _
      · rw [queues_setQueues_ne hq]
        exact hb q l
    · by_cases hq : q = p
      · rw [hq]
        exact .inr (State.queues_setQueues ..)
      · have := hd q
        rwa [State.DownEmpty, State.isUp_setQueues, isUp_setPort_ne hq, queues_setQueues_ne hq]
    · by_cases hqp : q = p
      · rw [hqp, State.isUp_setQueues, isUp_setPort_same] at hq
        simp [hx] at hq
      · rwa [State.isUp_setQueues, isUp_setPort_ne hqp] at hq
  | release d _ _ _ =>
    refine ⟨fun p l => ?_, fun p => ?_, ?_⟩
    · simpa [State.queues, setDoorState] using hb p l
    · simpa [State.DownEmpty, State.queues, State.isUp, State.port, setDoorState] using hd p
    · simpa [State.StartedUp, State.isUp, State.port, setDoorState] using hs
  | _ => exact ⟨hb, hd, hs⟩

theorem raw_queuesSafe {c : Instr} (s t : State) (r : Raw c s t) (h : s.QueuesSafe) : t.QueuesSafe := by
  rw [queuesSafe_iff] at h ⊢
  obtain ⟨hb, hd, hs⟩ := h
  cases r with
  | rise p x _ hst hx =>
    refine ⟨hb, fun q => ?_, .inl hst⟩
    by_cases hq : q = p
    · exact .inl (by rw [hq, isUp_setPort_same, hx]; rfl)
    · have := hd q
      rwa [State.DownEmpty, isUp_setPort_ne hq]
  | bypass y _ _ hy _ => exact ⟨hb, hd, hs.imp hy.trans id⟩
  | portStart _ hst =>
    have hu := hs.resolve_left (by simp [hst])
    refine ⟨hb, fun p => .inr ?_, .inl rfl⟩
    refine (hd p).resolve_left ?_
    cases p
    · simp [hu.1]
    · simp [hu.2]
  | powerOn _ _ => exact ⟨fun p l => by cases p <;> cases l <;> exact Nat.zero_le _, fun p => .inr (by cases p <;> rfl), .inr ⟨rfl, rfl⟩⟩
  | _ => exact ⟨hb, hd, hs⟩

theorem ordinary_append (l : List Frame) (f : Frame) :
    ordinary (l ++ [f]) = if Body.urgent f.body then ordinary l else ordinary l ++ [f] := by
  unfold ordinary
  rw [List.filter_append]
  cases h : Body.urgent f.body <;> simp [h]

theorem act_tapSafe (s t : State) (a : Act s t) (h : s.TapSafe) : t.TapSafe := by
  obtain ⟨hl, ho, hh, hn⟩ := h
  cases a with
  | tap f _ hf =>
    have hord : (ordinary s.relay.tapQueue).length ≤ s.relay.tapQueue.length := List.length_filter_le _ _
    refine ⟨?_, ?_, fun _ => by simp, hn⟩
    · simp only [State.tapQueue_setTapQueue, List.length_append, List.length_singleton]
      unfold tapLimit at hf
      split_ifs at hf <;> omega
    · simp only [State.tapQueue_setTapQueue, ordinary_append]
      unfold tapLimit at hf
      split_ifs at hf ⊢
      · exact ho
      · simp only [List.length_append, List.length_singleton]
        omega
  | tapServe _ hns => exact ⟨hl, ho, fun hx => by simpa using hx, fun _ _ => hns⟩
  | tapRefuse _ => exact ⟨hl, ho, fun hx => by simp at hx, fun b hx => by simp at hx⟩
  | tapEnd done _ =>
    have ht : ∀ b : Bool, (if b then s.relay.tapQueue.tail else s.relay.tapQueue).length ≤ 16
        ∧ (ordinary (if b then s.relay.tapQueue.tail else s.relay.tapQueue)).length ≤ 12 := by
      have hsub := List.tail_sublist s.relay.tapQueue
      intro b
      cases b
      · exact ⟨hl, ho⟩
      · exact ⟨hsub.length_le.trans hl, (hsub.filter _).length_le.trans ho⟩
    exact ⟨(ht _).1, (ht _).2, fun hx => by simp [endExchange] at hx, fun b hx => by simp [endExchange] at hx⟩
  | tapUnserved _ => exact ⟨hl, ho, fun hx => by simp at hx, fun b hx => by simp at hx⟩
  | tapClear _ =>
    refine ⟨Nat.zero_le _, Nat.zero_le _, fun hx => ?_, fun b hx => ?_⟩ <;>
      cases hsel : s.relay.select with
      | serving b' => first | exact hn b' hsel | simp [hsel, TapSelect.emptied] at hx
      | _ => simp [hsel, TapSelect.emptied] at hx
  | release d _ _ _ =>
    have hr : (heatRefresh (stopTimer (.t10 d) (setDoorState d .released s))).relay = s.relay := by simp [setDoorState]
    have hb : (heatRefresh (stopTimer (.t10 d) (setDoorState d .released s))).bypass = s.bypass := by simp [setDoorState]
    unfold State.TapSafe
    rw [hr, hb]
    exact ⟨hl, ho, hh, hn⟩
  | _ => exact ⟨hl, ho, hh, hn⟩

theorem raw_tapSafe {c : Instr} (s t : State) (r : Raw c s t) (h : s.TapSafe) : t.TapSafe := by
  obtain ⟨hl, ho, hh, hn⟩ := h
  cases r with
  | bypass y _ hy _ _ => exact ⟨hl, ho, hh, fun _ _ => hy⟩
  | powerOn _ _ =>
    refine ⟨Nat.zero_le _, Nat.zero_le _, fun hx => ?_, fun b hx => ?_⟩ <;>
      cases hs : s.relay.select <;> simp [poweredOn, hs, TapSelect.cutOff] at hx
  | _ => exact ⟨hl, ho, hh, hn⟩

/-! ### Drains (R88, R191) -/

theorem drainSafe_iff (s : State) : s.DrainSafe ↔
    s.relay.draining = true ∧ s.mgmt.commit.isSome = true
      ∨ s.relay.draining = false ∧ s.count .t15 = none ∧ s.mgmt.commit = none := by
  unfold State.DrainSafe
  cases s.relay.draining <;> simp

theorem act_drainSafe (s t : State) (a : Act s t) (h : s.DrainSafe) : t.DrainSafe := by
  rw [drainSafe_iff] at h ⊢
  have hc : t.relay.draining = s.relay.draining ∧ t.mgmt.commit = s.mgmt.commit
      ∨ t.relay.draining = true ∧ t.mgmt.commit.isSome = true
      ∨ t.relay.draining = false ∧ t.count .t15 = none ∧ t.mgmt.commit = none := by
    cases a with
    | drain tag _ => exact .inr (.inl ⟨rfl, rfl⟩)
    | drained _ => exact .inr (.inr ⟨rfl, rfl, rfl⟩)
    | release d _ _ _ => exact .inl (by simp [setDoorState])
    | _ => exact .inl ⟨rfl, rfl⟩
  rcases hc with ⟨hd, hk⟩ | hc
  · rcases h with ⟨h1, h2⟩ | ⟨h1, h2, h3⟩
    · exact .inl ⟨hd.trans h1, by rw [hk, h2]⟩
    · refine .inr ⟨hd.trans h1, ?_, hk.trans h3⟩
      rcases a.count_none h2 with hn | hr | ⟨-, hr⟩
      · exact hn
      · exact hr.elim
      · simp [hd, h1] at hr
  · exact hc

theorem raw_drainSafe {c : Instr} (s t : State) (r : Raw c s t) (h : s.DrainSafe) : t.DrainSafe := by
  cases r with
  | powerOn _ _ => exact ⟨rfl, rfl⟩
  | _ => exact h

/-- Settles O59: each of the three conditions act by act. -/
theorem queuesStayBounded : Obligations.QueuesStayBounded := fun _ _ _ he =>
  ⟨exec_keeps act_queuesSafe raw_queuesSafe he, exec_keeps act_tapSafe raw_tapSafe he,
    exec_keeps act_drainSafe raw_drainSafe he⟩

end Sys2Proof.Machine
end

section
/-! The lines: what a function shows after one line, several lines or all lines change. -/

namespace Sys2Proof.Machine

open Sys2Proof

/-! ### Lists -/

theorem getD_set_same {α : Type} (l : List α) {n : Nat} (x d : α) (h : n < l.length) : (l.set n x).getD n d = x := by
  simp [List.getD, h]

theorem getD_set_ne {α : Type} (l : List α) {n m : Nat} (x d : α) (h : m ≠ n) :
    (l.set n x).getD m d = l.getD m d := by
  simp [List.getD, List.getElem?_set_ne (Ne.symm h)]

/-! ### One line -/

section One

variable (s : State)

@[simp] theorem length_setLine (n : Nat) (x : LineRecord) :
    (s.setLine n x).lines.line.length = s.lines.line.length := by
  simp [State.setLine]

@[simp] theorem firstSample_setLine (n : Nat) (x : LineRecord) :
    (s.setLine n x).lines.firstSample = s.lines.firstSample := rfl

theorem lineAt_setLine_same {n : Nat} (x : LineRecord) (h : n < s.lines.line.length) :
    (s.setLine n x).lineAt n = x := getD_set_same _ _ _ h

theorem lineAt_setLine_ne {n m : Nat} (x : LineRecord) (h : m ≠ n) : (s.setLine n x).lineAt m = s.lineAt m :=
  getD_set_ne _ _ _ h

/-- A line of the table, and no line beyond it, may carry a function. -/
theorem present_iff {f : LineFunction} (hf : f ≠ .none) :
    s.present f = true ↔ ∃ n, (s.lineAt n).entry.function = f := by
  simp only [State.present, State.lineAt, List.any_eq_true, beq_iff_eq]
  constructor
  · rintro ⟨l, hl, h⟩
    obtain ⟨n, hn, rfl⟩ := List.getElem_of_mem hl
    exact ⟨n, by simpa [List.getD, hn] using h⟩
  · rintro ⟨n, h⟩
    by_cases hn : n < s.lines.line.length
    · exact ⟨_, List.getElem_mem hn, by simpa [List.getD, hn] using h⟩
    · exact absurd (by simpa [List.getD, hn, LineRecord.powerOn] using h.symm) hf

theorem asserted_iff (f : LineFunction) :
    s.asserted f = true ↔ ∃ n, (s.lineAt n).entry.function = f ∧ (s.lineAt n).qualified = true := by
  simp only [State.asserted, State.lineAt, List.any_eq_true, Bool.and_eq_true, beq_iff_eq]
  constructor
  · rintro ⟨l, hl, h⟩
    obtain ⟨n, hn, rfl⟩ := List.getElem_of_mem hl
    exact ⟨n, by simpa [List.getD, hn] using h⟩
  · rintro ⟨n, h⟩
    by_cases hn : n < s.lines.line.length
    · exact ⟨_, List.getElem_mem hn, by simpa [List.getD, hn] using h⟩
    · exact absurd h.2 (by simp [List.getD, hn, LineRecord.powerOn])

end One

/-- What a function shows in two states is the same. -/
def SameShown (s t : State) (f : LineFunction) : Prop := t.present f = s.present f ∧ t.asserted f = s.asserted f

/-- Two line records show the same to a function: neither carries it, or both carry it at one level. -/
def LineRecord.ShowsAs (x l : LineRecord) (f : LineFunction) : Prop :=
  (x.entry.function = f ↔ l.entry.function = f) ∧ (x.entry.function = f → x.qualified = l.qualified)

theorem showsAs_of_ne {x l : LineRecord} {f : LineFunction} (hx : x.entry.function ≠ f) (hl : l.entry.function ≠ f) :
    x.ShowsAs l f := ⟨⟨fun h => absurd h hx, fun h => absurd h hl⟩, fun h => absurd h hx⟩

theorem showsAs_of_same {x l : LineRecord} (hx : x.entry.function = l.entry.function)
    (hq : x.qualified = l.qualified) (f : LineFunction) : x.ShowsAs l f := ⟨by rw [hx], fun _ => hq⟩

section Shown

variable {s t : State} {f : LineFunction}

theorem SameShown.symm (h : SameShown s t f) : SameShown t s f := ⟨h.1.symm, h.2.symm⟩

theorem SameShown.trans {u : State} (h : SameShown s t f) (k : SameShown t u f) : SameShown s u f :=
  ⟨k.1.trans h.1, k.2.trans h.2⟩

theorem sameShown_of_lines (h : t.lines = s.lines) (f : LineFunction) : SameShown s t f := by
  simp only [SameShown, State.present, State.asserted, h, and_self]

/-- Lines that show the same one by one show the same together. -/
theorem sameShown_of_lineAt (hf : f ≠ .none) (h : ∀ n, (t.lineAt n).ShowsAs (s.lineAt n) f) : SameShown s t f := by
  constructor <;> rw [Bool.eq_iff_iff]
  · rw [present_iff _ hf, present_iff _ hf]
    exact exists_congr fun n => (h n).1
  · rw [asserted_iff, asserted_iff]
    refine exists_congr fun n => ?_
    constructor
    · rintro ⟨hx, hq⟩
      exact ⟨(h n).1.mp hx, ((h n).2 hx).symm.trans hq⟩
    · rintro ⟨hx, hq⟩
      have hx' := (h n).1.mpr hx
      exact ⟨hx', ((h n).2 hx').trans hq⟩

theorem sameShown_setLine {n : Nat} {x : LineRecord} (hf : f ≠ .none) (h : x.ShowsAs (s.lineAt n) f) :
    SameShown s (s.setLine n x) f := by
  refine sameShown_of_lineAt hf fun m => ?_
  by_cases hm : m = n
  · subst hm
    by_cases hl : m < s.lines.line.length
    · rwa [lineAt_setLine_same s x hl]
    · rw [State.setLine, List.set_eq_of_length_le (not_lt.mp hl)]
      exact showsAs_of_same rfl rfl f
  · rw [lineAt_setLine_ne s x hm]
    exact showsAs_of_same rfl rfl f

/-- No line is qualified asserted with a function that was not. -/
theorem asserted_mono (h : ∀ n, (t.lineAt n).qualified = true →
      (s.lineAt n).qualified = true ∧ (s.lineAt n).entry.function = (t.lineAt n).entry.function)
    (ha : t.asserted f = true) : s.asserted f = true := by
  rw [asserted_iff] at ha ⊢
  obtain ⟨n, hx, hq⟩ := ha
  exact ⟨n, (h n hq).2.trans hx, (h n hq).1⟩

end Shown

/-! ### All lines -/

/-- A change of every line by its own record. -/
theorem lineAt_map (g : LineRecord → LineRecord) (s : State) {n : Nat} (h : n < s.lines.line.length) :
    (s.setLines { s.lines with line := s.lines.line.map g }).lineAt n = g (s.lineAt n) := by
  simp [State.lineAt, List.getD, h]

theorem lineAt_of_le {s : State} {n : Nat} (h : s.lines.line.length ≤ n) : s.lineAt n = LineRecord.powerOn := by
  simp [State.lineAt, List.getD, h]

theorem sameShown_map {g : LineRecord → LineRecord} (s : State)
    (hg : ∀ l, (g l).entry.function = l.entry.function ∧ (g l).qualified = l.qualified) (f : LineFunction) :
    SameShown s (s.setLines { s.lines with line := s.lines.line.map g }) f := by
  simp [SameShown, State.present, State.asserted, List.any_map, Function.comp_def, hg]

theorem length_sampleAll (g : Bool → LineRecord → LineRecord) (levels : Levels) (l : List LineRecord) :
    (sampleAll g levels l).length = l.length := by
  simp [sampleAll]

theorem lineAt_sampleAll (g : Bool → LineRecord → LineRecord) (levels : Levels) (b : Bool) (s : State) {n : Nat}
    (h : n < s.lines.line.length) :
    (s.setLines ⟨sampleAll g levels s.lines.line, b⟩).lineAt n = g (levels.getLsbD n) (s.lineAt n) := by
  simp [State.lineAt, sampleAll, List.getD, h]

theorem lineAt_sampleAll_of_le (g : Bool → LineRecord → LineRecord) (levels : Levels) (b : Bool) (s : State) {n : Nat}
    (h : s.lines.line.length ≤ n) : (s.setLines ⟨sampleAll g levels s.lines.line, b⟩).lineAt n = s.lineAt n := by
  simp [State.lineAt, sampleAll, List.getD, h]

/-! ### A write of several lines -/

section Write

variable (g : LineEntry → LineRecord → LineRecord)

theorem writeLinesAt_cons (i : Nat) (e : LineEntry) (l : List LineEntry) (s : State) :
    writeLinesAt g i (e :: l) s = writeLinesAt g (i + 1) l (s.setLine i (g e (s.lineAt i))) := by
  simp [writeLinesAt, List.zipIdx_cons]

/-- A write changes nothing but the lines. -/
theorem writeLinesAt_eq (i : Nat) (l : List LineEntry) (s : State) :
    writeLinesAt g i l s = s.setLines { s.lines with line := (writeLinesAt g i l s).lines.line }
      ∧ (writeLinesAt g i l s).lines.line.length = s.lines.line.length := by
  induction l generalizing i s with
  | nil => exact ⟨rfl, rfl⟩
  | cons e l ih =>
    rw [writeLinesAt_cons]
    obtain ⟨h1, h2⟩ := ih (i + 1) (s.setLine i (g e (s.lineAt i)))
    exact ⟨by rw [h1]; rfl, h2.trans (length_setLine ..)⟩

/-- R105: each line that a write reaches changes by its own entry, and every other line stays. -/
theorem lineAt_writeLinesAt (i : Nat) (l : List LineEntry) (s : State) (n : Nat) :
    (writeLinesAt g i l s).lineAt n = if i ≤ n ∧ n < s.lines.line.length then
        (match l[n - i]? with | some e => g e (s.lineAt n) | none => s.lineAt n)
      else s.lineAt n := by
  induction l generalizing i s with
  | nil => simp [writeLinesAt]
  | cons e l ih =>
    rw [writeLinesAt_cons, ih, length_setLine]
    by_cases hlen : n < s.lines.line.length
    · by_cases hn : n = i
      · subst hn
        simp [lineAt_setLine_same s _ hlen, hlen]
      · rw [lineAt_setLine_ne s _ hn]
        by_cases hle : i ≤ n
        · have hsub : n - i = (n - (i + 1)) + 1 := by omega
          simp [hle, hsub, show i + 1 ≤ n by omega]
        · simp [hle, show ¬i + 1 ≤ n by omega]
    · simp only [hlen, and_false, if_false]
      rw [lineAt_of_le (by simpa using hlen), lineAt_of_le (not_lt.mp hlen)]

end Write

/-- The lines a write replaces, and with which entry. -/
theorem mem_removedFunctions {i : Nat} {l : List LineEntry} {s : State} {f : LineFunction} :
    f ∈ s.removedFunctions i l ↔ ∃ n e, i ≤ n ∧ l[n - i]? = some e ∧ (s.lineAt n).replacedBy e = true
      ∧ (s.lineAt n).entry.function = f := by
  simp only [State.removedFunctions, List.mem_filterMap, Prod.exists, List.mem_zipIdx_iff_le_and_getElem?_sub]
  constructor
  · rintro ⟨e, n, ⟨hn, he⟩, h⟩
    split_ifs at h with hr
    exact ⟨n, e, hn, he, hr, by simpa using h⟩
  · rintro ⟨n, e, hn, he, hr, h⟩
    exact ⟨e, n, ⟨hn, he⟩, by simp [hr, h]⟩

theorem mem_addedFunctions {i : Nat} {l : List LineEntry} {s : State} {f : LineFunction} :
    f ∈ s.addedFunctions i l ↔ ∃ n e, i ≤ n ∧ l[n - i]? = some e ∧ (s.lineAt n).replacedBy e = true
      ∧ e.function = f := by
  simp only [State.addedFunctions, List.mem_filterMap, Prod.exists, List.mem_zipIdx_iff_le_and_getElem?_sub]
  constructor
  · rintro ⟨e, n, ⟨hn, he⟩, h⟩
    split_ifs at h with hr
    exact ⟨n, e, hn, he, hr, by simpa using h⟩
  · rintro ⟨n, e, hn, he, hr, h⟩
    exact ⟨e, n, ⟨hn, he⟩, by simp [hr, h]⟩

theorem removed_of_replaced {e : LineEntry} {l : LineRecord} (h : l.replacedBy e = true) :
    l.removed e = l.cleared { e with function := .none } := by
  rw [LineRecord.removed, if_pos h]

/-- R105: a line that keeps its function and polarity keeps its level too. -/
theorem removed_of_kept {e : LineEntry} {l : LineRecord} (h : l.replacedBy e = false) :
    (l.removed e).entry = e ∧ (l.removed e).entry.function = l.entry.function
      ∧ (l.removed e).entry.polarity = l.entry.polarity ∧ (l.removed e).qualified = l.qualified
      ∧ (l.removed e).generalOut = l.generalOut := by
  simp only [LineRecord.replacedBy, Bool.or_eq_false_iff, bne_eq_false_iff_eq] at h
  obtain ⟨hf, hp⟩ := h
  have hn : ¬l.replacedBy e = true := by simp [LineRecord.replacedBy, hf, hp]
  rw [LineRecord.removed, if_neg hn]
  unfold LineRecord.setArming LineRecord.setDebounce
  obtain ⟨f, p, d, a⟩ := e
  obtain ⟨⟨f', p', d', a'⟩, _⟩ := l
  dsimp only at hf hp ⊢
  subst hf hp
  split_ifs <;> simp_all

/-- R105: a function that the removals leave shows what it showed. -/
theorem sameShown_removed {i : Nat} {l : List LineEntry} {s : State} {f : LineFunction} (hf : f ≠ .none)
    (hr : f ∉ s.removedFunctions i l) :
    SameShown s (writeLinesAt LineRecord.removed i l s) f := by
  refine sameShown_of_lineAt hf fun n => ?_
  rw [lineAt_writeLinesAt]
  have hsame := showsAs_of_same (x := s.lineAt n) rfl rfl f
  split_ifs with hn
  · split
    · rename_i e he
      cases hrep : (s.lineAt n).replacedBy e with
      | false =>
        obtain ⟨-, hfun, -, hq, -⟩ := removed_of_kept hrep
        exact showsAs_of_same hfun hq f
      | true =>
        rw [removed_of_replaced hrep]
        exact showsAs_of_ne (Ne.symm hf) fun hx => hr (mem_removedFunctions.mpr ⟨n, e, hn.1, he, hrep, hx⟩)
    · exact hsame
  · exact hsame

/-- R105: no line becomes asserted by a removal or an addition. -/
theorem asserted_removed {i : Nat} {l : List LineEntry} {s : State} {f : LineFunction}
    (ha : (writeLinesAt LineRecord.removed i l s).asserted f = true) : s.asserted f = true := by
  refine asserted_mono (fun n => ?_) ha
  rw [lineAt_writeLinesAt]
  split_ifs
  · split
    · rename_i e _
      cases hrep : (s.lineAt n).replacedBy e with
      | false =>
        obtain ⟨-, hfun, -, hq, -⟩ := removed_of_kept hrep
        exact fun hx => ⟨hq ▸ hx, hfun.symm⟩
      | true =>
        rw [removed_of_replaced hrep]
        exact fun hx => Bool.noConfusion hx
    · exact fun hx => ⟨hx, rfl⟩
  · exact fun hx => ⟨hx, rfl⟩

/-- R105: the lines as the removals have left them: one whose function or polarity the write changes is cleared, and one
that keeps both has its entry. -/
def Removed (i : Nat) (l : List LineEntry) (s t : State) : Prop :=
  t.lines = (writeLinesAt LineRecord.removed i l s).lines

theorem lineAt_of_removed {i : Nat} {l : List LineEntry} {s t : State} (ht : Removed i l s t) (n : Nat) :
    t.lineAt n = (writeLinesAt LineRecord.removed i l s).lineAt n := by
  rw [State.lineAt, ht]
  rfl

theorem length_of_removed {i : Nat} {l : List LineEntry} {s t : State} (ht : Removed i l s t) :
    t.lines.line.length = s.lines.line.length := by
  rw [ht, (writeLinesAt_eq ..).2]

theorem setEntry_self {e : LineEntry} {l : LineRecord} (h : l.entry = e) : l.setEntry e = l := by
  subst h
  rfl

/-- R105: a line after the additions. -/
theorem lineAt_added {i : Nat} {l : List LineEntry} {s t : State} (ht : Removed i l s t) (n : Nat) :
    (writeLinesAt LineRecord.setEntry i l t).lineAt n =
      if i ≤ n ∧ n < s.lines.line.length then (match l[n - i]? with
        | some e => if (s.lineAt n).replacedBy e then (s.lineAt n).cleared e else (s.lineAt n).removed e
        | none => s.lineAt n) else s.lineAt n := by
  rw [lineAt_writeLinesAt, length_of_removed ht, lineAt_of_removed ht, lineAt_writeLinesAt]
  split_ifs with hn
  · split
    · rename_i e he
      dsimp only
      split_ifs with hrep
      · rw [removed_of_replaced hrep]
        rfl
      · exact setEntry_self (removed_of_kept (Bool.eq_false_iff.mpr hrep)).1
    · rfl
  · rfl

theorem sameShown_added {i : Nat} {l : List LineEntry} {s t : State} (ht : Removed i l s t) {f : LineFunction}
    (hf : f ≠ .none) (hr : f ∉ s.addedFunctions i l) :
    SameShown t (writeLinesAt LineRecord.setEntry i l t) f := by
  refine sameShown_of_lineAt hf fun n => ?_
  rw [lineAt_added ht, lineAt_of_removed ht, lineAt_writeLinesAt]
  split_ifs with hn
  · split
    · rename_i e he
      split_ifs with hrep
      · rw [removed_of_replaced hrep]
        exact showsAs_of_ne (fun hx => hr (mem_addedFunctions.mpr ⟨n, e, hn.1, he, hrep, hx⟩)) (Ne.symm hf)
      · exact showsAs_of_same rfl rfl f
    · exact showsAs_of_same rfl rfl f
  · exact showsAs_of_same rfl rfl f

theorem asserted_added {i : Nat} {l : List LineEntry} {s t : State} (ht : Removed i l s t) {f : LineFunction}
    (ha : (writeLinesAt LineRecord.setEntry i l t).asserted f = true) : t.asserted f = true := by
  refine asserted_mono (fun n => ?_) ha
  rw [lineAt_added ht, lineAt_of_removed ht, lineAt_writeLinesAt]
  split_ifs with hn
  · split
    · split_ifs
      · exact fun hx => Bool.noConfusion hx
      · exact fun hx => ⟨hx, rfl⟩
    · exact fun hx => ⟨hx, rfl⟩
  · exact fun hx => ⟨hx, rfl⟩

end Sys2Proof.Machine
end

section
/-! Every command keeps the interlock, the walk timers, the doors and the heat stage within their bounds. -/

namespace Sys2Proof.Machine

open Sys2Proof

/-! ### Release of a side -/

@[simp] theorem setDoorState_doorsClosed (d : Side) (x : DoorState) (s : State) :
    (setDoorState d x s).door.doorsClosed = s.door.doorsClosed := by
  cases d <;> rfl

@[simp] theorem setDoorState_outstanding (d : Side) (x : DoorState) (s : State) :
    (setDoorState d x s).door.outstanding = s.door.outstanding := by
  cases d <;> rfl

theorem side_setDoorState_same (d : Side) (x : DoorState) (s : State) :
    (setDoorState d x s).side d = { s.side d with state := x } := by
  cases d <;> rfl

theorem side_setDoorState_ne {d e : Side} (h : e ≠ d) (x : DoorState) (s : State) :
    (setDoorState d x s).side e = s.side e := State.side_setSide_ne s h _

/-- A change of a side's state leaves its proof, its inhibit flag and its alert hold-off. -/
theorem side_setDoorState (d e : Side) (x : DoorState) (s : State) :
    (setDoorState d x s).side e = { s.side e with state := if e = d then x else (s.side e).state } := by
  cases d <;> cases e <;> rfl

/-! ### Interlock and walk timers (R141, R148, R157) -/

theorem stableMaster_congr {s t : State} (h : t.consist = s.consist) : t.stableMaster = s.stableMaster := by
  simp only [State.stableMaster, State.isMaster, h]

/-- A walk that becomes outstanding does so at a STABLE master. -/
theorem out_none {n m : Option Nat} {b : Bool} (ho : n = none ∨ n = m ∨ b = true) (h : m = none) :
    b = true ∨ n = none := by
  rcases ho with hn | hn | hb
  · exact .inr hn
  · exact .inr (hn.trans h)
  · exact .inl hb

theorem act_interlockSafe (s t : State) (a : Act s t) (h : s.InterlockSafe) : t.InterlockSafe := by
  cases a with
  | door y _ hm =>
    refine h.elim .inl fun ⟨hc, ho, hh⟩ => (out_none hm.out ho).imp id fun hy => ⟨?_, hy, hh⟩
    exact Bool.eq_false_iff.mpr fun hx => by simp [hm.closed hx] at hc
  | heat y _ hm =>
    exact h.elim .inl fun ⟨hc, ho, hh⟩ => (out_none hm.out hh).imp id fun hy => ⟨hc, ho, hy⟩
  | consist y _ hm => exact hm.interlock h
  | side d x _ _ _ _ =>
    refine h.imp id fun hr => ?_
    simpa using hr
  | held d _ =>
    refine h.imp id fun hr => ?_
    cases d <;> exact hr
  | release d _ _ _ =>
    refine h.imp (fun hm => ?_) fun hr => ?_
    · exact (stableMaster_congr (by simp)).trans hm
    · simpa [heatRefresh_outstanding] using hr
  | _ => exact h

theorem raw_interlockSafe {c : Instr} (s t : State) (r : Raw c s t) (h : s.InterlockSafe) : t.InterlockSafe := by
  cases r with
  | summary b _ hm _ => exact .inl hm
  | side d x _ _ =>
    refine h.imp id fun hr => ?_
    cases d <;> exact hr
  | powerOn _ _ => exact .inr ⟨rfl, rfl, rfl⟩
  | _ => exact h

theorem act_walkTimersSafe (s t : State) (a : Act s t) (h : s.WalkTimersSafe) : t.WalkTimersSafe := by
  rcases a.consist_cases with hc | ⟨y, hm, rfl⟩
  · cases hs : s.stableMaster with
    | true => exact .inl ((stableMaster_congr hc).trans hs)
    | false => exact .inr (a.walkCounts hs (h.resolve_left (by simp [hs])))
  · exact hm.walks h

/-- R20: the start of the ports moves T0 and T1 alone. -/
theorem count_portsStarted {u : TimerId} (h0 : ∀ p, u ≠ .t0 p) (h1 : ∀ p, u ≠ .t1 p) (s : State) :
    (portsStarted s).count u = s.count u := by
  have hp : ∀ p v, (resetPort p v).count u = v.count u := fun p v =>
    (count_startTimer_ne (h0 p) _).trans (count_stopTimer_ne (h1 p) _)
  exact (hp .e2 _).trans (hp .e1 _)

theorem raw_walkTimersSafe {c : Instr} (s t : State) (r : Raw c s t) (h : s.WalkTimersSafe) : t.WalkTimersSafe := by
  cases r with
  | portStart _ _ =>
    have hc := fun u => count_portsStarted (u := u) (s := s)
    refine h.imp (stableMaster_congr rfl).trans fun ⟨h7, h8, h11, h12⟩ => ?_
    exact ⟨(hc .t7 (by simp) (by simp)).trans h7, (hc .t8 (by simp) (by simp)).trans h8,
      (hc .t11 (by simp) (by simp)).trans h11, (hc .t12 (by simp) (by simp)).trans h12⟩
  | powerOn _ _ => exact .inr ⟨rfl, rfl, rfl, rfl⟩
  | _ => exact h

/-! ### Close timers (R129) -/

theorem side_setDoor {y : DoorUnit} {s : State} (h : y.sides = s.door.sides) (d : Side) :
    (s.setDoor y).side d = s.side d := congrArg (·.get d) h

theorem closeTimerSafe_iff (s : State) :
    s.CloseTimerSafe ↔ ∀ d, (s.side d).state = .closing ∨ s.count (.t10 d) = none :=
  ⟨fun ⟨ha, hb⟩ d => by cases d <;> assumption, fun h => ⟨h .a, h .b⟩⟩

theorem act_closeTimerSafe (s t : State) (a : Act s t) (h : s.CloseTimerSafe) : t.CloseTimerSafe := by
  rw [closeTimerSafe_iff] at h ⊢
  intro d
  have hstate : (t.side d).state = .closing ∨ t.count (.t10 d) = none ∨ (t.side d).state = (s.side d).state := by
    cases a with
    | side e x _ _ _ ht =>
      by_cases hde : d = e
      · subst hde
        refine ht.imp (fun hx => ?_) fun hn => .inl ?_
        · rw [side_setDoorState_same, hx]
        · rwa [setDoorState, State.count_setSide]
      · exact .inr (.inr (by rw [side_setDoorState_ne hde]))
    | release e _ _ _ =>
      by_cases hde : d = e
      · subst hde
        refine .inr (.inl ?_)
        rw [count_heatRefresh (by simp)]
        exact count_stopTimer ..
      · refine .inr (.inr ?_)
        rw [heatRefresh_side]
        exact congrArg SideRecord.state (side_setDoorState_ne hde _ s)
    | held e _ => exact .inr (.inr (by cases e <;> cases d <;> rfl))
    | door y _ hm => exact .inr (.inr (by rw [side_setDoor hm.sides]))
    | _ => exact .inr (.inr rfl)
  rcases hstate with hx | hx | hx
  · exact .inl hx
  · exact .inr hx
  · rcases h d with hc | hn
    · exact .inl (hx.trans hc)
    · rcases a.count_none hn with hy | hy | ⟨hy, -⟩
      · exact .inr hy
      · exact .inl (hx.trans hy)
      · exact absurd hy (by simp)

theorem raw_closeTimerSafe {c : Instr} (s t : State) (r : Raw c s t) (h : s.CloseTimerSafe) : t.CloseTimerSafe := by
  rw [closeTimerSafe_iff] at h ⊢
  intro d
  cases r with
  | side e x _ hx =>
    refine (h d).imp (fun hc => ?_) id
    by_cases hde : d = e
    · subst hde
      rw [State.side_setSide, hx, hc]
    · rw [State.side_setSide_ne _ hde, hc]
  | powerOn _ _ => exact .inr (by cases d <;> rfl)
  | _ => cases d <;> exact h _

/-! ### Fallback (R168) -/

theorem act_fallbackSafe (s t : State) (a : Act s t) (h : s.FallbackSafe) : t.FallbackSafe := by
  cases a with
  | heat y _ hm =>
    rcases hm.settled with hs | ⟨hf, hw⟩
    · exact .inl hs
    · exact h.imp id fun hr => ⟨hf hr.1, hw hr.2⟩
  | consist y _ hm => exact hm.fallback h
  | release d _ _ _ =>
    have hn : ∀ n u, (setApplied n u).heat = { u.heat with applied := n } := fun n u => setApplied_heat n u
    refine h.imp (fun hs => ?_) fun hr => ?_
    · rwa [State.settled, heatRefresh_consist, stopTimer_consist, setDoorState_consist]
    · unfold heatRefresh
      split_ifs
      · rw [hn]
        exact ⟨by simpa using hr.1, by simpa using hr.2⟩
      · exact ⟨by simpa using hr.1, by simpa using hr.2⟩
  | _ => exact h

theorem raw_fallbackSafe {c : Instr} (s t : State) (r : Raw c s t) (h : s.FallbackSafe) : t.FallbackSafe := by
  cases r with
  | profile l _ => exact h.imp id fun hr => ⟨hr.1, rfl⟩
  | powerOn _ _ => exact .inr ⟨rfl, rfl⟩
  | _ => exact h

/-! ### The applied stage (R156) -/

/-- R155: a new stage changes nothing of the demand. -/
theorem effectiveDemand_setApplied (n : Nat) (s : State) : (setApplied n s).effectiveDemand = s.effectiveDemand := by
  rcases setApplied_cases n s with he | he | he <;> rw [he] <;> rfl

/-- A condition on the heat unit's record alone. -/
theorem heatCapped_of_heat {s t : State} (ht : t.heat = s.heat) (h : s.HeatCapped) : t.HeatCapped := by
  unfold State.HeatCapped
  rwa [ht]

/-- R155, R156: what remains of the bounds of the stage after a change of the demand is enough for a refresh. -/
theorem heatSafe_heatRefresh {s : State} (h : s.HeatCapped) : (heatRefresh s).HeatSafe := by
  unfold heatRefresh
  split_ifs with hd
  · refine ⟨?_, heatCapped_of_heat (setApplied_heat _ s) (heatCapped_lower hd.le h)⟩
    rw [effectiveDemand_setApplied, setApplied_heat]
  · exact ⟨not_lt.mp hd, h⟩

/-- R156: a lower stage, whatever it does to T14. -/
theorem heatCapped_heatRefresh {s : State} (h : s.HeatCapped) : (heatRefresh s).HeatCapped := (heatSafe_heatRefresh h).2

theorem act_heatCapped (s t : State) (a : Act s t) (h : s.HeatCapped) : t.HeatCapped := by
  cases a with
  | heat y _ hm => exact hm.capped h
  | release d _ _ _ =>
    refine heatCapped_heatRefresh ?_
    exact heatCapped_of_heat (by simp) h
  | _ => exact h

theorem reproof_heatCapped (s t : State) (r : Reproof s t) (h : s.HeatCapped) : t.HeatCapped := by
  cases r
  exact h

/-- R152: the functions that make up the written demand's place. -/
def LineFunction.isDemand : LineFunction → Bool
  | .heatDemand0 | .heatDemand1 | .heatDemand2 => true
  | _ => false

/-- R155: the effective demand is made out from the demand lines, the sides, the doors per side and the heat unit's own
record. -/
theorem effectiveDemand_of_shown {s t : State} (hl : ∀ f, f.isDemand = true → SameShown s t f)
    (hd : t.consist.doors = s.consist.doors)
    (hs : ∀ d, (t.side d).state = (s.side d).state ∧ (t.side d).proof = (s.side d).proof)
    (hk : t.heat.lockedOut = s.heat.lockedOut) (hw : t.heat.writtenDemand = s.heat.writtenDemand)
    (hc : t.heat.doorCap = s.heat.doorCap) : t.effectiveDemand = s.effectiveDemand := by
  have hb : t.bothClosed = s.bothClosed := by
    simp only [State.bothClosed, State.countsClosed, hd, (hs _).1, (hs _).2]
  have h0 := hl .heatDemand0 rfl
  have h1 := hl .heatDemand1 rfl
  have h2 := hl .heatDemand2 rfl
  have hm : t.demand = s.demand := by
    simp only [State.demand, State.lineDemand, h0.1, h1.1, h2.1, h0.2, h1.2, h2.2, hw]
  simp only [State.effectiveDemand, hb, hm, hk, hc]

theorem heatSafe_of_shown {s t : State} (hl : ∀ f, f.isDemand = true → SameShown s t f)
    (hd : t.consist.doors = s.consist.doors)
    (hs : ∀ d, (t.side d).state = (s.side d).state ∧ (t.side d).proof = (s.side d).proof)
    (ht : t.heat = s.heat) (h : s.HeatSafe) : t.HeatSafe := by
  refine ⟨?_, heatCapped_of_heat ht h.2⟩
  rw [effectiveDemand_of_shown hl hd hs (by rw [ht]) (by rw [ht]) (by rw [ht]), ht]
  exact h.1

/-- Another line table that shows the same demand. -/
theorem heatSafe_setLines {s : State} {x : LineUnit} (hl : ∀ f, f.isDemand = true → SameShown s (s.setLines x) f)
    (h : s.HeatSafe) : (s.setLines x).HeatSafe := heatSafe_of_shown hl rfl (fun _ => ⟨rfl, rfl⟩) rfl h

theorem collected_same (l : LineRecord) :
    l.collected.entry.function = l.entry.function ∧ l.collected.qualified = l.qualified := ⟨rfl, rfl⟩

/-- R127: a side that leaves another state than CLOSED does not lower the demand. -/
theorem effectiveDemand_setDoorState {d : Side} {x : DoorState} {s : State} (h : (s.side d).state ≠ .closed) :
    s.effectiveDemand ≤ (setDoorState d x s).effectiveDemand := by
  have hcap : ∀ {b b' : Bool} {m c : Nat}, (b = true → b' = true) →
      (if b then m else min m c) ≤ (if b' then m else min m c) := by
    intro b b' m c hb
    cases b <;> cases b' <;> simp_all
  have hb : s.bothClosed = true → (setDoorState d x s).bothClosed = true := by
    simp only [State.bothClosed, State.countsClosed, side_setDoorState, setDoorState_consist, Bool.and_eq_true,
      Bool.or_eq_true, beq_iff_eq]
    cases d <;> simp_all
  have hm : (setDoorState d x s).demand = s.demand := rfl
  simp only [State.effectiveDemand, setDoorState_heat, hm]
  split_ifs <;> first | exact le_rfl | skip
  all_goals simp_all

theorem act_heatSafe (s t : State) (a : Act s t) (h : s.HeatSafe) : t.HeatSafe := by
  cases a with
  | heat y _ hm => exact hm.safe h
  | release d _ _ _ =>
    refine heatSafe_heatRefresh ?_
    exact heatCapped_of_heat (by simp) h.2
  | side d x _ hs _ _ =>
    refine ⟨?_, heatCapped_of_heat (by simp) h.2⟩
    rw [setDoorState_heat]
    exact h.1.trans (effectiveDemand_setDoorState hs)
  | held d _ =>
    refine heatSafe_of_shown (s := s) (fun f _ => sameShown_of_lines rfl f) rfl (fun e => ?_) rfl h
    cases d <;> cases e <;> exact ⟨rfl, rfl⟩
  | door y _ hm =>
    exact heatSafe_of_shown (s := s) (fun f _ => sameShown_of_lines rfl f) rfl (fun e => by simp [side_setDoor hm.sides e])
      rfl h
  | consist y _ hm =>
    exact heatSafe_of_shown (s := s) (fun f _ => sameShown_of_lines rfl f) hm.doors (fun e => ⟨rfl, rfl⟩) rfl h
  | collect _ => exact heatSafe_setLines (fun f _ => sameShown_map s collected_same f) h
  | quiet _ => exact heatSafe_setLines (fun f _ => sameShown_map (g := fun l => { l with generalOut := false, change := .none }) s
      (fun _ => ⟨rfl, rfl⟩) f) h
  | _ => exact h

/-- R155, R156: an owner that is told of the proof of a side. -/
theorem heatSafe_proofNotice {d : Side} {p : Proof} {s : State} (h : s.HeatCapped) : (proofNotice d p s).HeatSafe := by
  have h1 : (heatRefresh (proofTaken d p s)).HeatSafe :=
    heatSafe_heatRefresh ((steps_proofTaken reproof_proofs d p (.refl s)).keeps act_heatCapped reproof_heatCapped h)
  rw [proofNotice_eq]
  split_ifs
  · exact (steps_raiseAlert d (.refl _)).keeps_of_acts act_heatSafe h1
  · exact h1

/-- R109, R155, R156: after an edge its owner has refreshed the stage if its line is one of the demand. -/
theorem heatSafe_ownerEdge {f : LineFunction} {level : Bool} {s : State} (hc : s.HeatCapped)
    (h : f.isDemand = true ∨ s.HeatSafe) : (ownerEdge f level s).HeatSafe := by
  unfold ownerEdge
  split
  · exact (steps_cabEdge (.refl s)).keeps_of_acts act_heatSafe (h.resolve_left (by simp [LineFunction.isDemand]))
  · exact heatSafe_proofNotice hc
  · have hs := h.resolve_left (by simp [LineFunction.isDemand])
    split_ifs
    · exact (steps_closeReleased _ (.refl s)).keeps_of_acts act_heatSafe hs
    · exact hs
  · exact (steps_judgeFeedback (.refl s)).keeps_of_acts act_heatSafe
      (h.resolve_left (by simp [LineFunction.isDemand]))
  · exact heatSafe_heatRefresh hc
  · exact heatSafe_heatRefresh hc
  · exact heatSafe_heatRefresh hc
  · refine h.resolve_left ?_
    cases f <;> simp_all [LineFunction.isDemand]

/-- R109, R155, R156: an owner that is told that its line is absent, or present again. -/
theorem heatSafe_ownerTold {p : Proof} {f : LineFunction} {s : State} (hc : s.HeatCapped)
    (h : f.isDemand = true ∨ s.HeatSafe) : (ownerTold p f s).HeatSafe := by
  unfold ownerTold
  split
  · exact (steps_evaluateRole (.refl s)).keeps_of_acts act_heatSafe (h.resolve_left (by simp [LineFunction.isDemand]))
  · exact heatSafe_proofNotice hc
  · exact (steps_judgeFeedback (.refl s)).keeps_of_acts act_heatSafe
      (h.resolve_left (by simp [LineFunction.isDemand]))
  · exact heatSafe_heatRefresh hc
  · exact heatSafe_heatRefresh hc
  · exact heatSafe_heatRefresh hc
  · refine h.resolve_left ?_
    cases f <;> simp_all [LineFunction.isDemand]

theorem heatCapped_ownerTold {p : Proof} {f : LineFunction} {s : State} (h : s.HeatCapped) :
    (ownerTold p f s).HeatCapped :=
  (steps_ownerTold reproof_proofs p f (.refl s)).keeps act_heatCapped reproof_heatCapped h

/-- R155, R156: the stage is within its bounds again when all owners have been told. -/
theorem heatSafe_notices {p : Proof} {l : List LineFunction} {s : State} (hc : s.HeatCapped)
    (h : (∃ f ∈ l, f.isDemand = true) ∨ s.HeatSafe) : (notices (ownerTold p) l s).HeatSafe := by
  induction l generalizing s with
  | nil => exact h.resolve_left (by simp)
  | cons f l ih =>
    refine ih (heatCapped_ownerTold hc) ?_
    rcases h with ⟨g, hg, hd⟩ | hs
    · rcases List.mem_cons.mp hg with rfl | hg
      · exact .inr (heatSafe_ownerTold hc (.inl hd))
      · exact .inl ⟨g, hg, hd⟩
    · exact .inr (heatSafe_ownerTold hc (.inr hs))

theorem ownerTold_lines (p : Proof) (f : LineFunction) (s : State) : (ownerTold p f s).lines = s.lines := by
  unfold ownerTold
  split <;> simp

theorem notices_lines (p : Proof) (l : List LineFunction) (s : State) :
    (notices (ownerTold p) l s).lines = s.lines := by
  induction l generalizing s with
  | nil => rfl
  | cons f l ih => exact (ih _).trans (ownerTold_lines p f s)

theorem ne_none_of_isDemand {f : LineFunction} (h : f.isDemand = true) : f ≠ .none := by
  rintro rfl
  exact Bool.noConfusion h

theorem heatSafe_writeLinesAt {g : LineEntry → LineRecord → LineRecord} {i : Nat} {l : List LineEntry} {s : State}
    (hl : ∀ f, f.isDemand = true → SameShown s (writeLinesAt g i l s) f) (h : s.HeatSafe) :
    (writeLinesAt g i l s).HeatSafe := by
  rw [(writeLinesAt_eq g i l s).1] at hl ⊢
  exact heatSafe_setLines hl h

theorem heatCapped_writeLinesAt {g : LineEntry → LineRecord → LineRecord} {i : Nat} {l : List LineEntry} {s : State}
    (h : s.HeatCapped) : (writeLinesAt g i l s).HeatCapped := by
  rw [(writeLinesAt_eq g i l s).1]
  exact h

theorem heatSafe_applyLines {i : Nat} {l : List LineEntry} {s : State} (h : s.HeatSafe) : (applyLines i l s).HeatSafe := by
  have h1 : (notices ownerAbsent (s.removedFunctions i l) (writeLinesAt LineRecord.removed i l s)).HeatSafe := by
    refine heatSafe_notices (heatCapped_writeLinesAt h.2) ?_
    by_cases hd : ∃ f ∈ s.removedFunctions i l, f.isDemand = true
    · exact .inl hd
    · exact .inr (heatSafe_writeLinesAt (fun f hf =>
        sameShown_removed (ne_none_of_isDemand hf) fun hm => hd ⟨f, hm, hf⟩) h)
  have ht : Removed i l s (notices ownerAbsent (s.removedFunctions i l) (writeLinesAt LineRecord.removed i l s)) :=
    notices_lines ..
  unfold applyLines
  dsimp only
  generalize notices ownerAbsent (s.removedFunctions i l) (writeLinesAt LineRecord.removed i l s) = t at h1 ht
  refine heatSafe_notices (heatCapped_writeLinesAt h1.2) ?_
  by_cases hd : ∃ f ∈ s.addedFunctions i l, f.isDemand = true
  · exact .inl hd
  · exact .inr (heatSafe_writeLinesAt (fun f hf =>
      sameShown_added ht (ne_none_of_isDemand hf) fun hm => hd ⟨f, hm, hf⟩) h1)

end Sys2Proof.Machine
end

section
/-! Every command keeps the stage and the doors within their bounds: the larger changes. -/

namespace Sys2Proof.Machine

open Sys2Proof

/-- What each part of a fold keeps holds after the fold. -/
theorem foldl_keeps {α : Type} {P : State → Prop} {f : State → α → State} (l : List α)
    (hf : ∀ u x, P u → P (f u x)) {s : State} (h : P s) : P (l.foldl f s) := by
  induction l generalizing s with
  | nil => exact h
  | cons x l ih => exact ih (hf _ _ h)

/-! ### The applied stage -/

/-- R154, R169: after a write of the settings the stage is within their bounds again. -/
theorem heatSafe_heatSettingsTaken {s : State} (h : s.heat.lockedOut = true → s.heat.applied = 0) :
    (heatSettingsTaken s).HeatSafe := by
  have h1 : (heatRefresh s).heat.applied ≤ (heatRefresh s).effectiveDemand
      ∧ ((heatRefresh s).heat.lockedOut = true → (heatRefresh s).heat.applied = 0) := by
    unfold heatRefresh
    split_ifs with hd
    · rw [effectiveDemand_setApplied, setApplied_heat]
      exact ⟨le_rfl, fun hl => effectiveDemand_of_lockedOut hl⟩
    · exact ⟨not_lt.mp hd, h⟩
  unfold heatSettingsTaken
  dsimp only
  generalize heatRefresh s = t at h1
  obtain ⟨hd, hl⟩ := h1
  split_ifs with hf
  · have hceil : t.fallbackCeiling ≤ t.effectiveDemand ∧ t.fallbackCeiling ≤ t.heat.fallbackStage
        ∧ t.fallbackCeiling ≤ t.heat.applied := by
      unfold State.fallbackCeiling; omega
    unfold State.HeatSafe
    rw [effectiveDemand_setApplied, setApplied_heat]
    exact ⟨hceil.1, fun _ => hceil.2.1, fun hx => Nat.le_zero.mp (hceil.2.2.trans (hl hx).le)⟩
  · exact ⟨hd, fun hx => absurd hx hf, hl⟩

theorem heatSafe_setLine {n : Nat} {x : LineRecord} {s : State}
    (hx : ∀ f, f.isDemand = true → x.ShowsAs (s.lineAt n) f) (h : s.HeatSafe) : (s.setLine n x).HeatSafe :=
  heatSafe_setLines (fun f hf => sameShown_setLine (ne_none_of_isDemand hf) (hx f hf)) h

theorem heatSafe_writeValues {o : Object} {q : Req} {s : State} (h : s.HeatSafe) : (writeValues o q s).1.HeatSafe := by
  cases o with
  | service =>
    dsimp only [writeValues, writeServiceTable]
    split <;> exact h
  | groups =>
    dsimp only [writeValues, writeGroupTable]
    split_ifs <;> exact h
  | lines =>
    dsimp only [writeValues, writeLineTable]
    split
    · split_ifs
      · exact heatSafe_applyLines h
      · exact h
    · exact h
  | generalOut =>
    dsimp only [writeValues, writeOutputs]
    split_ifs
    · refine foldl_keeps _ (fun u x hu => heatSafe_setLine (fun f _ => ?_) hu) h
      exact showsAs_of_same rfl rfl f
    · exact h
  | doorInhibit =>
    dsimp only [writeValues, writeInhibits]
    split_ifs
    · refine foldl_keeps _ (fun u x hu => ?_) h
      have h1 : (u.setSide (sideAt x.2) { u.side (sideAt x.2) with localInhibit := isOne x.1 }).HeatSafe := by
        refine heatSafe_of_shown (s := u) (fun f _ => sameShown_of_lines rfl f) rfl (fun e => ?_) rfl hu
        cases hd : sideAt x.2 <;> cases e <;> exact ⟨rfl, rfl⟩
      unfold setInhibit
      dsimp only
      split_ifs
      · exact (steps_closeReleased _ (.refl _)).keeps_of_acts act_heatSafe h1
      · exact h1
    · exact h
  | coachDescriptor =>
    dsimp only [writeValues, writeDescriptor]
    split
    · refine heatSafe_heatRefresh ?_
      have hc : ∀ d u, State.HeatCapped u → (closeDoorless d u).HeatCapped := fun d u hu => by
        unfold closeDoorless
        split_ifs
        · exact hu
        · exact heatCapped_of_heat (by simp) hu
      dsimp only
      split_ifs
      · exact hc _ _ (hc _ _ h.2)
      · exact h.2
    · exact h
  | heatProfile =>
    dsimp only [writeValues, writeProfile]
    split_ifs <;> exact h
  | heatSettings =>
    refine heatSafe_heatSettingsTaken (foldl_keeps (P := fun u => u.heat.lockedOut = true → u.heat.applied = 0) _
      (fun u x hu => ?_) h.2.2)
    unfold setHeatSetting
    split_ifs <;> exact hu
  | heatDemand =>
    dsimp only [writeValues, writeDemand]
    split
    · exact heatSafe_heatRefresh h.2
    · exact h
  | supplyLimit =>
    dsimp only [writeValues, writeLimit]
    split <;> exact h
  | timers => exact (steps_rerunTimers _ _ (.refl _)).keeps_of_acts act_heatSafe h
  | identity | status | consist | lineLevels | lineReport | faults => exact h

/-- R109, R117: owners that read levels taken without an edge. -/
theorem heatSafe_rereadOwners {s : State} (h : s.HeatCapped) : (rereadOwners s).HeatSafe := by
  have h1 := steps_rereadSide reproof_proofs .b (steps_rereadSide reproof_proofs .a (.refl s))
  unfold rereadOwners
  generalize rereadSide .b (rereadSide .a s) = u at h1
  exact heatSafe_heatRefresh (h1.keeps (P := State.HeatCapped) act_heatCapped reproof_heatCapped h)

/-- A sample that takes no level leaves what every function shows. -/
theorem sameShown_sampleAll {g : Bool → LineRecord → LineRecord} {s : State} {f : LineFunction} (hf : f ≠ .none)
    (levels : Levels) (b : Bool)
    (hg : ∀ r l, (g r l).entry.function = l.entry.function ∧ (g r l).qualified = l.qualified) :
    SameShown s (s.setLines ⟨sampleAll g levels s.lines.line, b⟩) f := by
  refine sameShown_of_lineAt hf fun n => ?_
  by_cases hn : n < s.lines.line.length
  · rw [lineAt_sampleAll g levels b s hn]
    exact showsAs_of_same (hg _ _).1 (hg _ _).2 f
  · rw [lineAt_sampleAll_of_le g levels b s (not_lt.mp hn)]
    exact showsAs_of_same rfl rfl f

theorem heatSafe_sampleLines {levels : Levels} {s : State} (h : s.HeatSafe) : (sampleLines levels s).HeatSafe := by
  have hs : ∀ (g : Bool → LineRecord → LineRecord) (b : Bool),
      (∀ r l, (g r l).entry.function = l.entry.function ∧ (g r l).qualified = l.qualified) →
      (s.setLines ⟨sampleAll g levels s.lines.line, b⟩).HeatSafe := fun g b hg =>
    heatSafe_setLines (fun f hf => sameShown_sampleAll (ne_none_of_isDemand hf) levels b hg) h
  unfold sampleLines sampleOperating
  split
  · exact h
  · split_ifs
    · exact heatSafe_rereadOwners h.2
    · exact hs _ _ fun _ _ => ⟨rfl, rfl⟩
  · exact hs _ _ fun _ _ => ⟨rfl, rfl⟩
  · exact hs _ _ fun _ _ => ⟨rfl, rfl⟩

theorem reportEdge_same (b : Bool) (l : LineRecord) :
    (l.reportEdge b).entry = l.entry ∧ (l.reportEdge b).qualified = l.qualified
      ∧ (l.reportEdge b).generalOut = l.generalOut ∧ (l.reportEdge b).change = l.change := by
  unfold LineRecord.reportEdge
  split <;> (try split_ifs) <;> exact ⟨rfl, rfl, rfl, rfl⟩

/-- R106: the line's new record at its edge. -/
def LineRecord.edged (l : LineRecord) : LineRecord := l.turned.reportEdge l.turned.qualified

theorem edged_same (l : LineRecord) : l.edged.entry = l.entry ∧ l.edged.qualified = !l.qualified
    ∧ l.edged.generalOut = l.generalOut ∧ l.edged.change = .none := reportEdge_same _ l.turned

theorem takeEdge_eq (n : Nat) (s : State) : takeEdge n s =
    ownerEdge (s.lineAt n).entry.function (!(s.lineAt n).qualified) (s.setLine n (s.lineAt n).edged) := rfl

/-- R106: an edge changes what its own function shows, and no other. -/
theorem sameShown_edge {n : Nat} {s : State} {f : LineFunction} (hf : f ≠ .none)
    (hn : (s.lineAt n).entry.function ≠ f) : SameShown s (s.setLine n (s.lineAt n).edged) f :=
  sameShown_setLine hf (showsAs_of_ne (by rw [(edged_same _).1]; exact hn) hn)

theorem heatSafe_takeEdge {n : Nat} {s : State} (h : s.HeatSafe) : (takeEdge n s).HeatSafe := by
  rw [takeEdge_eq]
  refine heatSafe_ownerEdge h.2 ?_
  cases hd : (s.lineAt n).entry.function.isDemand with
  | true => exact .inl rfl
  | false =>
    refine .inr (heatSafe_setLines (fun f hf => sameShown_edge (ne_none_of_isDemand hf) fun hx => ?_) h)
    rw [hx, hf] at hd
    exact Bool.noConfusion hd

theorem heatSafe_restartNode {levels : Levels} {s : State} : (restartNode levels s).HeatSafe := by
  unfold restartNode restartHeat
  dsimp only
  generalize stopTimers _ _ = u
  refine (steps_evaluateRole (steps_judgeFeedback (.refl _))).keeps_of_acts (P := State.HeatSafe) act_heatSafe ?_
  exact ⟨Nat.zero_le _, fun _ => Nat.zero_le _, fun _ => rfl⟩

theorem large_heatSafe {c : Instr} (s t : State) (hl : Large c s t) (h : s.HeatSafe) : t.HeatSafe := by
  cases hl with
  | up p _ _ _ =>
    refine (steps_portReport _ _ (.refl _)).keeps_of_acts act_heatSafe ?_
    exact h
  | grant n _ _ =>
    have hg : s.cappedGrant n ≤ s.effectiveDemand
        ∧ (s.heat.fallback = true → s.cappedGrant n ≤ s.heat.fallbackStage) := by
      unfold State.cappedGrant
      split_ifs with hf
      · exact ⟨by omega, fun _ => by omega⟩
      · exact ⟨by omega, fun hx => absurd hx hf⟩
    unfold State.HeatSafe
    rw [effectiveDemand_setApplied, setApplied_heat]
    exact ⟨hg.1, hg.2, fun hx => Nat.le_zero.mp (hg.1.trans (effectiveDemand_of_lockedOut hx).le)⟩
  | edge n _ _ => exact heatSafe_takeEdge h
  | sample levels _ => exact heatSafe_sampleLines h
  | write o q _ _ _ => exact heatSafe_writeValues h
  | restart levels _ => exact heatSafe_restartNode
  | powerOn _ _ => exact ⟨Nat.zero_le _, fun _ => Nat.zero_le _, fun _ => rfl⟩
  | startCheck pass _ _ _ => exact h
  | _ => exact h

/-! ### Released doors (R126) -/

theorem doorsSafe_iff (s : State) : s.DoorsSafe ↔ ∀ d, s.SideSafe d :=
  ⟨fun ⟨ha, hb⟩ d => by cases d <;> assumption, fun h => ⟨h .a, h .b⟩⟩

theorem sideSafe_of {s t : State} {d : Side} (hi : t.inhibited d = true → s.inhibited d = true)
    (hs : (t.side d).state = .released → (s.side d).state = .released)
    (hc : t.consist.state = s.consist.state) (h : s.SideSafe d) : t.SideSafe d := fun hr => by
  obtain ⟨h1, h2⟩ := h (hs hr)
  rw [hc]
  exact ⟨Bool.eq_false_iff.mpr fun hx => by simp [hi hx] at h1, h2⟩

theorem doorsSafe_of {s t : State} (hi : ∀ d, t.inhibited d = true → s.inhibited d = true)
    (hs : ∀ d, (t.side d).state = .released → (s.side d).state = .released)
    (hc : t.consist.state = s.consist.state) (h : s.DoorsSafe) : t.DoorsSafe := by
  rw [doorsSafe_iff] at h ⊢
  exact fun d => sideSafe_of (hi d) (hs d) hc (h d)

/-- R123: the inhibit of a side, made out from its line and its LOCAL flag. -/
theorem inhibited_of {s t : State} {d : Side}
    (ha : t.asserted (.doorInhibit d) = true → s.asserted (.doorInhibit d) = true)
    (hl : (t.side d).localInhibit = (s.side d).localInhibit) (h : t.inhibited d = true) : s.inhibited d = true := by
  simp only [State.inhibited, Bool.or_eq_true, hl] at h ⊢
  exact h.imp ha id

theorem inhibited_of_lines {s t : State} {d : Side} (hl : t.lines = s.lines)
    (hs : (t.side d).localInhibit = (s.side d).localInhibit) : t.inhibited d = s.inhibited d := by
  simp only [State.inhibited, State.asserted, hl, hs]

theorem doorsSafe_setLines {s : State} {x : LineUnit}
    (ha : ∀ d, (s.setLines x).asserted (.doorInhibit d) = true → s.asserted (.doorInhibit d) = true)
    (h : s.DoorsSafe) : (s.setLines x).DoorsSafe := doorsSafe_of (fun d => inhibited_of (ha d) rfl) (fun _ => id) rfl h

theorem doorsSafe_door {s t : State} (hl : t.lines = s.lines) (hc : t.consist = s.consist)
    (hs : ∀ d, (t.side d).localInhibit = (s.side d).localInhibit ∧ ((t.side d).state = .released →
      (s.side d).state = .released)) (h : s.DoorsSafe) : t.DoorsSafe := by
  exact doorsSafe_of (fun d => (inhibited_of_lines hl (hs d).1).symm.trans)
    (fun d => (hs d).2) (by rw [hc]) h

theorem act_doorsSafe (s t : State) (a : Act s t) (h : s.DoorsSafe) : t.DoorsSafe := by
  cases a with
  | consist y _ hm => exact hm.released h
  | door y _ hm => exact doorsSafe_door (s := s) rfl rfl (fun d => by simp [side_setDoor hm.sides d]) h
  | side d x _ _ hx _ =>
    refine doorsSafe_door (s := s) (by simp) (by simp) (fun e => ?_) h
    rw [side_setDoorState]
    refine ⟨rfl, fun hr => ?_⟩
    by_cases he : e = d
    · simp [he, hx] at hr
    · simpa [he] using hr
  | held d _ => exact doorsSafe_door (s := s) rfl rfl (fun e => by cases d <;> cases e <;> exact ⟨rfl, id⟩) h
  | release d _ hi hc =>
    rw [doorsSafe_iff] at h ⊢
    intro e
    by_cases he : e = d
    · subst he
      intro _
      rw [heatRefresh_consist, stopTimer_consist, setDoorState_consist]
      refine ⟨(inhibited_of_lines (by simp) ?_).trans hi, hc⟩
      rw [heatRefresh_side]
      cases e <;> rfl
    · have hs : (heatRefresh (stopTimer (.t10 d) (setDoorState d .released s))).side e = s.side e := by
        rw [heatRefresh_side]
        exact side_setDoorState_ne he _ s
      refine sideSafe_of (inhibited_of_lines (by simp) (by rw [hs])).symm.trans ?_ (by simp) (h e)
      rw [hs]
      exact id
  | collect _ => exact doorsSafe_setLines (fun d => (sameShown_map s collected_same _).2 ▸ id) h
  | quiet _ =>
    exact doorsSafe_setLines (fun d => (sameShown_map (g := fun l => { l with generalOut := false, change := .none }) s
      (fun _ => ⟨rfl, rfl⟩) _).2 ▸ id) h
  | _ => exact h

theorem reproof_doorsSafe (s t : State) (r : Reproof s t) (h : s.DoorsSafe) : t.DoorsSafe := by
  cases r with
  | side d p b _ => exact doorsSafe_door (s := s) rfl rfl (fun e => by cases d <;> cases e <;> exact ⟨rfl, id⟩) h

theorem doorsSafe_notices {p : Proof} (l : List LineFunction) {s : State} (h : s.DoorsSafe) :
    (notices (ownerTold p) l s).DoorsSafe :=
  foldl_keeps _ (fun u f hu => (steps_ownerTold reproof_proofs p f (.refl u)).keeps act_doorsSafe reproof_doorsSafe hu) h

theorem doorsSafe_writeLinesAt {g : LineEntry → LineRecord → LineRecord} {i : Nat} {l : List LineEntry} {s : State}
    (ha : ∀ f, (writeLinesAt g i l s).asserted f = true → s.asserted f = true) (h : s.DoorsSafe) :
    (writeLinesAt g i l s).DoorsSafe := by
  rw [(writeLinesAt_eq g i l s).1] at ha ⊢
  exact doorsSafe_setLines (fun d => ha _) h

theorem doorsSafe_applyLines {i : Nat} {l : List LineEntry} {s : State} (h : s.DoorsSafe) :
    (applyLines i l s).DoorsSafe := by
  have h1 := doorsSafe_notices (p := .absent) (s.removedFunctions i l)
    (doorsSafe_writeLinesAt (i := i) (l := l) (fun f => asserted_removed) h)
  have ht : Removed i l s (notices ownerAbsent (s.removedFunctions i l) (writeLinesAt LineRecord.removed i l s)) :=
    notices_lines ..
  exact doorsSafe_notices _ (doorsSafe_writeLinesAt (fun f => asserted_added ht) h1)

/-- A changed inhibit flag, with the side closed where it became inhibited. -/
theorem doorsSafe_closeReleased {d : Side} {s t : State} (h : s.DoorsSafe)
    (ho : ∀ e, e ≠ d → (t.inhibited e = true → s.inhibited e = true) ∧ t.side e = s.side e)
    (hc : t.consist.state = s.consist.state) : (closeReleased d t).DoorsSafe := by
  rw [doorsSafe_iff] at h ⊢
  intro e
  by_cases he : e = d
  · subst he
    exact fun hr => absurd hr (closeReleased_side e t)
  · have hs := closeReleased_side_ne he t
    refine sideSafe_of (fun hx => (ho e he).1 ?_) ?_ (by simpa using hc) (h e)
    · exact (inhibited_of_lines (by simp) (by rw [hs])).symm.trans hx
    · rw [hs, (ho e he).2]
      exact id

theorem doorsSafe_setInhibit {d : Side} {b : Bool} {s : State} (h : s.DoorsSafe) : (setInhibit d b s).DoorsSafe := by
  unfold setInhibit
  dsimp only
  split_ifs with hb
  · refine doorsSafe_closeReleased h (fun e he => ?_) rfl
    have hs := State.side_setSide_ne s he { s.side d with localInhibit := b }
    exact ⟨inhibited_of id (by rw [hs]), hs⟩
  · refine doorsSafe_of (s := s) (fun e hx => ?_) (fun e => ?_) rfl h
    · by_cases he : e = d
      · subst he
        simp only [State.inhibited, State.side_setSide, Bool.or_eq_true] at hx ⊢
        exact .inl (hx.resolve_right hb)
      · refine (inhibited_of_lines (s := s) (t := s.setSide d _) rfl ?_).symm.trans hx
        rw [State.side_setSide_ne s he]
    · cases d <;> cases e <;> exact id

theorem doorsSafe_writeValues {o : Object} {q : Req} {s : State} (h : s.DoorsSafe) :
    (writeValues o q s).1.DoorsSafe := by
  cases o with
  | service =>
    dsimp only [writeValues, writeServiceTable]
    split <;> exact h
  | groups =>
    dsimp only [writeValues, writeGroupTable]
    split_ifs <;> exact h
  | lines =>
    dsimp only [writeValues, writeLineTable]
    split
    · split_ifs
      · exact doorsSafe_applyLines h
      · exact h
    · exact h
  | generalOut =>
    dsimp only [writeValues, writeOutputs]
    split_ifs
    · refine foldl_keeps _ (fun u x hu => doorsSafe_setLines (fun d ha => ?_) hu) h
      have hshow := sameShown_setLine (s := u) (n := x.2) (x := { u.lineAt x.2 with generalOut := isOne x.1 })
        (f := .doorInhibit d) (by simp) (showsAs_of_same rfl rfl _)
      exact hshow.2.symm.trans ha
    · exact h
  | doorInhibit =>
    dsimp only [writeValues, writeInhibits]
    split_ifs
    · exact foldl_keeps _ (fun u x hu => doorsSafe_setInhibit hu) h
    · exact h
  | coachDescriptor =>
    dsimp only [writeValues, writeDescriptor]
    split
    · have hc : ∀ d u, Steps NoLarge u (closeDoorless d u) := fun d u =>
        steps_ite (fun _ => .refl u) fun hs => steps_enterClosed d hs (.refl u)
      refine (steps_heatRefresh (.refl _)).keeps_of_acts act_doorsSafe ?_
      dsimp only
      split_ifs
      · exact ((hc _ _).trans (hc _ _)).keeps_of_acts act_doorsSafe h
      · exact h
    · exact h
  | heatProfile =>
    dsimp only [writeValues, writeProfile]
    split_ifs <;> exact h
  | heatSettings =>
    refine (steps_heatSettingsTaken (.refl _)).keeps_of_acts act_doorsSafe (foldl_keeps _ (fun u x hu => ?_) h)
    unfold setHeatSetting
    split_ifs <;> exact hu
  | heatDemand =>
    dsimp only [writeValues, writeDemand]
    split
    · exact (steps_heatRefresh (.refl _)).keeps_of_acts act_doorsSafe h
    · exact h
  | supplyLimit =>
    dsimp only [writeValues, writeLimit]
    split <;> exact h
  | timers => exact (steps_rerunTimers _ _ (.refl _)).keeps_of_acts act_doorsSafe h
  | identity | status | consist | lineLevels | lineReport | faults => exact h

/-! ### Released doors at a sample, an edge and a restart -/

@[simp] theorem proofReread_lines (d : Side) (s : State) : (proofReread d s).lines = s.lines := by
  unfold proofReread
  dsimp only
  split_ifs <;> simp

@[simp] theorem proofReread_consist (d : Side) (s : State) : (proofReread d s).consist = s.consist := by
  unfold proofReread
  dsimp only
  split_ifs <;> simp

theorem proofReread_side_ne {d e : Side} (h : e ≠ d) (s : State) : (proofReread d s).side e = s.side e := by
  unfold proofReread
  dsimp only
  split_ifs
  · exact (side_setDoorState_ne h _ _).trans (State.side_setSide_ne s h _)
  · exact State.side_setSide_ne s h _

theorem proofReread_state (d : Side) (s : State) :
    ((proofReread d s).side d).state ≠ .released ∨ ((proofReread d s).side d).state = (s.side d).state := by
  unfold proofReread
  dsimp only
  split_ifs
  · refine .inl ?_
    cases d <;> simp [enterClosed, setDoorState, State.side, PerSide.get, State.setSide, PerSide.set, stopTimer, State.setCount]
  · exact .inr (by cases d <;> rfl)

theorem proofReread_inhibited (d : Side) (s : State) : (proofReread d s).inhibited d = s.inhibited d := by
  refine inhibited_of_lines (proofReread_lines d s) ?_
  unfold proofReread
  dsimp only
  split_ifs <;> cases d <;> rfl

theorem rereadSide_side_ne {d e : Side} (h : e ≠ d) (s : State) : (rereadSide d s).side e = s.side e := by
  rw [rereadSide_eq, heatRefresh_side]
  split_ifs
  · rw [closeReleased_side_ne h, proofReread_side_ne h]
  · exact proofReread_side_ne h s

/-- R118, R130: a side that stays RELEASED after its lines were read is not inhibited. -/
theorem sideSafe_rereadSide {d : Side} {s : State} (h : (s.side d).state = .released →
    s.consist.state ≠ .uninaugurated ∧ s.consist.state ≠ .blocked) : (rereadSide d s).SideSafe d := by
  have hp := proofReread_inhibited d s
  have hs := proofReread_state d s
  have hl := proofReread_lines d s
  have hc := proofReread_consist d s
  rw [rereadSide_eq]
  generalize proofReread d s = u at hp hs hl hc
  intro hr
  rw [heatRefresh_side] at hr
  split_ifs at hr ⊢ with hi
  · exact absurd hr (closeReleased_side d u)
  · refine ⟨?_, ?_⟩
    · rw [inhibited_of_lines (heatRefresh_lines u) (by rw [heatRefresh_side])]
      exact Bool.eq_false_iff.mpr hi
    · rw [heatRefresh_consist, hc]
      exact h ((hs.resolve_left fun hn => hn hr).symm.trans hr)

theorem doorsSafe_rereadOwners {s : State}
    (h : ∀ d, (s.side d).state = .released → s.consist.state ≠ .uninaugurated ∧ s.consist.state ≠ .blocked) :
    (rereadOwners s).DoorsSafe := by
  have ha := sideSafe_rereadSide (h .a)
  have hboth : (rereadSide .b (rereadSide .a s)).SideSafe .a ∧ (rereadSide .b (rereadSide .a s)).SideSafe .b := by
    refine ⟨sideSafe_of ?_ ?_ (by simp) ha, sideSafe_rereadSide fun hr => ?_⟩
    · exact (inhibited_of_lines (by simp) (by rw [rereadSide_side_ne (by decide)])).symm.trans
    · rw [rereadSide_side_ne (by decide)]
      exact id
    · rw [rereadSide_side_ne (by decide)] at hr
      rw [rereadSide_consist]
      exact h .b hr
  unfold rereadOwners
  generalize rereadSide .b (rereadSide .a s) = u at hboth
  exact (steps_heatRefresh (.refl u)).keeps_of_acts (P := State.DoorsSafe) act_doorsSafe hboth

theorem doorsSafe_sampleLines {levels : Levels} {s : State} (h : s.DoorsSafe) : (sampleLines levels s).DoorsSafe := by
  have hs : ∀ (g : Bool → LineRecord → LineRecord) (b : Bool),
      (∀ r l, (g r l).entry.function = l.entry.function ∧ (g r l).qualified = l.qualified) →
      (s.setLines ⟨sampleAll g levels s.lines.line, b⟩).DoorsSafe := fun g b hg =>
    doorsSafe_setLines (fun d => (sameShown_sampleAll (by simp) levels b hg).2.symm.trans) h
  unfold sampleLines sampleOperating
  split
  · exact h
  · split_ifs
    · exact doorsSafe_rereadOwners fun d hr => ((doorsSafe_iff s).mp h d hr).2
    · exact hs _ _ fun _ _ => ⟨rfl, rfl⟩
  · exact hs _ _ fun _ _ => ⟨rfl, rfl⟩
  · exact hs _ _ fun _ _ => ⟨rfl, rfl⟩

/-- R109, R130: an edge of the inhibit line closes its side. -/
theorem doorsSafe_takeEdge {n : Nat} {s : State} (h : s.DoorsSafe) : (takeEdge n s).DoorsSafe := by
  have hother : ∀ d, (s.lineAt n).entry.function ≠ .doorInhibit d →
      ((s.setLine n (s.lineAt n).edged).inhibited d = true → s.inhibited d = true) := fun d hd =>
    inhibited_of (sameShown_edge (by simp) hd).2.symm.trans rfl
  have hsafe : (∀ d, (s.lineAt n).entry.function ≠ .doorInhibit d) → (takeEdge n s).DoorsSafe := fun hd =>
    (steps_ownerEdge reproof_proofs _ _ (.refl _)).keeps act_doorsSafe reproof_doorsSafe
      (doorsSafe_of (s := s) (fun d => hother d (hd d)) (fun _ => id) rfl h)
  rw [takeEdge_eq] at hsafe ⊢
  cases hf : (s.lineAt n).entry.function with
  | doorInhibit d =>
    rw [hf] at hother
    unfold ownerEdge
    dsimp only
    split_ifs with hq
    · exact doorsSafe_closeReleased h (fun e he => ⟨hother e (by simpa using Ne.symm he), rfl⟩) rfl
    · refine doorsSafe_setLines (fun e ha => asserted_mono (fun m => ?_) ha) h
      by_cases hm : m = n
      · subst hm
        by_cases hlen : m < s.lines.line.length
        · rw [show (s.setLines _).lineAt m = _ from lineAt_setLine_same s _ hlen, (edged_same _).2.1]
          exact fun hx => absurd hx hq
        · rw [lineAt_of_le (not_lt.mp hlen)] at hf
          exact absurd hf (by simp [LineRecord.powerOn])
      · rw [show (s.setLines _).lineAt m = _ from lineAt_setLine_ne s _ hm]
        exact fun hx => ⟨hx, rfl⟩
  | _ =>
    rw [hf] at hsafe
    exact hsafe (by simp)

theorem restartSide_side_ne {d e : Side} (h : e ≠ d) (s : State) : (restartSide d s).side e = s.side e := by
  have h1 := State.side_setSide_ne s h { s.side d with proof := s.lineProof d, held := s.lineProof d != .proved }
  have h2 : ∀ x u, (setDoorState d x u).side e = u.side e := fun x u => side_setDoorState_ne h x u
  unfold restartSide
  dsimp only
  split
  · split_ifs
    · exact (h2 _ _).trans h1
    · exact (h2 _ _).trans h1
  · split_ifs
    · exact (h2 _ _).trans h1
    · exact (h2 _ _).trans h1
  · exact h1
  · exact h1

/-- R150: no side stays RELEASED at a restart. -/
theorem restartSide_state (d : Side) (s : State) : ((restartSide d s).side d).state ≠ .released := by
  have h2 : ∀ x u, ((setDoorState d x u).side d).state = x := fun x u => by rw [side_setDoorState_same]
  have h3 : ∀ u, ((enterClosed d u).side d).state ≠ .released := fun u hx => by
    simpa using (h2 .closed u).symm.trans hx
  have h4 : ∀ u, ((enterClosing d u).side d).state ≠ .released := fun u hx => by
    simpa using (h2 .closing u).symm.trans hx
  unfold restartSide
  dsimp only
  split
  · split_ifs
    · exact h3 _
    · exact h4 _
  · split_ifs
    · exact h3 _
    · exact h4 _
  · rename_i hs
    rw [State.side_setSide, hs]
    decide
  · rename_i hs
    rw [State.side_setSide, hs]
    decide

theorem restartDoors_state (d : Side) (s : State) : ((restartDoors s).side d).state ≠ .released := by
  have h1 : ∀ u, (restartDoors u).side d = (restartSide .b (restartSide .a u)).side d := fun u => rfl
  rw [h1]
  cases d with
  | a =>
    rw [restartSide_side_ne (by decide)]
    exact restartSide_state .a s
  | b => exact restartSide_state .b _

theorem doorsSafe_restartNode {levels : Levels} {s : State} : (restartNode levels s).DoorsSafe := by
  unfold restartNode
  refine (steps_evaluateRole (steps_restartHeat (steps_restartConsist (.refl _)))).keeps_of_acts (P := State.DoorsSafe)
    act_doorsSafe ?_
  rw [doorsSafe_iff]
  exact fun d hr => absurd hr (restartDoors_state d _)

theorem large_doorsSafe {c : Instr} (s t : State) (hl : Large c s t) (h : s.DoorsSafe) : t.DoorsSafe := by
  cases hl with
  | up p _ _ _ =>
    refine (steps_portReport _ _ (.refl _)).keeps_of_acts act_doorsSafe ?_
    exact h
  | grant n _ _ =>
    exact doorsSafe_door (s := s) (by simp) (by simp) (fun d => by simp [State.side]) h
  | edge n _ _ => exact doorsSafe_takeEdge h
  | sample levels _ => exact doorsSafe_sampleLines h
  | write o q _ _ _ => exact doorsSafe_writeValues h
  | restart levels _ => exact doorsSafe_restartNode
  | powerOn _ _ =>
    rw [doorsSafe_iff]
    intro d hr
    cases d <;> exact nomatch hr
  | startCheck pass _ _ _ => exact h
  | _ => exact h

/-- Settles O27: the interlock, the walk timers, the close timers and the fallback by the acts and the parts of a larger
change, the doors and the stage by the larger changes themselves. -/
theorem outputsStaySafe : Obligations.OutputsStaySafe :=
  ⟨fun _ _ _ he hi hw => ⟨exec_keeps act_interlockSafe raw_interlockSafe he hi,
      exec_keeps act_walkTimersSafe raw_walkTimersSafe he hw⟩,
    fun _ _ _ he => ⟨(exec_steps he).keeps act_doorsSafe large_doorsSafe,
      exec_keeps act_closeTimerSafe raw_closeTimerSafe he⟩,
    fun _ _ _ he => ⟨(exec_steps he).keeps act_heatSafe large_heatSafe,
      exec_keeps act_fallbackSafe raw_fallbackSafe he⟩⟩

end Sys2Proof.Machine
end

section
/-! Every command keeps role, consist state, cleared consist and running timers legal. -/

namespace Sys2Proof.Machine

open Sys2Proof

/-! ### Roles, states and timers act by act (R41, R63, R69, R181) -/

theorem act_stateOfRole (s t : State) (a : Act s t) (h : s.StateOfRole) : t.StateOfRole := by
  rcases a.consist_cases with hc | ⟨y, hm, rfl⟩
  · rw [stateOfRole_iff] at h ⊢
    rwa [hc]
  · exact hm.legal h

/-- A part of a larger change leaves role, state and what the consist holds, but for a power-on. -/
theorem Raw.consist_cases {c : Instr} {s t : State} (r : Raw c s t) : t = poweredOn s ∨ ∃ k d,
    t.consist = { s.consist with coachClass := k, doors := d } := by
  cases r with
  | powerOn _ _ => exact .inl rfl
  | descriptor k d _ => exact .inr ⟨k, d, rfl⟩
  | _ => exact .inr ⟨_, _, rfl⟩

theorem raw_stateOfRole {c : Instr} (s t : State) (r : Raw c s t) (h : s.StateOfRole) : t.StateOfRole := by
  rw [stateOfRole_iff] at h ⊢
  rcases r.consist_cases with rfl | ⟨k, d, hc⟩
  · rfl
  · rw [hc]
    exact h

theorem act_outsideSafe (s t : State) (a : Act s t) (h : s.OutsideSafe) : t.OutsideSafe := by
  rcases a.consist_cases with hc | ⟨y, hm, rfl⟩
  · unfold State.OutsideSafe State.ConsistCleared
    rwa [hc]
  · exact hm.outside h

theorem raw_outsideSafe {c : Instr} (s t : State) (r : Raw c s t) (h : s.OutsideSafe) : t.OutsideSafe := by
  rcases r.consist_cases with rfl | ⟨k, d, hc⟩
  · exact fun _ => ⟨rfl, rfl, rfl, rfl⟩
  · unfold State.OutsideSafe State.ConsistCleared
    rw [hc]
    exact h

/-- R141, R157, R181: the timers of each role, with the two conditions they rest on. -/
def State.TimersLegal (s : State) : Prop := s.StateOfRole ∧ s.WalkTimersSafe ∧ s.TimersSafe

theorem act_timersLegal (s t : State) (a : Act s t) (h : s.TimersLegal) : t.TimersLegal := by
  obtain ⟨hr, hw, ht⟩ := h
  refine ⟨act_stateOfRole s t a hr, act_walkTimersSafe s t a hw, ?_⟩
  rcases a.consist_cases with hc | ⟨y, hm, rfl⟩
  · have hmaster : t.isMaster = s.isMaster := by rw [State.isMaster, State.isMaster, hc]
    have hq : ∀ {u}, s.count u = none → u ≠ .t15 → ¬s.mayRun u → t.count u = none := fun hu hne hn =>
      (a.count_none hu).elim id fun hx => hx.elim (fun hx => absurd hx hn) fun hx => absurd hx.1 hne
    have hstable : s.isMaster = false → s.stableMaster = false := fun hm => by simp [State.stableMaster, hm]
    constructor
    · intro hm
      rw [hmaster] at hm
      obtain ⟨h2, h3, h4, h7, h8, h11, h12⟩ := ht.1 hm
      obtain ⟨k7, k8, k11, k12⟩ := a.walkCounts (hstable hm) ⟨h7, h8, h11, h12⟩
      exact ⟨hq h2 (by decide) (by simp [State.mayRun, hm]), hq h3 (by decide) (by simp [State.mayRun, hm]),
        hq h4 (by decide) (by simp [State.mayRun, hm]), k7, k8, k11, k12⟩
    · intro hm
      rw [hmaster] at hm
      obtain ⟨h5, h6, h9⟩ := ht.2 hm
      exact ⟨hq h5 (by decide) (by simp [State.mayRun, hm]), hq h6 (by decide) (by simp [State.mayRun, hm]),
        hq h9 (by decide) (by simp [State.mayRun, hm])⟩
  · exact hm.timers hr hw ht

theorem raw_timersLegal {c : Instr} (s t : State) (r : Raw c s t) (h : s.TimersLegal) : t.TimersLegal := by
  obtain ⟨hr, hw, ht⟩ := h
  refine ⟨raw_stateOfRole s t r hr, raw_walkTimersSafe s t r hw, ?_⟩
  cases r with
  | portStart _ _ =>
    have hc : ∀ u, (∀ p, u ≠ .t0 p) → (∀ p, u ≠ .t1 p) → (portsStarted s).count u = s.count u := fun u h0 h1 =>
      count_portsStarted h0 h1 s
    have hm : (portsStarted s).isMaster = s.isMaster := rfl
    unfold State.TimersSafe
    rw [hm, hc .t2 (by simp) (by simp), hc .t3 (by simp) (by simp), hc .t4 (by simp) (by simp),
      hc .t5 (by simp) (by simp), hc .t6 (by simp) (by simp), hc .t7 (by simp) (by simp), hc .t8 (by simp) (by simp),
      hc .t9 (by simp) (by simp), hc .t11 (by simp) (by simp), hc .t12 (by simp) (by simp)]
    exact ht
  | powerOn _ _ => exact ⟨fun _ => ⟨rfl, rfl, rfl, rfl, rfl, rfl, rfl⟩, Bool.noConfusion⟩
  | _ => exact ht

/-! ### The MASTER role (R42, R44) -/

theorem upPorts_length (s : State) :
    s.upPorts.length = (if s.isUp .e1 then 1 else 0) + (if s.isUp .e2 then 1 else 0) := by
  unfold State.upPorts
  cases h1 : s.isUp .e1 <;> cases h2 : s.isUp .e2 <;> simp [h1, h2]

/-- R42: no more ports are UP than were. -/
theorem upPorts_length_le {s t : State} (h : ∀ p, t.isUp p = true → s.isUp p = true) :
    t.upPorts.length ≤ s.upPorts.length := by
  have hp : ∀ p, (if t.isUp p then 1 else 0) ≤ (if s.isUp p then 1 else 0) := fun p => by
    split_ifs with h1 h2
    · exact le_rfl
    · exact absurd (h p h1) h2
    · exact Nat.zero_le _
    · exact le_rfl
  rw [upPorts_length, upPorts_length]
  exact Nat.add_le_add (hp .e1) (hp .e2)

theorem roleSafe_of {s t : State} (hr : t.consist.role = s.consist.role) (hc : s.cab = true → t.cab = true)
    (hu : ∀ p, t.isUp p = true → s.isUp p = true) (h : s.RoleSafe) : t.RoleSafe :=
  h.imp hr.trans fun ⟨h1, h2⟩ => ⟨hc h1, (upPorts_length_le hu).trans h2⟩

/-- What a master's ports allow, whatever its cab shows. -/
abbrev State.RolePorts (s : State) : Prop := s.consist.role = .member ∨ s.upPorts.length ≤ 1

theorem rolePorts_of {s t : State} (hr : t.consist.role = s.consist.role)
    (hu : ∀ p, t.isUp p = true → s.isUp p = true) (h : s.RolePorts) : t.RolePorts :=
  h.imp hr.trans (upPorts_length_le hu).trans

theorem cab_of_shown {s t : State} (h : SameShown s t .cabActive) : t.cab = s.cab := h.2

theorem cab_of_lines {s t : State} (h : t.lines = s.lines) : t.cab = s.cab := cab_of_shown (sameShown_of_lines h _)

/-- The new master of an act was a master or may lead. -/
theorem ConsistMove.master {s : State} {y : ConsistUnit} (hm : ConsistMove s y) (h : s.isMaster = true → s.cab = true
      ∧ s.upPorts.length ≤ 1) : y.role = .member ∨ s.cab = true ∧ s.upPorts.length ≤ 1 := by
  cases hr : y.role with
  | member => exact .inl rfl
  | master =>
    refine .inr ((hm.role hr).elim h fun hl => ?_)
    simpa [State.mayLead] using hl

/-- An act brings no port UP. -/
theorem Act.isUp_of {s t : State} (a : Act s t) (p : Port) (h : t.isUp p = true) : s.isUp p = true := by
  cases a with
  | port q x _ hx =>
    by_cases hp : p = q
    · rw [hp, isUp_setPort_same, hx] at h
      exact hp ▸ h
    · rwa [isUp_setPort_ne hp] at h
  | leave q x _ hx =>
    by_cases hp : p = q
    · rw [hp, State.isUp_setQueues, isUp_setPort_same] at h
      simp [hx] at h
    · rwa [State.isUp_setQueues, isUp_setPort_ne hp] at h
  | release d _ _ _ => simpa [State.isUp, State.port] using h
  | _ => exact h

/-- An act leaves what every function shows. -/
theorem Act.sameShown {s t : State} (a : Act s t) (f : LineFunction) : SameShown s t f := by
  cases a with
  | collect _ => exact sameShown_map s collected_same f
  | quiet _ =>
    exact sameShown_map (g := fun l => { l with generalOut := false, change := .none }) s (fun _ => ⟨rfl, rfl⟩) f
  | release d _ _ _ => exact sameShown_of_lines (by simp) f
  | _ => exact sameShown_of_lines rfl f

theorem act_roleSafe (s t : State) (a : Act s t) (h : s.RoleSafe) : t.RoleSafe := by
  rcases a.consist_cases with hc | ⟨y, hm, rfl⟩
  · exact roleSafe_of (by rw [hc]) (cab_of_shown (a.sameShown _)).trans a.isUp_of h
  · exact hm.master fun hx => h.resolve_left fun hr => by simp [State.isMaster, hr] at hx

theorem act_rolePorts (s t : State) (a : Act s t) (h : s.RolePorts) : t.RolePorts := by
  rcases a.consist_cases with hc | ⟨y, hm, rfl⟩
  · exact rolePorts_of (by rw [hc]) a.isUp_of h
  · cases hr : y.role with
    | member => exact .inl hr
    | master =>
      rcases hm.role hr with hx | hx
      · exact .inr (h.resolve_left fun hk => by simp [State.isMaster, hk] at hx)
      · exact .inr (by simpa using ((Bool.and_eq_true _ _).mp hx).2)

theorem reproof_roleSafe (s t : State) (r : Reproof s t) (h : s.RoleSafe) : t.RoleSafe := by
  cases r
  exact h

theorem reproof_rolePorts (s t : State) (r : Reproof s t) (h : s.RolePorts) : t.RolePorts := by
  cases r
  exact h

/-- R42, R45: a node that evaluates its role has one its cab and its ports allow. -/
theorem roleSafe_evaluateRole {s : State} (h : s.RolePorts) : (evaluateRole s).RoleSafe := by
  have hmember : s.isMaster ≠ true → s.consist.role = .member := fun hm =>
    (isMaster_eq_false_iff s).mp (Bool.eq_false_iff.mpr hm)
  unfold evaluateRole
  split_ifs with hm hc hl
  · exact .inr ⟨hc, h.resolve_left fun hr => by simp [State.isMaster, hr] at hm⟩
  · exact .inl (loseRole_role s)
  · exact (steps_becomeMaster hl (.refl s)).keeps_of_acts act_roleSafe (.inl (hmember hm))
  · exact .inl (hmember hm)

/-! ### The first sample (R117) -/

/-- R117: a line before the first sample. -/
def LineRecord.Unsampled (l : LineRecord) : Prop := l.qualified = false ∧ (l.change = .none ∨ l.change = .afresh)

theorem powerOn_unsampled : LineRecord.powerOn.Unsampled := ⟨rfl, .inl rfl⟩

theorem sampleSafe_iff (s : State) : s.SampleSafe ↔ s.lines.firstSample = false ∨ ∀ n, (s.lineAt n).Unsampled := by
  refine or_congr Iff.rfl ⟨fun h n => ?_, fun h l hl => ?_⟩
  · by_cases hn : n < s.lines.line.length
    · exact h _ (by simp [State.lineAt, List.getD, hn])
    · rw [lineAt_of_le (not_lt.mp hn)]
      exact powerOn_unsampled
  · obtain ⟨n, hn, rfl⟩ := List.getElem_of_mem hl
    have hu := h n
    rw [State.lineAt, List.getD_eq_getElem _ _ hn] at hu
    exact hu

theorem sampleSafe_of_lines {s t : State} (hl : t.lines = s.lines) (h : s.SampleSafe) : t.SampleSafe := by
  unfold State.SampleSafe
  rwa [hl]

theorem sampleSafe_map {g : LineRecord → LineRecord} {s : State} (hg : ∀ l : LineRecord, l.Unsampled → (g l).Unsampled)
    (h : s.SampleSafe) : (s.setLines { s.lines with line := s.lines.line.map g }).SampleSafe :=
  h.imp id fun hx l hl => by
    obtain ⟨k, hk, rfl⟩ := List.mem_map.mp hl
    exact hg k (hx k hk)

theorem act_sampleSafe (s t : State) (a : Act s t) (h : s.SampleSafe) : t.SampleSafe := by
  cases a with
  | collect _ => exact sampleSafe_map (fun _ hx => hx) h
  | quiet _ =>
    exact sampleSafe_map (g := fun l => { l with generalOut := false, change := .none }) (fun _ hx => ⟨hx.1, .inl rfl⟩) h
  | release d _ _ _ => exact sampleSafe_of_lines (by simp) h
  | _ => exact h

theorem reproof_sampleSafe (s t : State) (r : Reproof s t) (h : s.SampleSafe) : t.SampleSafe := by
  cases r
  exact h

theorem sampleSafe_setLine {n : Nat} {x : LineRecord} {s : State} (hx : (s.lineAt n).Unsampled → x.Unsampled)
    (h : s.SampleSafe) : (s.setLine n x).SampleSafe := by
  rw [sampleSafe_iff] at h ⊢
  refine h.imp id fun hu m => ?_
  by_cases hm : m = n
  · subst hm
    by_cases hlen : m < s.lines.line.length
    · rw [lineAt_setLine_same s x hlen]
      exact hx (hu m)
    · rw [lineAt_of_le (by simpa using hlen)]
      exact powerOn_unsampled
  · rw [lineAt_setLine_ne s x hm]
    exact hu m

theorem sampleSafe_writeLinesAt {g : LineEntry → LineRecord → LineRecord}
    (hg : ∀ e l, LineRecord.Unsampled l → (g e l).Unsampled) (i : Nat) (l : List LineEntry) {s : State}
    (h : s.SampleSafe) : (writeLinesAt g i l s).SampleSafe :=
  foldl_keeps _ (fun _ x hu => sampleSafe_setLine (hg x.1 _) hu) h

theorem removed_unsampled (e : LineEntry) (l : LineRecord) (h : l.Unsampled) : (l.removed e).Unsampled := by
  have hd : (l.setDebounce e.debounce).Unsampled := by
    unfold LineRecord.setDebounce
    split_ifs
    · exact h
    · refine ⟨h.1, ?_⟩
      rcases h.2 with hc | hc <;> simp [hc, PendingChange.remeasured]
  unfold LineRecord.removed LineRecord.setArming
  split_ifs
  · exact ⟨rfl, .inl rfl⟩
  · exact hd
  · exact hd

theorem setEntry_unsampled (e : LineEntry) (l : LineRecord) (h : l.Unsampled) : (l.setEntry e).Unsampled := h

/-! ### Role and first sample together (log 6, log 7) -/

/-- The role and the first sample, which keep each other. -/
abbrev State.RoleLegal (s : State) : Prop := s.RoleSafe ∧ s.SampleSafe

theorem act_roleLegal (s t : State) (a : Act s t) (h : s.RoleLegal) : t.RoleLegal :=
  ⟨act_roleSafe s t a h.1, act_sampleSafe s t a h.2⟩

theorem reproof_roleLegal (s t : State) (r : Reproof s t) (h : s.RoleLegal) : t.RoleLegal :=
  ⟨reproof_roleSafe s t r h.1, reproof_sampleSafe s t r h.2⟩

/-- R42, R44: a second UP port takes the MASTER role. -/
theorem roleSafe_becomeUp {p : Port} {s : State} (h : s.RoleSafe) : (becomeUp p s).RoleSafe := by
  unfold becomeUp
  have hr : (s.setPort p { s.port p with link := .up, score := 0 }).consist.role = .member
      ∨ (s.setPort p { s.port p with link := .up, score := 0 }).cab = true := h.imp id And.left
  generalize s.setPort p { s.port p with link := .up, score := 0 } = u at hr
  have hlen : u.upPorts.length ≤ 2 := by
    rw [upPorts_length]
    split_ifs <;> decide
  by_cases hm : u.isMaster = true ∧ u.upPorts.length = 2
  · rw [portReport, if_pos hm.1, if_pos ⟨rfl, hm.2⟩]
    have hl := loseRole_role (recordFault .cabMid .node u)
    exact (steps_memberReport _ _ ((isMaster_eq_false_iff _).mpr hl) (.refl _)).keeps_of_acts act_roleSafe (.inl hl)
  · refine (steps_portReport .portUp p (.refl u)).keeps_of_acts act_roleSafe ?_
    cases hx : u.isMaster with
    | false => exact .inl ((isMaster_eq_false_iff u).mp hx)
    | true =>
      have hcab := hr.resolve_left fun hk => by simp [State.isMaster, hk] at hx
      have hne : u.upPorts.length ≠ 2 := fun h2 => hm ⟨hx, h2⟩
      exact .inr ⟨hcab, by omega⟩

theorem firstSample_of_due {n : Nat} {s : State} (hd : (s.lineAt n).due s.timers.timebase = true) (h : s.SampleSafe) :
    s.lines.firstSample = false := by
  refine ((sampleSafe_iff s).mp h).resolve_right fun hu => ?_
  rcases (hu n).2 with hc | hc <;> simp [LineRecord.due, hc] at hd

theorem roleSafe_cabEdge {s : State} (h : s.RolePorts) : (cabEdge s).RoleSafe := by
  unfold cabEdge
  split_ifs with hc
  · refine .inl ((isMaster_eq_false_iff s).mp ?_)
    simp only [Bool.and_eq_true, Bool.not_eq_true'] at hc
    exact hc.1.1
  · exact roleSafe_evaluateRole h

theorem roleSafe_ownerEdge {f : LineFunction} {level : Bool} {s : State} (hp : s.RolePorts)
    (h : f = .cabActive ∨ s.RoleSafe) : (ownerEdge f level s).RoleSafe := by
  by_cases hf : f = .cabActive
  · rw [hf]
    exact roleSafe_cabEdge hp
  · exact (steps_ownerEdge reproof_proofs f level (.refl s)).keeps act_roleSafe reproof_roleSafe (h.resolve_left hf)

theorem roleSafe_ownerTold {p : Proof} {f : LineFunction} {s : State} (hp : s.RolePorts)
    (h : f = .cabActive ∨ s.RoleSafe) : (ownerTold p f s).RoleSafe := by
  by_cases hf : f = .cabActive
  · rw [hf]
    exact roleSafe_evaluateRole hp
  · exact (steps_ownerTold reproof_proofs p f (.refl s)).keeps act_roleSafe reproof_roleSafe (h.resolve_left hf)

theorem rolePorts_ownerTold {p : Proof} {f : LineFunction} {s : State} (h : s.RolePorts) : (ownerTold p f s).RolePorts :=
  (steps_ownerTold reproof_proofs p f (.refl s)).keeps act_rolePorts reproof_rolePorts h

theorem rolePorts_of_roleSafe {s : State} (h : s.RoleSafe) : s.RolePorts := h.imp id And.right

/-- R42, R109: the role is legal again when all owners have been told. -/
theorem roleSafe_notices {p : Proof} {l : List LineFunction} {s : State} (hp : s.RolePorts)
    (h : LineFunction.cabActive ∈ l ∨ s.RoleSafe) : (notices (ownerTold p) l s).RoleSafe := by
  induction l generalizing s with
  | nil => exact h.resolve_left (by simp)
  | cons f l ih =>
    refine ih (rolePorts_ownerTold hp) ?_
    rcases h with hm | hs
    · rcases List.mem_cons.mp hm with hf | hm
      · exact .inr (roleSafe_ownerTold hp (.inl hf.symm))
      · exact .inl hm
    · exact .inr (roleSafe_ownerTold hp (.inr hs))

theorem roleSafe_setLines {s : State} {x : LineUnit} (hl : SameShown s (s.setLines x) .cabActive) (h : s.RoleSafe) :
    (s.setLines x).RoleSafe := roleSafe_of (s := s) rfl (cab_of_shown hl).trans (fun _ => id) h

theorem roleSafe_writeLinesAt {g : LineEntry → LineRecord → LineRecord} {i : Nat} {l : List LineEntry} {s : State}
    (hl : SameShown s (writeLinesAt g i l s) .cabActive) (h : s.RoleSafe) : (writeLinesAt g i l s).RoleSafe := by
  rw [(writeLinesAt_eq g i l s).1] at hl ⊢
  exact roleSafe_setLines hl h

theorem rolePorts_writeLinesAt {g : LineEntry → LineRecord → LineRecord} {i : Nat} {l : List LineEntry} {s : State}
    (h : s.RolePorts) : (writeLinesAt g i l s).RolePorts := by
  rw [(writeLinesAt_eq g i l s).1]
  exact h

theorem roleSafe_applyLines {i : Nat} {l : List LineEntry} {s : State} (h : s.RoleSafe) :
    (applyLines i l s).RoleSafe := by
  have h1 : (notices ownerAbsent (s.removedFunctions i l) (writeLinesAt LineRecord.removed i l s)).RoleSafe := by
    refine roleSafe_notices (rolePorts_writeLinesAt (rolePorts_of_roleSafe h)) ?_
    by_cases hd : LineFunction.cabActive ∈ s.removedFunctions i l
    · exact .inl hd
    · exact .inr (roleSafe_writeLinesAt (sameShown_removed (by simp) hd) h)
  have ht : Removed i l s (notices ownerAbsent (s.removedFunctions i l) (writeLinesAt LineRecord.removed i l s)) :=
    notices_lines ..
  unfold applyLines
  dsimp only
  generalize notices ownerAbsent (s.removedFunctions i l) (writeLinesAt LineRecord.removed i l s) = t at h1 ht
  refine roleSafe_notices (rolePorts_writeLinesAt (rolePorts_of_roleSafe h1)) ?_
  by_cases hd : LineFunction.cabActive ∈ s.addedFunctions i l
  · exact .inl hd
  · exact .inr (roleSafe_writeLinesAt (sameShown_added ht (by simp) hd) h1)

theorem sampleSafe_applyLines {i : Nat} {l : List LineEntry} {s : State} (h : s.SampleSafe) :
    (applyLines i l s).SampleSafe := by
  have h1 := sampleSafe_writeLinesAt removed_unsampled i l h
  refine sampleSafe_of_lines (notices_lines ..) (sampleSafe_writeLinesAt setEntry_unsampled i l ?_)
  exact sampleSafe_of_lines (notices_lines ..) h1

theorem roleLegal_writeValues {o : Object} {q : Req} {s : State} (h : s.RoleLegal) :
    (writeValues o q s).1.RoleLegal := by
  cases o with
  | service =>
    dsimp only [writeValues, writeServiceTable]
    split <;> exact h
  | groups =>
    dsimp only [writeValues, writeGroupTable]
    split_ifs <;> exact h
  | lines =>
    dsimp only [writeValues, writeLineTable]
    split
    · split_ifs
      · exact ⟨roleSafe_applyLines h.1, sampleSafe_applyLines h.2⟩
      · exact h
    · exact h
  | generalOut =>
    dsimp only [writeValues, writeOutputs]
    split_ifs
    · refine foldl_keeps (P := State.RoleLegal) _ (fun u x hu => ⟨?_, ?_⟩) h
      · exact roleSafe_setLines (sameShown_setLine (by simp) (showsAs_of_same rfl rfl _)) hu.1
      · exact sampleSafe_setLine (x := { u.lineAt x.2 with generalOut := isOne x.1 }) id hu.2
    · exact h
  | doorInhibit =>
    dsimp only [writeValues, writeInhibits]
    split_ifs
    · refine foldl_keeps (P := State.RoleLegal) _ (fun u x hu => ?_) h
      unfold setInhibit
      dsimp only
      split_ifs
      · exact (steps_closeReleased _ (.refl _)).keeps_of_acts act_roleLegal hu
      · exact hu
    · exact h
  | coachDescriptor =>
    dsimp only [writeValues, writeDescriptor]
    split
    · have hc : ∀ d u, Steps NoLarge u (closeDoorless d u) := fun d u =>
        steps_ite (fun _ => .refl u) fun hs => steps_enterClosed d hs (.refl u)
      refine (steps_heatRefresh (.refl _)).keeps_of_acts act_roleLegal ?_
      dsimp only
      split_ifs
      · exact ((hc _ _).trans (hc _ _)).keeps_of_acts act_roleLegal h
      · exact h
    · exact h
  | heatProfile =>
    dsimp only [writeValues, writeProfile]
    split_ifs <;> exact h
  | heatSettings =>
    refine (steps_heatSettingsTaken (.refl _)).keeps_of_acts act_roleLegal
      (foldl_keeps (P := State.RoleLegal) _ (fun u x hu => ?_) h)
    unfold setHeatSetting
    split_ifs <;> exact hu
  | heatDemand =>
    dsimp only [writeValues, writeDemand]
    split
    · exact (steps_heatRefresh (.refl _)).keeps_of_acts act_roleLegal h
    · exact h
  | supplyLimit =>
    dsimp only [writeValues, writeLimit]
    split <;> exact h
  | timers => exact (steps_rerunTimers _ _ (.refl _)).keeps_of_acts act_roleLegal h
  | identity | status | consist | lineLevels | lineReport | faults => exact h

/-- R117: before the first sample no cab is asserted, so that the node is a member. -/
theorem member_of_firstSample {s : State} (h : s.RoleLegal) (hf : s.lines.firstSample = true) :
    s.consist.role = .member := by
  refine h.1.resolve_right fun hc => ?_
  obtain ⟨n, -, hq⟩ := (asserted_iff s .cabActive).mp hc.1
  have hu := ((sampleSafe_iff s).mp h.2).resolve_left (by simp [hf]) n
  simp [hu.1] at hq

theorem roleLegal_sampleLines {levels : Levels} {s : State} (h : s.RoleLegal) : (sampleLines levels s).RoleLegal := by
  have hrole : ∀ (g : Bool → LineRecord → LineRecord) (b : Bool),
      (∀ r l, (g r l).entry.function = l.entry.function ∧ (g r l).qualified = l.qualified) →
      (s.setLines ⟨sampleAll g levels s.lines.line, b⟩).RoleSafe := fun g b hg =>
    roleSafe_setLines (sameShown_sampleAll (by simp) levels b hg) h.1
  have hraw : (s.setLines { s.lines with line := sampleAll LineRecord.rawTaken levels s.lines.line }).RoleLegal := by
    refine ⟨hrole _ _ fun _ _ => ⟨rfl, rfl⟩, h.2.imp id fun hu l hl => ?_⟩
    obtain ⟨n, hn, rfl⟩ := List.mem_mapIdx.mp hl
    exact hu s.lines.line[n] (List.getElem_mem hn)
  unfold sampleLines sampleOperating
  split
  · exact h
  · split_ifs with hf
    · have hm := member_of_firstSample h hf
      have h1 : (s.setLines ⟨sampleAll LineRecord.taken levels s.lines.line, false⟩).RoleLegal :=
        ⟨.inl hm, .inl rfl⟩
      exact (steps_rereadOwners reproof_proofs (.refl _)).keeps act_roleLegal reproof_roleLegal h1
    · exact ⟨hrole _ _ fun _ _ => ⟨rfl, rfl⟩, .inl (Bool.eq_false_iff.mpr hf)⟩
  · exact hraw
  · exact hraw

theorem roleLegal_takeEdge {n : Nat} {s : State} (hd : (s.lineAt n).due s.timers.timebase = true) (h : s.RoleLegal) :
    (takeEdge n s).RoleLegal := by
  have hfirst := firstSample_of_due hd h.2
  have hf : (s.setLine n (s.lineAt n).edged).SampleSafe := .inl hfirst
  rw [takeEdge_eq]
  have hports := rolePorts_of_roleSafe h.1
  refine ⟨roleSafe_ownerEdge hports ?_,
    (steps_ownerEdge reproof_proofs _ _ (.refl _)).keeps act_sampleSafe reproof_sampleSafe hf⟩
  by_cases hc : (s.lineAt n).entry.function = .cabActive
  · exact .inl hc
  · exact .inr (roleSafe_setLines (sameShown_edge (by simp) hc) h.1)

theorem roleLegal_restartNode {levels : Levels} {s : State} : (restartNode levels s).RoleLegal := by
  have hlink := steps_restartDoors (X := Reproof) reproof_proofs
    (.refl (restartLines levels (restartRelay (restartPorts s))))
  have h1 := steps_restartHeat (steps_restartConsist hlink)
  have hports : (restartLines levels (restartRelay (restartPorts s))).RolePorts := by
    refine .inr ?_
    rw [upPorts_length]
    exact Nat.zero_le _
  unfold restartNode
  generalize restartHeat (restartConsist (restartDoors (restartLines levels (restartRelay (restartPorts s))))) = u at h1
  exact ⟨roleSafe_evaluateRole (h1.keeps act_rolePorts reproof_rolePorts hports),
    (steps_evaluateRole h1).keeps act_sampleSafe reproof_sampleSafe (.inl rfl)⟩

theorem large_roleLegal {c : Instr} (s t : State) (hl : Large c s t) (h : s.RoleLegal) : t.RoleLegal := by
  cases hl with
  | up p _ _ _ =>
    refine ⟨roleSafe_becomeUp h.1, ?_⟩
    exact (steps_portReport _ _ (.refl _)).keeps_of_acts act_sampleSafe h.2
  | grant n _ _ =>
    refine ⟨roleSafe_of (s := s) (by simp) (cab_of_lines (by simp)).trans (fun p hp => ?_) h.1,
      sampleSafe_of_lines (by simp) h.2⟩
    simpa [State.isUp, State.port] using hp
  | edge n _ hd => exact roleLegal_takeEdge hd h
  | sample levels _ => exact roleLegal_sampleLines h
  | write o q _ _ _ => exact roleLegal_writeValues h
  | restart levels _ => exact roleLegal_restartNode
  | powerOn _ _ =>
    refine ⟨.inl rfl, .inr fun l hl => ?_⟩
    rw [List.eq_of_mem_replicate hl]
    exact powerOn_unsampled
  | startCheck pass _ _ _ => cases pass <;> exact h
  | portStart _ _ => exact ⟨roleSafe_of (s := s) rfl id (fun p hp => by cases p <;> exact nomatch hp) h.1, h.2⟩
  | withdrawEnd _ _ => exact ⟨roleSafe_of (s := s) rfl id (fun p hp => by cases p <;> exact nomatch hp) h.1, h.2⟩
  | _ => exact h

/-- Settles O38: role and first sample by the larger changes, the rest by the acts and the parts of a larger change. -/
theorem consistStaysLegal : Obligations.ConsistStaysLegal := fun _ _ _ he =>
  ⟨(exec_steps he).keeps act_roleLegal large_roleLegal, exec_keeps act_stateOfRole raw_stateOfRole he,
    exec_keeps act_outsideSafe raw_outsideSafe he,
    fun hr hw ht => (exec_keeps act_timersLegal raw_timersLegal he ⟨hr, hw, ht⟩).2.2⟩

end Sys2Proof.Machine
end

section
/-! Every command keeps the fault table and the stored settings legal. -/

namespace Sys2Proof.Machine

open Sys2Proof

/-! ### Fault table (R199 to R201) -/

/-- A list whose elements stand in a symmetric relation, with one of them replaced by an element that stands in it to each. -/
theorem pairwise_set {α : Type} {R : α → α → Prop} {l : List α} (h : l.Pairwise R) (i : Nat) {x : α}
    (hx : ∀ y ∈ l, R x y ∧ R y x) : (l.set i x).Pairwise R := by
  induction l generalizing i with
  | nil => exact h
  | cons a l ih =>
    obtain ⟨ha, hl⟩ := List.pairwise_cons.mp h
    cases i with
    | zero => exact List.pairwise_cons.mpr ⟨fun y hy => (hx y (List.mem_cons_of_mem _ hy)).1, hl⟩
    | succ i =>
      refine List.pairwise_cons.mpr ⟨fun y hy => ?_, ih hl i fun y hy => hx y (List.mem_cons_of_mem _ hy)⟩
      rcases List.mem_or_eq_of_mem_set hy with hy | rfl
      · exact ha y hy
      · exact (hx a List.mem_cons_self).2

/-- R199: what no two slots share. -/
def slotKey (x : Option FaultRecord) : Option (FaultKind × FaultSource) := x.map fun r => (r.kind, r.source)

/-- R199: two slots of different kinds or sources. -/
def Apart (x y : Option FaultRecord) : Prop := ∀ k ∈ slotKey x, ∀ m ∈ slotKey y, k ≠ m

theorem keys_nodup_iff (t : FaultTable) : t.keys.Nodup ↔ t.slots.Pairwise Apart := List.pairwise_filterMap

theorem apart_none (y : Option FaultRecord) : Apart none y ∧ Apart y none := ⟨nofun, fun _ _ => nofun⟩

/-- R199: the count of one slot's record. -/
def SlotOk (x : Option FaultRecord) : Prop := ∀ r ∈ x, 1 ≤ r.count ∧ r.count ≤ 255

/-- A change of the records that keeps kinds and sources. -/
theorem tableSafe_of {t : FaultTable} {l : List (Option FaultRecord)} (hkeys : l.map slotKey = t.slots.map slotKey)
    (hc : ∀ x ∈ l, SlotOk x) (h : t.Safe) (b : Bool) : (FaultTable.mk l b).Safe := by
  have hk : ∀ u : FaultTable, u.keys = (u.slots.map slotKey).filterMap id := fun u => by
    rw [List.filterMap_map]
    rfl
  refine ⟨?_, ?_, hc⟩
  · simpa [h.1] using congrArg List.length hkeys
  · rw [hk, hkeys, ← hk]
    exact h.2.1

theorem tableSafe_set {t : FaultTable} {x : Option FaultRecord} (ha : ∀ y ∈ t.slots, Apart x y ∧ Apart y x)
    (hx : SlotOk x) (h : t.Safe) (i : Nat) : (FaultTable.mk (t.slots.set i x) t.overflow).Safe := by
  obtain ⟨hl, hn, hk⟩ := h
  refine ⟨by simpa using hl, ?_, fun y hy => ?_⟩
  · rw [keys_nodup_iff] at hn ⊢
    exact pairwise_set hn i ha
  · rcases List.mem_or_eq_of_mem_set hy with hy | rfl
    · exact hk y hy
    · exact hx

theorem tableSafe_record (k : FaultKind) (x : FaultSource) (now : Stamp) (epoch : Nat) {t : FaultTable} (h : t.Safe) :
    (t.record k x now epoch).Safe := by
  rcases record_cases t k x now epoch with ⟨-, he⟩ | ⟨hnone, i, -, he⟩ | ⟨-, -, he⟩ <;> rw [he]
  · refine tableSafe_of ?_ (fun y hy => ?_) h _
    · rw [List.map_map]
      refine congrArg (List.map · t.slots) (funext fun y => ?_)
      dsimp only [Function.comp]
      split_ifs
      · cases y <;> rfl
      · rfl
    · obtain ⟨z, hz, rfl⟩ := List.mem_map.mp hy
      have hok : SlotOk z := h.2.2 z hz
      split_ifs
      · cases z with
        | none => exact nofun
        | some r =>
          obtain ⟨h1, h2⟩ := hok r rfl
          rintro _ ⟨⟩
          simp only [FaultRecord.again]
          omega
      · exact hok
  · have hne : ∀ y ∈ t.slots, (k, x) ∉ slotKey y := fun y hy hm => by
      have hy' : holds k x y = false := by
        simpa using List.any_eq_false.mp hnone y hy
      cases y with
      | none => exact nomatch hm
      | some r =>
        have hr : (r.kind, r.source) = (k, x) := by simpa [slotKey] using hm
        cases hr
        simp [holds] at hy'
    refine tableSafe_set (fun y hy => ⟨?_, ?_⟩) ?_ h i
    · rintro _ ⟨⟩ m hm rfl
      exact hne y hy hm
    · rintro m hm _ ⟨⟩ rfl
      exact hne y hy hm
    · rintro _ ⟨⟩
      exact ⟨le_rfl, Nat.le_of_ble_eq_true rfl⟩
  · exact h

theorem act_tableSafe (s t : State) (a : Act s t) (h : s.faults.Safe) : t.faults.Safe := by
  cases a with
  | fault k x _ => exact tableSafe_record k x _ _ h
  | clear i _ =>
    rw [State.setFaults_faults, clearTable]
    split_ifs
    · refine ⟨by simpa using h.1, ?_, fun x hx => ?_⟩
      · rw [keys_nodup_iff]
        refine List.pairwise_iff_forall_sublist.mpr fun {x y} hxy => ?_
        obtain ⟨_, _, rfl⟩ := List.mem_map.mp (hxy.subset List.mem_cons_self)
        exact (apart_none y).1
      · obtain ⟨_, _, rfl⟩ := List.mem_map.mp hx
        exact nofun
    · exact tableSafe_set (fun y _ => apart_none y) nofun h i
  | read i c _ =>
    refine tableSafe_of (List.ext_getElem (by simp) fun n _ hn => ?_) (fun x hx => ?_) h _
    · simp only [List.getElem_map, List.getElem_mapIdx]
      split_ifs
      · rw [List.length_map] at hn
        cases s.faults.slots[n] <;> rfl
      · rfl
    · obtain ⟨n, hn, rfl⟩ := List.mem_mapIdx.mp hx
      have hok : SlotOk s.faults.slots[n] := h.2.2 _ (List.getElem_mem hn)
      split_ifs
      · rintro r hr
        obtain ⟨r0, hr0, rfl⟩ := Option.map_eq_some_iff.mp hr
        exact hok r0 hr0
      · exact hok
  | release d _ _ _ => simpa using h
  | _ => exact h

theorem raw_tableSafe {c : Instr} (s t : State) (r : Raw c s t) (h : s.faults.Safe) : t.faults.Safe := by
  cases r with
  | powerOn _ _ => exact ⟨rfl, List.nodup_nil, fun x hx => by rw [List.eq_of_mem_replicate hx]; exact nofun⟩
  | _ => exact h

/-! ### Stored settings (R40, R75, R86, R152 to R154, R176) -/

theorem act_settingsSafe (s t : State) (a : Act s t) (h : s.SettingsSafe) : t.SettingsSafe := by
  obtain ⟨hh, hr, ht, hc, hd⟩ := h
  cases a with
  | heat y _ hm =>
    refine ⟨?_, hr, ht, hc, hd⟩
    rw [State.setHeat_heat, HeatUnit.SettingsSafe, HeatUnit.ProfileSafe, hm.written, hm.cap, hm.stage, hm.limit,
      hm.profile]
    exact hh
  | consist y _ hm =>
    refine ⟨hh, hr, ht, ?_⟩
    rw [State.setConsist_consist, hm.coachClass, hm.doors]
    exact ⟨hc, hd⟩
  | banks _ =>
    obtain ⟨-, h2, -, h4, -⟩ := hr
    exact ⟨hh, ⟨h2, h2, h4, h4, Nat.mod_lt _ (by decide)⟩, ht, hc, hd⟩
  | release d _ _ _ =>
    have hheat : ∀ u : State, u.heat.SettingsSafe → (heatRefresh u).heat.SettingsSafe := fun u hu => by
      unfold heatRefresh
      split_ifs
      · rw [setApplied_heat]
        exact hu
      · exact hu
    have hset : ∀ u : State, u.timers.SettingsSafe → (heatRefresh u).timers.SettingsSafe := fun u hu => by
      unfold heatRefresh
      split_ifs
      · rcases setApplied_cases u.effectiveDemand u with he | he | he <;> rw [he] <;> exact hu
      · exact hu
    refine ⟨hheat _ (by simpa using hh), by simpa using hr, hset _ ?_, by simpa using hc, by simpa using hd⟩
    rw [show (stopTimer (.t10 d) (setDoorState d .released s)).timers.SettingsSafe
      ↔ (setDoorState d .released s).timers.SettingsSafe from Iff.rfl, setDoorState_timers]
    exact ht
  | _ => exact ⟨hh, hr, ht, hc, hd⟩

theorem resampled_settingsSafe (s t : State) (r : Resampled s t) (h : s.SettingsSafe) : t.SettingsSafe := by
  cases r <;> exact h

theorem length_pairs : ∀ l : List Byte, (pairs l).length = l.length / 2
  | [] => rfl
  | [_] => by simp [pairs]
  | a :: b :: l => by
    rw [pairs, List.length_cons, length_pairs l, List.length_cons, List.length_cons]
    omega

theorem length_triples : ∀ l : List Byte, (triples l).length = l.length / 3
  | [] => rfl
  | [_] => by simp [triples]
  | [_, _] => by simp [triples]
  | a :: b :: c :: l => by
    rw [triples, List.length_cons, length_triples l, List.length_cons, List.length_cons, List.length_cons]
    omega

theorem length_words (l : List Byte) : (words l).length = l.length / 2 := by
  rw [words, List.length_map, length_pairs]

/-- The elements of a list that all have an answer. -/
theorem mapM_some {α β : Type} {f : α → Option β} {l : List α} {r : List β} (h : l.mapM f = some r) :
    r.length = l.length ∧ ∀ y ∈ r, ∃ x ∈ l, f x = some y := by
  induction l generalizing r with
  | nil =>
    rw [List.mapM_nil] at h
    cases h
    exact ⟨rfl, nofun⟩
  | cons a l ih =>
    rw [List.mapM_cons] at h
    obtain ⟨b, hb, h⟩ := Option.bind_eq_some_iff.mp h
    obtain ⟨r', hr', h⟩ := Option.bind_eq_some_iff.mp h
    cases h
    obtain ⟨hl, hm⟩ := ih hr'
    refine ⟨by simp [hl], fun y hy => ?_⟩
    rcases List.mem_cons.mp hy with rfl | hy
    · exact ⟨a, List.mem_cons_self, hb⟩
    · obtain ⟨x, hx, he⟩ := hm y hy
      exact ⟨x, List.mem_cons_of_mem _ hx, he⟩

theorem length_replaceAt {α : Type} {l new : List α} {i : Nat} (h : i + new.length ≤ l.length) :
    (replaceAt l i new).length = l.length := by
  simp only [replaceAt, List.length_append, List.length_take, List.length_drop]
  omega

theorem mem_replaceAt {α : Type} {l new : List α} {i : Nat} {x : α} (h : x ∈ replaceAt l i new) : x ∈ l ∨ x ∈ new := by
  simp only [replaceAt, List.mem_append] at h
  rcases h with (h | h) | h
  · exact .inl (List.mem_of_mem_take h)
  · exact .inr h
  · exact .inl (List.mem_of_mem_drop h)

/-- R187, R188: what a write that passes its checks writes to. -/
theorem shapeOk_iff {o : Object} {q : Req} (h : o.shapeOk q = true) :
    q.count ≠ 0 ∧ q.data.length = q.count * o.size ∧ (o = .heatProfile → q.index = 0 ∧ q.count = 8) := by
  simp only [Object.shapeOk, Bool.and_eq_true, Bool.or_eq_true, bne_iff_ne, beq_iff_eq] at h
  obtain ⟨⟨h1, h2⟩, h3⟩ := h
  exact ⟨h1, h2, fun ho => h3.resolve_left fun hn => hn ho⟩

theorem indexOk_iff (s : State) (o : Object) (i c : Nat) :
    s.indexOk o i c = true ↔ (s.indexRange o).1 ≤ i ∧ i + c ≤ (s.indexRange o).2 := by
  simp [State.indexOk]

theorem settingsSafe_writeValues {o : Object} {q : Req} {s : State} (hs : o.shapeOk q = true)
    (hi : s.indexOk o q.index q.count = true) (h : s.SettingsSafe) : (writeValues o q s).1.SettingsSafe := by
  have hacts : ∀ {u v : State}, Steps Resampled u v → u.SettingsSafe → v.SettingsSafe := fun hu =>
    hu.keeps act_settingsSafe resampled_settingsSafe
  obtain ⟨-, hlen, hprofile⟩ := shapeOk_iff hs
  have hrange := ((indexOk_iff s o q.index q.count).mp hi).2
  obtain ⟨hheat, hrelay, htimers, hclass, hdoors⟩ := h
  have h : s.SettingsSafe := ⟨hheat, hrelay, htimers, hclass, hdoors⟩
  obtain ⟨hw, hcap, hstage, hlimit, hprof⟩ := hheat
  cases o with
  | service =>
    obtain ⟨h1, h2, h3, h4, h5⟩ := hrelay
    dsimp only [writeValues, writeServiceTable]
    split
    · rename_i l hl
      obtain ⟨hll, hmem⟩ := mapM_some hl
      refine ⟨⟨hw, hcap, hstage, hlimit, hprof⟩, ⟨h1, ?_, h3, fun e he => ?_, h5⟩, htimers, hclass, hdoors⟩
      · refine (length_replaceAt ?_).trans h2
        have hcount : q.data.length / 2 = q.count := by simp [hlen, Object.size]
        rw [h2, hll, length_pairs, hcount]
        exact hrange
      · rcases mem_replaceAt he with he | he
        · exact h4 e he
        · obtain ⟨x, -, hx⟩ := hmem e he
          unfold serviceOf at hx
          split at hx
          · by_cases hb : x.2.toNat ≤ 240
            · rw [if_pos hb] at hx
              cases hx
              exact hb
            · rw [if_neg hb] at hx
              cases hx
          · cases hx
    · exact h
  | groups =>
    dsimp only [writeValues, writeGroupTable]
    split_ifs <;> exact h
  | lines =>
    dsimp only [writeValues, writeLineTable]
    split
    · split_ifs
      · exact hacts (steps_applyLines resampled_proofs resampled_relines _ _ (.refl s)) h
      · exact h
    · exact h
  | generalOut =>
    dsimp only [writeValues, writeOutputs]
    split_ifs
    · refine foldl_keeps (P := State.SettingsSafe) _ (fun u x hu => ?_) h
      exact hu
    · exact h
  | doorInhibit =>
    dsimp only [writeValues, writeInhibits]
    split_ifs
    · refine foldl_keeps (P := State.SettingsSafe) _ (fun u x hu => ?_) h
      unfold setInhibit
      dsimp only
      split_ifs
      · exact hacts (steps_closeReleased _ (.refl _)) hu
      · exact hu
    · exact h
  | coachDescriptor =>
    dsimp only [writeValues, writeDescriptor]
    split
    · rename_i b _
      have hc : ∀ d u, Steps Resampled u (closeDoorless d u) := fun d u =>
        steps_ite (fun _ => .refl u) fun hs => steps_enterClosed d hs (.refl u)
      have h1 : (s.setConsist { s.consist with coachClass := b.toNat / 16, doors := b.toNat % 8 }).SettingsSafe := by
        refine ⟨⟨hw, hcap, hstage, hlimit, hprof⟩, hrelay, htimers, ?_, Nat.mod_lt _ (by decide)⟩
        have := b.isLt
        exact Nat.div_lt_of_lt_mul (by omega)
      refine hacts (steps_heatRefresh (.refl _)) ?_
      dsimp only
      split_ifs
      · exact hacts ((hc _ _).trans (hc _ _)) h1
      · exact h1
    · exact h
  | heatProfile =>
    dsimp only [writeValues, writeProfile]
    split_ifs with hok
    · simp only [profileOk, Bool.and_eq_true, beq_iff_eq, List.all_eq_true, decide_eq_true_eq] at hok
      obtain ⟨⟨hhead, hle⟩, hup⟩ := hok
      refine ⟨⟨hw, hcap, hstage, hlimit, ?_, hhead, hle, hup⟩, hrelay, htimers, hclass, hdoors⟩
      rw [State.setHeat_heat, length_words, hlen, (hprofile rfl).2, Object.size]
    · exact h
  | heatSettings =>
    refine hacts (steps_heatSettingsTaken (.refl _)) (foldl_keeps (P := State.SettingsSafe) _ (fun u x hu => ?_) h)
    obtain ⟨⟨k1, k2, k3, k4⟩, krest⟩ := hu
    unfold setHeatSetting
    split_ifs
    · exact ⟨⟨k1, Nat.min_le_left _ _, k3, k4⟩, krest⟩
    · exact ⟨⟨k1, k2, Nat.min_le_left _ _, k4⟩, krest⟩
  | heatDemand =>
    dsimp only [writeValues, writeDemand]
    split
    · refine hacts (steps_heatRefresh (.refl _)) ?_
      exact ⟨⟨Nat.min_le_left _ _, hcap, hstage, hlimit, hprof⟩, hrelay, htimers, hclass, hdoors⟩
    · exact h
  | supplyLimit =>
    dsimp only [writeValues, writeLimit]
    split
    · exact ⟨⟨hw, hcap, hstage, Nat.min_le_left _ _, hprof⟩, hrelay, htimers, hclass, hdoors⟩
    · exact h
  | timers =>
    obtain ⟨h1, h2⟩ := htimers
    refine hacts (steps_rerunTimers _ _ (.refl _))
      ⟨⟨hw, hcap, hstage, hlimit, hprof⟩, hrelay, ⟨?_, fun y hy => ?_⟩, hclass, hdoors⟩
    · refine (length_replaceAt ?_).trans h1
      have hcount : q.data.length / 2 = q.count := by simp [hlen, Object.size]
      rw [h1, List.length_map, length_words, hcount]
      exact hrange
    · rcases mem_replaceAt hy with hy | hy
      · exact h2 y hy
      · obtain ⟨w, -, rfl⟩ := List.mem_map.mp hy
        exact ⟨Nat.le_max_left _ _, max_le (by decide) (Nat.min_le_left _ _)⟩
  | identity | status | consist | lineLevels | lineReport | faults => exact h

theorem settingsSafe_reset : State.reset.SettingsSafe := by
  decide

theorem large_settingsSafe {c : Instr} (s t : State) (hl : Large c s t) (h : s.SettingsSafe) : t.SettingsSafe := by
  have hacts : ∀ {u v : State}, Steps Resampled u v → u.SettingsSafe → v.SettingsSafe := fun hu =>
    hu.keeps act_settingsSafe resampled_settingsSafe
  cases hl with
  | up p _ _ _ =>
    refine hacts (steps_portReport _ _ (.refl _)) ?_
    exact h
  | grant n _ _ =>
    rcases setApplied_cases (s.cappedGrant n) s with he | he | he <;> rw [he] <;> exact h
  | edge n _ _ => exact hacts (steps_takeEdge resampled_proofs resampled_relines _ (.refl s)) h
  | sample levels _ => exact hacts (steps_sampleLines resampled_proofs resampled_relines levels (.refl s)) h
  | write o q _ hs hi => exact settingsSafe_writeValues hs hi h
  | restart levels _ => exact hacts (steps_restartNode resampled_proofs resampled_relines levels (.refl s)) h
  | powerOn _ _ => exact settingsSafe_reset
  | startCheck pass _ _ _ => exact h
  | _ => exact h

end Sys2Proof.Machine
end

section
/-! Every command keeps the line function table and the proofs legal. -/

namespace Sys2Proof.Machine

open Sys2Proof

/-! ### Line function table (R104, R105, R111, R113) -/

theorem powerOn_lineOk : LineOk LineRecord.powerOn := ⟨by decide, nofun, by decide⟩

theorem lineAt_eq_getElem {s : State} {n : Nat} (h : n < s.lines.line.length) : s.lineAt n = s.lines.line[n] :=
  List.getD_eq_getElem _ _ h

theorem linesOk_iff (s : State) : (∀ l ∈ s.lines.line, LineOk l) ↔ ∀ n, LineOk (s.lineAt n) := by
  constructor
  · intro h n
    by_cases hn : n < s.lines.line.length
    · exact lineAt_eq_getElem hn ▸ h _ (List.getElem_mem hn)
    · exact lineAt_of_le (not_lt.mp hn) ▸ powerOn_lineOk
  · intro h l hl
    obtain ⟨n, hn, rfl⟩ := List.getElem_of_mem hl
    exact lineAt_eq_getElem hn ▸ h n

theorem functions_congr {s t : State} (hl : t.lines.line.length = s.lines.line.length)
    (h : ∀ n, (t.lineAt n).entry.function = (s.lineAt n).entry.function) : t.uniqueFunctions = s.uniqueFunctions := by
  unfold State.uniqueFunctions
  refine congrArg (List.filter _) (List.ext_getElem (by simp [hl]) fun n hn hm => ?_)
  have h1 := h n
  rw [List.length_map] at hn hm
  rw [lineAt_eq_getElem hn, lineAt_eq_getElem hm] at h1
  simpa using h1

/-- A change of the lines that keeps every function where it is. -/
theorem linesSafe_of {s t : State} (hl : t.lines.line.length = s.lines.line.length)
    (hf : ∀ n, (t.lineAt n).entry.function = (s.lineAt n).entry.function)
    (hok : ∀ n, LineOk (s.lineAt n) → LineOk (t.lineAt n)) (h : s.LinesSafe) : t.LinesSafe := by
  obtain ⟨h1, h2, h3⟩ := h
  refine ⟨hl.trans h1, by rwa [functions_congr hl hf], ?_⟩
  rw [linesOk_iff] at h3 ⊢
  exact fun n => hok n (h3 n)

theorem linesSafe_of_lines {s t : State} (hl : t.lines = s.lines) (h : s.LinesSafe) : t.LinesSafe := by
  unfold State.LinesSafe State.uniqueFunctions
  rwa [hl]

theorem linesSafe_map {g : LineRecord → LineRecord} {s : State}
    (hg : ∀ l, LineOk l → (g l).entry.function = l.entry.function ∧ LineOk (g l)) (h : s.LinesSafe) :
    (s.setLines { s.lines with line := s.lines.line.map g }).LinesSafe := by
  have hok := (linesOk_iff s).mp h.2.2
  have hm : ∀ n, (s.setLines { s.lines with line := s.lines.line.map g }).lineAt n = g (s.lineAt n)
      ∨ (s.setLines { s.lines with line := s.lines.line.map g }).lineAt n = s.lineAt n := fun n => by
    by_cases hn : n < s.lines.line.length
    · exact .inl (lineAt_map g s hn)
    · refine .inr ?_
      rw [lineAt_of_le (not_lt.mp hn), lineAt_of_le (by simpa using hn)]
  refine linesSafe_of (s := s) (by simp) (fun n => ?_) (fun n hl => ?_) h
  · rcases hm n with he | he <;> rw [he]
    exact (hg _ (hok n)).1
  · rcases hm n with he | he <;> rw [he]
    · exact (hg _ hl).2
    · exact hl

theorem linesSafe_setLine {n : Nat} {x : LineRecord} {s : State}
    (hf : x.entry.function = (s.lineAt n).entry.function) (hx : LineOk (s.lineAt n) → LineOk x) (h : s.LinesSafe) :
    (s.setLine n x).LinesSafe := by
  have hm : ∀ m, (s.setLine n x).lineAt m = s.lineAt m ∨ m = n ∧ (s.setLine n x).lineAt m = x := fun m => by
    by_cases hm : m = n
    · by_cases hlen : m < s.lines.line.length
      · exact .inr ⟨hm, hm ▸ lineAt_setLine_same s x (hm ▸ hlen)⟩
      · refine .inl ?_
        rw [lineAt_of_le (not_lt.mp hlen), lineAt_of_le (by simpa using hlen)]
    · exact .inl (lineAt_setLine_ne s x hm)
  refine linesSafe_of (s := s) (by simp) (fun m => ?_) (fun m hl => ?_) h
  · rcases hm m with he | ⟨rfl, he⟩ <;> rw [he]
    exact hf
  · rcases hm m with he | ⟨rfl, he⟩ <;> rw [he]
    · exact hl
    · exact hx hl

theorem linesSafe_sampleAll {g : Bool → LineRecord → LineRecord} {s : State}
    (hg : ∀ r l, LineOk l → (g r l).entry.function = l.entry.function ∧ LineOk (g r l)) (levels : Levels) (b : Bool)
    (h : s.LinesSafe) : (s.setLines ⟨sampleAll g levels s.lines.line, b⟩).LinesSafe := by
  have hok := (linesOk_iff s).mp h.2.2
  refine linesSafe_of (s := s) (length_sampleAll ..) (fun n => ?_) (fun n hl => ?_) h
  · by_cases hn : n < s.lines.line.length
    · rw [lineAt_sampleAll g levels b s hn]
      exact (hg _ _ (hok n)).1
    · rw [lineAt_sampleAll_of_le g levels b s (not_lt.mp hn)]
  · by_cases hn : n < s.lines.line.length
    · rw [lineAt_sampleAll g levels b s hn]
      exact (hg _ _ hl).2
    · rwa [lineAt_sampleAll_of_le g levels b s (not_lt.mp hn)]

theorem conditionAfter_ne_latched (l : LineRecord) : l.conditionAfter ≠ .latched := by
  unfold LineRecord.conditionAfter
  split
  · split_ifs <;> decide
  · split_ifs <;> decide
  · decide
  · decide

theorem collected_lineOk {l : LineRecord} (h : LineOk l) :
    l.collected.entry.function = l.entry.function ∧ LineOk l.collected := by
  obtain ⟨h1, h2, h3⟩ := h
  refine ⟨rfl, h1, h2, ⟨Bool.noConfusion, fun hc => ?_⟩⟩
  simp only [LineRecord.collected] at hc
  split_ifs at hc with hr
  · exact absurd hc (conditionAfter_ne_latched l)
  · exact absurd (h3.mpr hc) hr

theorem edged_lineOk {l : LineRecord} (h : LineOk l) : LineOk l.edged := by
  obtain ⟨h1, h2, h3⟩ := h
  have hturned : LineOk l.turned := ⟨h1, h2, h3⟩
  unfold LineRecord.edged LineRecord.reportEdge
  split
  · split_ifs
    · exact ⟨h1, h2, by simp⟩
    · exact hturned
  · exact hturned
  · rename_i hc
    split_ifs
    · exact hturned
    · refine ⟨h1, h2, ⟨fun hr => ?_, nofun⟩⟩
      have hlatched := h3.mp hr
      have hheld : l.condition = .held := hc
      simp [hlatched] at hheld

theorem act_linesSafe (s t : State) (a : Act s t) (h : s.LinesSafe) : t.LinesSafe := by
  cases a with
  | collect _ => exact linesSafe_map (fun l hl => collected_lineOk hl) h
  | quiet _ =>
    exact linesSafe_map (g := fun l => { l with generalOut := false, change := .none })
      (fun l hl => ⟨rfl, hl.1, nofun, hl.2.2⟩) h
  | release d _ _ _ => exact linesSafe_of_lines (by simp) h
  | _ => exact h

theorem reproof_linesSafe (s t : State) (r : Reproof s t) (h : s.LinesSafe) : t.LinesSafe := by
  cases r
  exact h

/-- R105: the functions that may stand on several lines. -/
def LineFunction.shared (f : LineFunction) : Prop := f = .none ∨ f = .generalIn ∨ f = .generalOut

/-- R105: a function that stands on at most one line stands on this line alone. -/
theorem line_unique {s : State} (h : s.LinesSafe) {n m : Nat} {f : LineFunction} (hf : ¬f.shared)
    (hn : (s.lineAt n).entry.function = f) (hm : (s.lineAt m).entry.function = f) : n = m := by
  have hne : f ≠ .none := fun hx => hf (.inl hx)
  have hlt : ∀ k, (s.lineAt k).entry.function = f → k < s.lines.line.length := fun k hk => by
    by_contra hlen
    rw [lineAt_of_le (not_lt.mp hlen)] at hk
    exact hne hk.symm
  have hpair := h.2.1
  unfold State.uniqueFunctions at hpair
  rw [List.nodup_iff_pairwise_ne, List.pairwise_filter, List.pairwise_map, List.pairwise_iff_getElem] at hpair
  have happly : ∀ i j, (s.lineAt i).entry.function = f → (s.lineAt j).entry.function = f → ¬i < j := fun i j hi hj hij => by
    have hi' := hlt i hi
    have hj' := hlt j hj
    rw [lineAt_eq_getElem hi'] at hi
    rw [lineAt_eq_getElem hj'] at hj
    have hkeep : (f != .none && f != .generalIn && f != .generalOut) = true := by
      simp only [LineFunction.shared, not_or] at hf
      simp [hf]
    refine hpair i j hi' hj' hij ?_ ?_ (hi.trans hj.symm)
    · rwa [hi]
    · rwa [hj]
  have h1 := happly n m hn hm
  have h2 := happly m n hm hn
  omega

/-! ### A write of the line function table -/

theorem removed_lineOk {e : LineEntry} {l : LineRecord} (he : e.debounce ≤ 250) (hr : l.replacedBy e = false)
    (h : LineOk l) : LineOk (l.removed e) := by
  have hd : LineOk (l.setDebounce e.debounce) := by
    unfold LineRecord.setDebounce
    split_ifs
    · exact h
    · exact ⟨he, h.2⟩
  unfold LineRecord.removed LineRecord.setArming
  rw [if_neg (by simp [hr])]
  split_ifs
  · exact hd
  · exact ⟨hd.1, hd.2.1, by simp⟩

/-- R105: the entries the table holds after a write. -/
theorem entries_added {i : Nat} {l : List LineEntry} {s t : State} (ht : Removed i l s t)
    (hi : i + l.length ≤ s.lines.line.length) :
    (writeLinesAt LineRecord.setEntry i l t).lines.line.map (fun x => x.entry)
      = (s.lines.line.map fun x => x.entry).take i ++ l ++ (s.lines.line.map fun x => x.entry).drop (i + l.length) := by
  have hlen : (writeLinesAt LineRecord.setEntry i l t).lines.line.length = s.lines.line.length := by
    rw [(writeLinesAt_eq ..).2, length_of_removed ht]
  refine List.ext_getElem (by simp [hlen]; omega) fun n hn hm => ?_
  rw [List.length_map] at hn
  have hns : n < s.lines.line.length := hlen ▸ hn
  have hentry : ((writeLinesAt LineRecord.setEntry i l t).lineAt n).entry =
      if h : i ≤ n ∧ n - i < l.length then l[n - i] else (s.lineAt n).entry := by
    rw [lineAt_added ht]
    by_cases hin : i ≤ n
    · rw [if_pos ⟨hin, hns⟩]
      by_cases hlt : n - i < l.length
      · rw [dif_pos ⟨hin, hlt⟩, List.getElem?_eq_getElem hlt]
        dsimp only
        split_ifs with hr
        · rfl
        · exact (removed_of_kept (Bool.eq_false_iff.mpr hr)).1
      · rw [dif_neg (by simp [hlt]), List.getElem?_eq_none (not_lt.mp hlt)]
    · rw [if_neg (by simp [hin]), dif_neg (by simp [hin])]
  rw [lineAt_eq_getElem hn, lineAt_eq_getElem hns] at hentry
  rw [List.getElem_map, hentry]
  split_ifs with h
  · rw [List.getElem_append_left (by simp; omega), List.getElem_append_right (by simp; omega)]
    simp [Nat.min_eq_left (show i ≤ s.lines.line.length by omega)]
  · by_cases hni : n < i
    · rw [List.getElem_append_left (by simp; omega), List.getElem_append_left (by simp; omega)]
      simp
    · rw [List.getElem_append_right (by simp; omega)]
      simp only [List.getElem_drop, List.getElem_map, List.length_append, List.length_take, List.length_map]
      congr 2
      omega

theorem functions_added {i : Nat} {l : List LineEntry} {s t : State} (ht : Removed i l s t)
    (hi : i + l.length ≤ s.lines.line.length) :
    (writeLinesAt LineRecord.setEntry i l t).uniqueFunctions = s.functionsAfter i l := by
  unfold State.uniqueFunctions State.functionsAfter
  rw [← entries_added ht hi, List.map_map]
  rfl

theorem linesSafe_added {i : Nat} {l : List LineEntry} {s t : State} (ht : Removed i l s t)
    (hi : i + l.length ≤ s.lines.line.length) (hl : ∀ e ∈ l, e.debounce ≤ 250) (hn : (s.functionsAfter i l).Nodup)
    (h : s.LinesSafe) : (writeLinesAt LineRecord.setEntry i l t).LinesSafe := by
  obtain ⟨h1, -, h3⟩ := h
  rw [linesOk_iff] at h3
  refine ⟨?_, by rwa [functions_added ht hi], (linesOk_iff _).mpr fun n => ?_⟩
  · rw [(writeLinesAt_eq ..).2, length_of_removed ht, h1]
  · rw [lineAt_added ht]
    split_ifs
    · split
      · rename_i e he
        have hd := hl e (List.mem_of_getElem? he)
        split_ifs with hr
        · exact ⟨hd, nofun, by simp [LineRecord.cleared]⟩
        · exact removed_lineOk hd (Bool.eq_false_iff.mpr hr) (h3 n)
      · exact h3 n
    · exact h3 n

/-! ### Proofs (R109, R122) -/

/-- An act leaves the proof of each side. -/
theorem act_proof (d : Side) (p : Proof) (s t : State) (a : Act s t) (h : (s.side d).proof = p) :
    (t.side d).proof = p := by
  cases a with
  | side e x _ _ _ _ => rw [side_setDoorState]; exact h
  | held e _ => cases d <;> cases e <;> exact h
  | door y _ hm => rw [side_setDoor hm.sides]; exact h
  | release e _ _ _ =>
    rw [heatRefresh_side]
    exact (congrArg SideRecord.proof (side_setDoorState e d .released s)).trans h
  | _ => exact h

theorem setDoorState_proof (d e : Side) (x : DoorState) (s : State) :
    ((setDoorState d x s).side e).proof = (s.side e).proof := by
  rw [side_setDoorState]

theorem enterClosed_proof (d e : Side) (s : State) : ((enterClosed d s).side e).proof = (s.side e).proof :=
  setDoorState_proof d e .closed s

theorem proofTaken_proof (d e : Side) (p : Proof) (s : State) :
    ((proofTaken d p s).side e).proof = if e = d then p else (s.side e).proof := by
  have hside : ((s.setSide d { s.side d with proof := p, held := (s.side d).held && p != .proved }).side e).proof
      = if e = d then p else (s.side e).proof := by
    cases d <;> cases e <;> rfl
  rw [← hside]
  unfold proofTaken
  dsimp only
  by_cases hc : p = .proved ∧ ((s.side d).state = .closing ∨ (s.side d).state = .stuck)
  · rw [if_pos hc]
    exact enterClosed_proof d e _
  · rw [if_neg hc]

theorem proofNotice_proof (d e : Side) (p : Proof) (s : State) :
    ((proofNotice d p s).side e).proof = if e = d then p else (s.side e).proof := by
  rw [← proofTaken_proof d e p s, proofNotice_eq]
  have h1 := steps_heatRefresh (X := NoLarge) (.refl (proofTaken d p s))
  split_ifs
  · exact (steps_raiseAlert d h1).keeps_of_acts (act_proof e _) rfl
  · exact h1.keeps_of_acts (act_proof e _) rfl

theorem ownerTold_proof (p : Proof) (f : LineFunction) (d : Side) (s : State) :
    ((ownerTold p f s).side d).proof = if f = .doorProof d then p else (s.side d).proof := by
  by_cases hf : ∃ e, f = .doorProof e
  · obtain ⟨e, rfl⟩ := hf
    refine (proofNotice_proof e d p s).trans ?_
    simp [eq_comm]
  · rw [if_neg fun hx => hf ⟨d, hx⟩]
    have hsteps : Steps NoLarge s (ownerTold p f s) := by
      unfold ownerTold
      split
      · exact steps_evaluateRole (.refl s)
      · exact absurd ⟨_, rfl⟩ hf
      · exact steps_judgeFeedback (.refl s)
      · exact steps_heatRefresh (.refl s)
      · exact steps_heatRefresh (.refl s)
      · exact steps_heatRefresh (.refl s)
      · exact .refl s
    exact hsteps.keeps_of_acts (act_proof d _) rfl

theorem notices_proof (p : Proof) (l : List LineFunction) (d : Side) (s : State) :
    ((notices (ownerTold p) l s).side d).proof = if LineFunction.doorProof d ∈ l then p else (s.side d).proof := by
  induction l generalizing s with
  | nil => rfl
  | cons f l ih =>
    refine (ih _).trans ?_
    rw [ownerTold_proof]
    by_cases h1 : LineFunction.doorProof d ∈ l
    · simp [h1]
    · by_cases h2 : f = .doorProof d
      · simp [h1, h2]
      · simp [h1, h2, Ne.symm h2]

theorem lineProof_of_shown {s t : State} {d : Side} (h : SameShown s t (.doorProof d)) :
    t.lineProof d = s.lineProof d := by
  rw [State.lineProof, State.lineProof, h.1, h.2]

theorem lineProof_of_lines {s t : State} (h : t.lines = s.lines) (d : Side) : t.lineProof d = s.lineProof d :=
  lineProof_of_shown (sameShown_of_lines h _)

/-- R109, R122: the line that carries the proof of a side shows it. -/
theorem lineProof_of_line {s : State} (h : s.LinesSafe) {n : Nat} {d : Side}
    (hn : (s.lineAt n).entry.function = .doorProof d) :
    s.lineProof d = if (s.lineAt n).qualified then .proved else .notProved := by
  have hp : s.present (.doorProof d) = true := (present_iff s (by simp)).mpr ⟨n, hn⟩
  have ha : s.asserted (.doorProof d) = (s.lineAt n).qualified := by
    rw [Bool.eq_iff_iff, asserted_iff]
    constructor
    · rintro ⟨m, hm, hq⟩
      rwa [line_unique h (f := .doorProof d) (by simp [LineFunction.shared]) hn hm]
    · exact fun hq => ⟨n, hn, hq⟩
  rw [State.lineProof, if_pos hp, ha]

theorem proofSafe_of {s t : State} (hp : ∀ d, (t.side d).proof = (s.side d).proof)
    (hl : ∀ d, t.lineProof d = s.lineProof d) (h : s.ProofSafe) : t.ProofSafe :=
  fun d => (hp d).trans ((h d).trans (hl d).symm)

theorem act_proofSafe (s t : State) (a : Act s t) (h : s.ProofSafe) : t.ProofSafe :=
  proofSafe_of (fun d => act_proof d _ s t a rfl) (fun _ => lineProof_of_shown (a.sameShown _)) h

/-- The line function table and the proofs, which are judged together. -/
abbrev State.ProofsLegal (s : State) : Prop := s.LinesSafe ∧ s.ProofSafe

theorem act_proofsLegal (s t : State) (a : Act s t) (h : s.ProofsLegal) : t.ProofsLegal :=
  ⟨act_linesSafe s t a h.1, act_proofSafe s t a h.2⟩

theorem side_writeLinesAt (g : LineEntry → LineRecord → LineRecord) (i : Nat) (l : List LineEntry) (s : State)
    (d : Side) : (writeLinesAt g i l s).side d = s.side d := by
  rw [(writeLinesAt_eq g i l s).1]
  rfl

/-- R105, R109: the removals leave no line that carries a function they take off one. -/
theorem lineProof_removed {i : Nat} {l : List LineEntry} {s : State} (h : s.LinesSafe) (d : Side) :
    (writeLinesAt LineRecord.removed i l s).lineProof d
      = if LineFunction.doorProof d ∈ s.removedFunctions i l then .absent else s.lineProof d := by
  split_ifs with hd
  · obtain ⟨n, e, hn, he, hr, hf⟩ := mem_removedFunctions.mp hd
    refine if_neg fun hp => ?_
    obtain ⟨m, hm⟩ := (present_iff _ (by simp)).mp hp
    have hline := lineAt_writeLinesAt LineRecord.removed i l s m
    have hmf : (s.lineAt m).entry.function = .doorProof d := by
      rw [hline] at hm
      split_ifs at hm
      · split at hm
        · rename_i e' _
          cases hrep : (s.lineAt m).replacedBy e' with
          | false =>
            rw [(removed_of_kept hrep).2.1] at hm
            exact hm
          | true =>
            rw [removed_of_replaced hrep] at hm
            exact absurd hm (by simp [LineRecord.cleared])
        · exact hm
      · exact hm
    obtain rfl := line_unique h (by simp [LineFunction.shared]) hf hmf
    have hlen : n < s.lines.line.length := by
      by_contra hlen
      rw [lineAt_of_le (not_lt.mp hlen)] at hf
      exact absurd hf (by simp [LineRecord.powerOn])
    rw [hline, if_pos ⟨hn, hlen⟩, he] at hm
    dsimp only at hm
    rw [removed_of_replaced hr] at hm
    exact absurd hm (by simp [LineRecord.cleared])
  · exact lineProof_of_shown (sameShown_removed (by simp) hd)

/-- R105, R108, R109: a function just put on a line is at level released. -/
theorem lineProof_added {i : Nat} {l : List LineEntry} {s t : State} (ht : Removed i l s t)
    (hi : i + l.length ≤ s.lines.line.length) (h : (writeLinesAt LineRecord.setEntry i l t).LinesSafe) (d : Side) :
    (writeLinesAt LineRecord.setEntry i l t).lineProof d
      = if LineFunction.doorProof d ∈ s.addedFunctions i l then .notProved else t.lineProof d := by
  split_ifs with hd
  · obtain ⟨n, e, hn, he, hr, hf⟩ := mem_addedFunctions.mp hd
    have hlen : n < s.lines.line.length := by
      have := (List.getElem?_eq_some_iff.mp he).1
      omega
    have hline := lineAt_added ht n
    rw [if_pos ⟨hn, hlen⟩, he] at hline
    dsimp only at hline
    rw [if_pos hr] at hline
    rw [lineProof_of_line h (n := n) (by rw [hline]; exact hf), hline]
    rfl
  · exact lineProof_of_shown (sameShown_added ht (by simp) hd)

/-- R105, R109: after a write each proof is what its line shows. -/
theorem proofsLegal_applyLines {i : Nat} {l : List LineEntry} {s : State} (hi : i + l.length ≤ s.lines.line.length)
    (hl : ∀ e ∈ l, e.debounce ≤ 250) (hn : (s.functionsAfter i l).Nodup) (hs : s.LinesSafe) :
    (applyLines i l s).LinesSafe ∧ (s.ProofSafe → (applyLines i l s).ProofSafe) := by
  have ht : Removed i l s (notices ownerAbsent (s.removedFunctions i l) (writeLinesAt LineRecord.removed i l s)) :=
    notices_lines ..
  have h1 : s.ProofSafe →
      (notices ownerAbsent (s.removedFunctions i l) (writeLinesAt LineRecord.removed i l s)).ProofSafe := fun h d => by
    rw [ownerAbsent_eq, notices_proof, side_writeLinesAt, lineProof_of_lines (notices_lines ..), lineProof_removed hs,
      h d]
  unfold applyLines
  dsimp only
  generalize notices ownerAbsent (s.removedFunctions i l) (writeLinesAt LineRecord.removed i l s) = t at h1 ht
  have h2 := linesSafe_added ht hi hl hn hs
  refine ⟨linesSafe_of_lines (notices_lines ..) h2, fun h d => ?_⟩
  rw [ownerPresent_eq, notices_proof, side_writeLinesAt, lineProof_of_lines (notices_lines ..), lineProof_added ht hi h2,
    h1 h d]

/-! ### The larger changes -/

/-- R104: a LINES element that is written has a debounce of 250 ms at most. -/
theorem lineEntryOf_debounce {b0 b1 b2 : Byte} {e : LineEntry} (h : lineEntryOf b0 b1 b2 = some e) :
    e.debounce ≤ 250 := by
  obtain ⟨f, -, rfl⟩ := Option.map_eq_some_iff.mp h
  exact Nat.min_le_left _ _

/-- R111: a change of output levels of lines that all carry GENERAL_OUT. -/
theorem proofsLegal_outputs {l : List (Byte × Nat)} {s : State}
    (hf : ∀ x ∈ l, (s.lineAt x.2).entry.function = .generalOut) (h : s.LinesSafe) :
    let t := l.foldl (fun s x => s.setLine x.2 { s.lineAt x.2 with generalOut := isOne x.1 }) s
    t.LinesSafe ∧ (s.ProofSafe → t.ProofSafe) := by
  induction l generalizing s with
  | nil => exact ⟨h, id⟩
  | cons x l ih =>
    have hsame : ∀ n, ((s.setLine x.2 { s.lineAt x.2 with generalOut := isOne x.1 }).lineAt n).entry.function
        = (s.lineAt n).entry.function := fun n => by
      by_cases hn : n = x.2
      · subst hn
        by_cases hlen : x.2 < s.lines.line.length
        · rw [lineAt_setLine_same s _ hlen]
        · rw [lineAt_of_le (not_lt.mp hlen), lineAt_of_le (by simpa using hlen)]
      · rw [lineAt_setLine_ne s _ hn]
    have h1 : (s.setLine x.2 { s.lineAt x.2 with generalOut := isOne x.1 }).LinesSafe :=
      linesSafe_setLine rfl (fun hl => ⟨hl.1, fun _ => hf x List.mem_cons_self, hl.2.2⟩) h
    have hshow : ∀ d, SameShown s (s.setLine x.2 { s.lineAt x.2 with generalOut := isOne x.1 }) (.doorProof d) :=
      fun d => sameShown_setLine (by simp) (showsAs_of_same rfl rfl _)
    obtain ⟨h2, h3⟩ := ih (fun y hy => (hsame y.2).trans (hf y (List.mem_cons_of_mem _ hy))) h1
    exact ⟨h2, fun hp => h3 (proofSafe_of (s := s) (fun _ => rfl) (fun d => lineProof_of_shown (hshow d)) hp)⟩

theorem linesSafe_writeValues {o : Object} {q : Req} {s : State} (hs : o.shapeOk q = true)
    (hi : s.indexOk o q.index q.count = true) (h : s.LinesSafe) :
    (writeValues o q s).1.LinesSafe ∧ (s.ProofSafe → (writeValues o q s).1.ProofSafe) := by
  have hacts : ∀ {u v : State}, Steps NoLarge u v → u.LinesSafe ∧ (s.ProofSafe → u.ProofSafe) →
      v.LinesSafe ∧ (s.ProofSafe → v.ProofSafe) := fun huv hu =>
    ⟨huv.keeps_of_acts act_linesSafe hu.1, fun hp => huv.keeps_of_acts act_proofSafe (hu.2 hp)⟩
  obtain ⟨-, hlen, -⟩ := shapeOk_iff hs
  have hrange := ((indexOk_iff s o q.index q.count).mp hi).2
  have h0 : s.LinesSafe ∧ (s.ProofSafe → s.ProofSafe) := ⟨h, id⟩
  cases o with
  | service =>
    dsimp only [writeValues, writeServiceTable]
    split <;> exact h0
  | groups =>
    dsimp only [writeValues, writeGroupTable]
    split_ifs <;> exact h0
  | lines =>
    dsimp only [writeValues, writeLineTable]
    split
    · rename_i l hl
      obtain ⟨hll, hmem⟩ := mapM_some hl
      split_ifs with hn
      · refine proofsLegal_applyLines ?_ (fun e he => ?_) hn h
        · have hcount : q.data.length / 3 = q.count := by simp [hlen, Object.size]
          rw [h.1, hll, length_triples, hcount]
          exact hrange
        · obtain ⟨x, -, hx⟩ := hmem e he
          exact lineEntryOf_debounce hx
      · exact h0
    · exact h0
  | generalOut =>
    dsimp only [writeValues, writeOutputs]
    split_ifs with hc
    · refine proofsLegal_outputs (fun x hx => ?_) h
      simp only [Bool.and_eq_true, List.all_eq_true, List.mem_range, beq_iff_eq] at hc
      obtain ⟨b, n⟩ := x
      obtain ⟨hn, hb⟩ := List.mem_zipIdx_iff_le_and_getElem?_sub.mp hx
      have hlt : n - q.index < q.data.length := (List.getElem?_eq_some_iff.mp hb).1
      have hk := hc.2 (n - q.index) (by simpa [hlen, Object.size] using hlt)
      rwa [Nat.add_sub_cancel' hn] at hk
    · exact h0
  | doorInhibit =>
    dsimp only [writeValues, writeInhibits]
    split_ifs
    · refine foldl_keeps (P := fun u => u.LinesSafe ∧ (s.ProofSafe → u.ProofSafe)) _ (fun u x hu => ?_) h0
      have h1 : (u.setSide (sideAt x.2) { u.side (sideAt x.2) with localInhibit := isOne x.1 }).LinesSafe
          ∧ (s.ProofSafe → (u.setSide (sideAt x.2) { u.side (sideAt x.2) with localInhibit := isOne x.1 }).ProofSafe) := by
        refine ⟨hu.1, fun hp => proofSafe_of (s := u) (fun d => ?_) (fun _ => rfl) (hu.2 hp)⟩
        cases sideAt x.2 <;> cases d <;> rfl
      unfold setInhibit
      dsimp only
      split_ifs
      · exact hacts (steps_closeReleased _ (.refl _)) h1
      · exact h1
    · exact h0
  | coachDescriptor =>
    dsimp only [writeValues, writeDescriptor]
    split
    · have hc : ∀ d u, Steps NoLarge u (closeDoorless d u) := fun d u =>
        steps_ite (fun _ => .refl u) fun hs => steps_enterClosed d hs (.refl u)
      refine hacts (steps_heatRefresh (.refl _)) ?_
      dsimp only
      split_ifs
      · exact hacts ((hc _ _).trans (hc _ _)) h0
      · exact h0
    · exact h0
  | heatProfile =>
    dsimp only [writeValues, writeProfile]
    split_ifs <;> exact h0
  | heatSettings =>
    refine hacts (steps_heatSettingsTaken (.refl _))
      (foldl_keeps (P := fun u => u.LinesSafe ∧ (s.ProofSafe → u.ProofSafe)) _ (fun u x hu => ?_) h0)
    unfold setHeatSetting
    split_ifs <;> exact hu
  | heatDemand =>
    dsimp only [writeValues, writeDemand]
    split
    · exact hacts (steps_heatRefresh (.refl _)) h0
    · exact h0
  | supplyLimit =>
    dsimp only [writeValues, writeLimit]
    split <;> exact h0
  | timers => exact hacts (steps_rerunTimers _ _ (.refl _)) h0
  | identity | status | consist | lineLevels | lineReport | faults => exact h0

theorem taken_lineOk {raw : Bool} {l : LineRecord} (h : LineOk l) :
    (l.taken raw).entry.function = l.entry.function ∧ LineOk (l.taken raw) := ⟨rfl, h⟩

/-- R109, R117: what a sample of the lines does to the proofs: no level is taken, or every proof is read again. -/
theorem rereadSide_proof (d e : Side) (s : State) :
    ((rereadSide d s).side e).proof = if e = d then s.lineProof d else (s.side e).proof := by
  have hside : ((s.setSide d { s.side d with proof := s.lineProof d }).side e).proof
      = if e = d then s.lineProof d else (s.side e).proof := by
    cases d <;> cases e <;> rfl
  have h1 : ((proofReread d s).side e).proof = if e = d then s.lineProof d else (s.side e).proof := by
    rw [← hside]
    unfold proofReread
    dsimp only
    by_cases hc : s.lineProof d = .proved ∧ (s.side d).state = .closing
    · rw [if_pos hc]
      exact enterClosed_proof d e _
    · rw [if_neg hc]
  rw [← h1, rereadSide_eq]
  split_ifs
  · exact (steps_heatRefresh (steps_closeReleased d (.refl _))).keeps_of_acts (act_proof e _) rfl
  · exact (steps_heatRefresh (.refl _)).keeps_of_acts (act_proof e _) rfl

theorem proofSafe_rereadOwners (s : State) : (rereadOwners s).ProofSafe := by
  have hboth : (rereadSide .b (rereadSide .a s)).ProofSafe := fun d => by
    rw [rereadSide_proof, rereadSide_proof, lineProof_of_lines (rereadSide_lines ..),
      lineProof_of_lines ((rereadSide_lines ..).trans (rereadSide_lines ..))]
    cases d <;> rfl
  unfold rereadOwners
  generalize rereadSide .b (rereadSide .a s) = u at hboth
  exact (steps_heatRefresh (.refl u)).keeps_of_acts act_proofSafe hboth

theorem linesSafe_sampleLines {levels : Levels} {s : State} (h : s.LinesSafe) :
    (sampleLines levels s).LinesSafe ∧ (s.ProofSafe → (sampleLines levels s).ProofSafe) := by
  have hs : ∀ (g : Bool → LineRecord → LineRecord) (b : Bool), (∀ r l, LineOk l → LineOk (g r l)) →
      (∀ r l, (g r l).entry.function = l.entry.function ∧ (g r l).qualified = l.qualified) →
      (s.setLines ⟨sampleAll g levels s.lines.line, b⟩).LinesSafe
        ∧ (s.ProofSafe → (s.setLines ⟨sampleAll g levels s.lines.line, b⟩).ProofSafe) := fun g b hg hq =>
    ⟨linesSafe_sampleAll (fun r l hl => ⟨(hq r l).1, hg r l hl⟩) levels b h, fun hp =>
      proofSafe_of (s := s) (fun _ => rfl) (fun d => lineProof_of_shown (sameShown_sampleAll (by simp) levels b hq)) hp⟩
  unfold sampleLines sampleOperating
  split
  · exact ⟨h, id⟩
  · split_ifs
    · have h1 := linesSafe_sampleAll (g := LineRecord.taken) (fun r l hl => taken_lineOk hl) levels false h
      exact ⟨(steps_rereadOwners reproof_proofs (.refl _)).keeps act_linesSafe reproof_linesSafe h1,
        fun _ => proofSafe_rereadOwners _⟩
    · exact hs _ _ (fun _ _ => id) fun _ _ => ⟨rfl, rfl⟩
  · exact hs _ _ (fun _ _ => id) fun _ _ => ⟨rfl, rfl⟩
  · exact hs _ _ (fun _ _ => id) fun _ _ => ⟨rfl, rfl⟩

/-- R109, R122: an edge of a proof line changes the proof of its side alone. -/
theorem ownerEdge_proof (f : LineFunction) (level : Bool) (d : Side) (s : State) :
    ((ownerEdge f level s).side d).proof
      = if f = .doorProof d then (if level then .proved else .notProved) else (s.side d).proof := by
  by_cases hf : ∃ e, f = .doorProof e
  · obtain ⟨e, rfl⟩ := hf
    refine (proofNotice_proof e d _ s).trans ?_
    simp [eq_comm]
  · rw [if_neg fun hx => hf ⟨d, hx⟩]
    have hsteps : Steps NoLarge s (ownerEdge f level s) := by
      unfold ownerEdge
      split
      · exact steps_cabEdge (.refl s)
      · exact absurd ⟨_, rfl⟩ hf
      · exact steps_ite (fun _ => steps_closeReleased _ (.refl s)) fun _ => .refl s
      · exact steps_judgeFeedback (.refl s)
      · exact steps_heatRefresh (.refl s)
      · exact steps_heatRefresh (.refl s)
      · exact steps_heatRefresh (.refl s)
      · exact .refl s
    exact hsteps.keeps_of_acts (act_proof d _) rfl

theorem ownerEdge_lines (f : LineFunction) (level : Bool) (s : State) : (ownerEdge f level s).lines = s.lines := by
  unfold ownerEdge
  split
  · simp
  · simp
  · split_ifs <;> simp
  · simp
  · simp
  · simp
  · simp
  · rfl

theorem linesSafe_takeEdge {n : Nat} {s : State} (h : s.LinesSafe) :
    (takeEdge n s).LinesSafe ∧ (s.ProofSafe → (takeEdge n s).ProofSafe) := by
  have h1 : (s.setLine n (s.lineAt n).edged).LinesSafe :=
    linesSafe_setLine (by rw [(edged_same _).1]) edged_lineOk h
  have hshown : ∀ d, (s.lineAt n).entry.function = .doorProof d → (s.setLine n (s.lineAt n).edged).lineProof d
      = if !(s.lineAt n).qualified then .proved else .notProved := fun d hd => by
    have hlen : n < s.lines.line.length := by
      by_contra hlen
      rw [lineAt_of_le (not_lt.mp hlen)] at hd
      exact absurd hd (by simp [LineRecord.powerOn])
    have hline := lineAt_setLine_same s (s.lineAt n).edged hlen
    rw [lineProof_of_line h1 (n := n) (by rw [hline, (edged_same _).1, hd]), hline, (edged_same _).2.1]
  rw [takeEdge_eq]
  refine ⟨linesSafe_of_lines (ownerEdge_lines ..) h1, fun hp d => ?_⟩
  rw [ownerEdge_proof, lineProof_of_lines (ownerEdge_lines ..)]
  split_ifs with hf hq
  · rw [hshown d hf, hq]
    rfl
  · rw [hshown d hf, Bool.eq_false_iff.mpr hq]
    rfl
  · exact (hp d).trans (lineProof_of_shown (sameShown_edge (by simp) hf)).symm

theorem restartSide_proof (d e : Side) (s : State) :
    ((restartSide d s).side e).proof = if e = d then s.lineProof d else (s.side e).proof := by
  have hside : ((s.setSide d { s.side d with proof := s.lineProof d, held := s.lineProof d != .proved }).side e).proof
      = if e = d then s.lineProof d else (s.side e).proof := by
    cases d <;> cases e <;> rfl
  have hc := setDoorState_proof d e
  rw [← hside]
  unfold restartSide
  dsimp only
  generalize s.setSide d { s.side d with proof := s.lineProof d, held := s.lineProof d != .proved } = u
  split
  · split_ifs
    · exact hc _ _
    · exact hc _ _
  · split_ifs
    · exact hc _ _
    · exact hc _ _
  · rfl
  · rfl

@[simp] theorem restartSide_lines (d : Side) (s : State) : (restartSide d s).lines = s.lines := by
  unfold restartSide
  dsimp only
  split <;> (try split_ifs) <;> simp

theorem proofSafe_restartDoors (s : State) : (restartDoors s).ProofSafe := fun d => by
  have h1 : (restartDoors s).side d = (restartSide .b (restartSide .a s)).side d := rfl
  have h2 : (restartDoors s).lines = (restartSide .b (restartSide .a s)).lines := rfl
  rw [h1, lineProof_of_lines h2, restartSide_proof, restartSide_proof, lineProof_of_lines (restartSide_lines ..),
    lineProof_of_lines ((restartSide_lines ..).trans (restartSide_lines ..))]
  cases d <;> rfl

theorem linesSafe_restartNode {levels : Levels} {s : State} (h : s.LinesSafe) :
    (restartNode levels s).LinesSafe ∧ (restartNode levels s).ProofSafe := by
  have h0 : (restartRelay (restartPorts s)).LinesSafe := steps_restartLink (.refl s) |>.keeps_of_acts act_linesSafe h
  have h1 : (restartLines levels (restartRelay (restartPorts s))).LinesSafe :=
    linesSafe_sampleAll (g := LineRecord.restarted)
      (fun r l hl => ⟨rfl, hl.1, hl.2.1, ⟨Bool.noConfusion, nofun⟩⟩) levels false h0
  have h2 := (steps_restartDoors reproof_proofs (.refl _)).keeps act_linesSafe reproof_linesSafe h1
  have hp := proofSafe_restartDoors (restartLines levels (restartRelay (restartPorts s)))
  unfold restartNode
  generalize restartDoors (restartLines levels (restartRelay (restartPorts s))) = u at h2 hp
  have hsteps := steps_evaluateRole (steps_restartHeat (steps_restartConsist (X := NoLarge) (.refl u)))
  exact ⟨hsteps.keeps_of_acts act_linesSafe h2, hsteps.keeps_of_acts act_proofSafe hp⟩

theorem large_linesSafe {c : Instr} {s t : State} (hl : Large c s t) (h : s.LinesSafe) :
    t.LinesSafe ∧ (s.ProofSafe → t.ProofSafe) := by
  cases hl with
  | up p _ _ _ =>
    have hsteps := steps_portReport (X := NoLarge) .portUp p
      (.refl (s.setPort p { s.port p with link := .up, score := 0 }))
    exact ⟨hsteps.keeps_of_acts act_linesSafe h, hsteps.keeps_of_acts act_proofSafe⟩
  | grant n _ _ =>
    exact ⟨linesSafe_of_lines (by simp) h, proofSafe_of (fun d => by simp [State.side])
      (fun d => lineProof_of_lines (by simp) d)⟩
  | edge n _ _ => exact linesSafe_takeEdge h
  | sample levels _ => exact linesSafe_sampleLines h
  | write o q _ hs hi => exact linesSafe_writeValues hs hi h
  | restart levels _ =>
    obtain ⟨h1, h2⟩ := linesSafe_restartNode (levels := levels) h
    exact ⟨h1, fun _ => h2⟩
  | powerOn _ _ =>
    refine ⟨⟨rfl, List.nodup_nil, fun l hl => ?_⟩, fun _ d => by cases d <;> rfl⟩
    rw [List.eq_of_mem_replicate hl]
    exact powerOn_lineOk
  | startCheck pass _ _ _ => exact ⟨h, id⟩
  | _ => exact ⟨h, id⟩

theorem large_proofsLegal {c : Instr} (s t : State) (hl : Large c s t) (h : s.ProofsLegal) : t.ProofsLegal := by
  obtain ⟨h1, h2⟩ := large_linesSafe hl h.1
  exact ⟨h1, h2 h.2⟩

/-- Settles O60: the fault table by the acts, the lines, the proofs and the settings by the larger changes too. -/
theorem tablesStayLegal : Obligations.TablesStayLegal :=
  ⟨fun _ _ _ he => ⟨exec_keeps act_tableSafe raw_tableSafe he,
      (exec_steps he).keeps act_linesSafe fun _ _ hl h => (large_linesSafe hl h).1,
      fun hl hp => ((exec_steps he).keeps act_proofsLegal large_proofsLegal ⟨hl, hp⟩).2⟩,
    fun _ _ _ he => (exec_steps he).keeps act_settingsSafe large_settingsSafe⟩

end Sys2Proof.Machine
end

section
/-! TRAIN_DOORS_CLOSED becomes active only by a clean summary walk, and the applied stage rises only by a return step. -/

namespace Sys2Proof.Machine

open Sys2Proof

/-! ### Frames that reach their owner -/

/-- The one larger change of an arrival: a port that becomes UP. -/
inductive Rises : State → State → Prop
  | up (p : Port) (s : State) : Rises s (becomeUp p s)

/-- R5, R13: a frame reaches its owner on an UP port alone; else the arrival is a run without the owner. -/
theorem frameArrives_cases (p : Port) (f : Frame) (handle : State → State) (s : State) :
    (s.isUp p = true ∧ frameArrives p f handle s = handle (s.afterFrame p))
      ∨ Steps Rises s (frameArrives p f handle s) := by
  by_cases ht : s.takesFrame p ∧ f.formOk = true
  · exact .inl ⟨ht.1.2, frameArrives_of_takesFrame ht.1 ht.2⟩
  · have hid : frameArrives p f handle s = frameArrives p f id s := by
      unfold frameArrives
      by_cases hr : (s.receives p && (s.port p).rx.open) = true
      · rw [if_pos hr, if_pos hr]
        dsimp only
        by_cases hf : f.formOk = true
        · rw [if_pos hf, if_pos hf]
          have hu : (setRx p .betweenFrames (keepAliveByBits p s)).isUp p = s.isUp p := by
            refine (isUp_setPort_same p _ _).trans ?_
            simp [State.isUp, State.port]
          have hn : s.isUp p ≠ true := fun hx => by
            simp only [Bool.and_eq_true, State.receives, Bool.not_eq_true'] at hr
            exact ht ⟨⟨⟨hr.1.1, hr.1.2, hr.2⟩, hx⟩, hf⟩
          rw [hu, if_neg hn, if_neg hn]
        · rw [if_neg hf, if_neg hf]
      · rw [if_neg hr, if_neg hr]
    rw [hid]
    exact .inr (steps_frameArrives p f (fun u _ _ => .up p u) (fun _ hu => hu) (.refl s))

theorem afterFrame_ports_up (p : Port) (s : State) : (s.afterFrame p).upPorts = s.upPorts := by
  simp [State.upPorts]

theorem upPorts_ne_nil {p : Port} {s : State} (h : s.isUp p = true) : s.upPorts ≠ [] := fun hx => by
  have hlen := upPorts_length s
  rw [hx] at hlen
  cases p <;> simp only [h, List.length_nil, if_true] at hlen <;> omega

theorem afterFrame_up_ne_nil {p : Port} {s : State} (h : s.isUp p = true) : (s.afterFrame p).upPorts ≠ [] := by
  rw [afterFrame_ports_up]
  exact upPorts_ne_nil h

theorem upPorts_congr {s t : State} (h : t.ports = s.ports) : t.upPorts = s.upPorts := by
  simp only [State.upPorts, State.isUp, State.port, h]

/-! ### The interlock (R148) -/

theorem act_doorsOpen (s t : State) (a : Act s t) (h : s.door.doorsClosed = false) : t.door.doorsClosed = false := by
  cases a with
  | door y _ hm => exact Bool.eq_false_iff.mpr fun hx => by simp [hm.closed hx] at h
  | side d x _ _ _ _ => simpa using h
  | held d _ => cases d <;> exact h
  | release d _ _ _ => simpa using h
  | _ => exact h

/-- R148: outside the commands that end a summary walk nothing raises the interlock. -/
theorem raw_doorsOpen {c : Instr} (hc : endsSummary c = false) (s t : State) (r : Raw c s t)
    (h : s.door.doorsClosed = false) : t.door.doorsClosed = false := by
  cases r with
  | summary b _ _ hx => simp [hc] at hx
  | side d x _ _ => cases d <;> exact h
  | powerOn _ _ => rfl
  | _ => exact h

theorem rises_doorsOpen (s t : State) (r : Rises s t) (h : s.door.doorsClosed = false) : t.door.doorsClosed = false := by
  cases r with
  | up p _ => exact (steps_portReport .portUp p (.refl _)).keeps_of_acts act_doorsOpen h

/-- R148: what stands when the interlock is raised by the walk that a train of one makes of itself; `k` is its number. -/
def OwnWalk (k : Nat) (t : State) : Prop :=
  t.upPorts = [] ∧ t.consist.role = .master ∧ t.consist.state = .stable ∧ t.consist.table.length = 1
    ∧ t.bothClosed = true ∧ t.door.alert = false ∧ t.door.walk = k

/-- R146: a result that does not raise the interlock leaves it inactive. -/
theorem takeSummary_open {f : Frame} {x : SumBody} {s : State} (hm : s.stableMaster = true)
    (h : s.interlockAfter x = false) : (takeSummary f x s).door.doorsClosed = false := by
  unfold takeSummary
  have hd : (deliver f (stopTimer .t8 (s.setDoor { s.door with
      outstanding := none, doorsClosed := s.interlockAfter x }))).door.doorsClosed = false := by
    simpa using h
  have hmaster : (deliver f (stopTimer .t8 (s.setDoor { s.door with
      outstanding := none, doorsClosed := s.interlockAfter x }))).isMaster = true := by
    simpa [State.isMaster] using isMaster_of_stableMaster hm
  dsimp only
  split_ifs
  · exact (steps_trigger hmaster (.refl _)).keeps_of_acts act_doorsOpen hd
  · exact hd

/-- R146: a result that raises the interlock counted every coach, found all closed and none in doubt, with no alert since
the walk started. -/
theorem interlockAfter_iff (s : State) (x : SumBody) : s.interlockAfter x = true ↔
    x.contributions = s.consist.table.length ∧ x.allClosed = true ∧ x.suspect = false ∧ s.door.alert = false := by
  simp [State.interlockAfter, and_assoc]

/-- R146: such a result is no trigger. -/
theorem takeSummary_clean {f : Frame} {x : SumBody} {s : State} (h : s.interlockAfter x = true) :
    takeSummary f x s = deliver f (stopTimer .t8 (s.setDoor { s.door with outstanding := none, doorsClosed := true })) := by
  obtain ⟨h1, -, h3, -⟩ := (interlockAfter_iff s x).mp h
  have hdoubt : s.summaryDoubt x = false := by simp [State.summaryDoubt, h1, h3]
  unfold takeSummary
  dsimp only
  rw [hdoubt, h]
  rfl

/-- R142: with a port UP a walk that starts does not move the interlock. -/
theorem startSummaryWalk_of_up {s : State} (h : s.upPorts ≠ []) :
    (startSummaryWalk s).door.doorsClosed = s.door.doorsClosed := by
  have hup : (startTimer .t8 (numberSummaryWalk s)).upPorts.isEmpty = false := by
    simpa [List.isEmpty_iff, upPorts_congr (s := s) (t := startTimer .t8 (numberSummaryWalk s)) rfl] using h
  unfold startSummaryWalk
  dsimp only
  rw [hup]
  simp [numberSummaryWalk]

/-- R142, R146, R148: the walk a train of one makes of itself raises the interlock only where both its sides are closed. -/
theorem startSummaryWalk_own {s : State} (hm : s.stableMaster = true) (ho : s.door.doorsClosed = false)
    (ht : (startSummaryWalk s).door.doorsClosed = true) :
    OwnWalk (next256 s.door.walk) (startSummaryWalk s) := by
  have hup : s.upPorts = [] := by
    by_contra hne
    rw [startSummaryWalk_of_up hne, ho] at ht
    exact Bool.noConfusion ht
  have hempty : (startTimer .t8 (numberSummaryWalk s)).upPorts.isEmpty = true := by
    simp [upPorts_congr (s := s) (t := startTimer .t8 (numberSummaryWalk s)) rfl, hup]
  unfold startSummaryWalk at ht ⊢
  dsimp only at ht ⊢
  rw [if_pos hempty] at ht ⊢
  cases hi : (startTimer .t8 (numberSummaryWalk s)).interlockAfter ((numberSummaryWalk s).contribute sumInitial) with
  | false =>
    rw [takeSummary_open (s := startTimer .t8 (numberSummaryWalk s)) hm hi] at ht
    exact Bool.noConfusion ht
  | true =>
    obtain ⟨h1, h2, -, -⟩ := (interlockAfter_iff _ _).mp hi
    have hlen : s.consist.table.length = 1 := h1.symm
    have hclosed : (numberSummaryWalk s).bothClosed = true := by simpa [State.contribute, sumInitial] using h2
    have hrole := (isMaster_iff s).mp (isMaster_of_stableMaster hm)
    have hstate : s.consist.state = .stable := by
      simp only [State.stableMaster, Bool.and_eq_true, beq_iff_eq] at hm
      exact hm.2
    rw [takeSummary_clean hi]
    refine ⟨(upPorts_congr (by simp [numberSummaryWalk])).trans hup, by simpa [numberSummaryWalk] using hrole,
      by simpa [numberSummaryWalk] using hstate, by simpa [numberSummaryWalk] using hlen, ?_,
      by simp [numberSummaryWalk], by simp [numberSummaryWalk]⟩
    simpa [State.bothClosed, State.countsClosed, State.side] using hclosed

theorem nextSummaryWalk_of_up {s : State} (h : s.upPorts ≠ []) :
    (nextSummaryWalk s).door.doorsClosed = s.door.doorsClosed := by
  unfold nextSummaryWalk
  split_ifs
  · exact startSummaryWalk_of_up (s := s.setDoor { s.door with startPending := false }) h
  · rfl

theorem nextSummaryWalk_own {s : State} (ho : s.door.doorsClosed = false)
    (ht : (nextSummaryWalk s).door.doorsClosed = true) : OwnWalk (next256 s.door.walk) (nextSummaryWalk s) := by
  unfold nextSummaryWalk at ht ⊢
  split_ifs at ht ⊢ with hc
  · simp only [Bool.and_eq_true] at hc
    exact startSummaryWalk_own (s := s.setDoor { s.door with startPending := false }) hc.2 ho ht
  · simp [ho] at ht

/-- A heat walk leaves the result of a summary walk. -/
theorem ownWalk_startHeatWalk {k : Nat} {s : State} (h : OwnWalk k s) : OwnWalk k (startHeatWalk s) := by
  have hb : (startHeatWalk s).bothClosed = s.bothClosed := by
    simp [State.bothClosed, State.countsClosed, State.side]
  unfold OwnWalk
  rw [upPorts_congr (startHeatWalk_ports s), startHeatWalk_consist, startHeatWalk_door, hb]
  exact h

theorem startWalks_own {s : State} (hm : s.stableMaster = true) (ho : s.door.doorsClosed = false)
    (ht : (startWalks s).door.doorsClosed = true) : OwnWalk (next256 s.door.walk) (startWalks s) := by
  have hown := startSummaryWalk_own (s := startTimer .t7 s) hm ho
  unfold startWalks at ht ⊢
  dsimp only at ht ⊢
  generalize startSummaryWalk (startTimer .t7 s) = u at ht hown
  split_ifs at ht ⊢
  · rw [startHeatWalk_door] at ht
    exact ownWalk_startHeatWalk (s := startTimer .t11 u) (hown ht)
  · exact hown ht

theorem startWalks_of_up {s : State} (h : s.upPorts ≠ []) :
    (startWalks s).door.doorsClosed = s.door.doorsClosed := by
  have hone := startSummaryWalk_of_up (s := startTimer .t7 s) h
  unfold startWalks
  dsimp only
  generalize startSummaryWalk (startTimer .t7 s) = u at hone
  split_ifs
  · simpa using hone
  · exact hone

/-- R61: a master that enters STABLE. -/
theorem enterState_master_stable (s : State) :
    enterState .master .stable s = s.setConsist { s.consist with role := .master, state := .stable } := by
  simp [enterState, ConsistState.closesDoors, ConsistState.settled]

/-- R48, R61: a master with the consist of its attempt, before its first walks. -/
def installed (epoch : Nat) (o : Orientation) (l : List Entry) (s : State) : State :=
  (clearConsistGroups (s.setConsist { s.consist with
    table := l, epoch := epoch, position := 1, orientation := o, attempt := none })).setConsist { s.consist with
      table := l, epoch := epoch, position := 1, orientation := o, attempt := none, role := .master, state := .stable }

theorem installMaster_eq (epoch : Nat) (o : Orientation) (l : List Entry) (s : State) :
    installMaster epoch o l s = startWalks (installed epoch o l s) := by
  unfold installMaster
  dsimp only
  rw [enterState_master_stable]
  rfl

/-- R145, R146: with a port UP a SUM BACK raises the interlock by its own result. -/
theorem takeSumBack_raises {p : Port} {hd : Header} {x : SumBody} {s : State} (hup : s.upPorts ≠ [])
    (ho : s.door.doorsClosed = false) (ht : (takeSumBack p hd x s).door.doorsClosed = true) :
    s.walkReturned p hd s.door.outstanding = true ∧ s.interlockAfter x = true := by
  unfold takeSumBack at ht
  split_ifs at ht with hw hr
  · refine ⟨hw, ?_⟩
    cases hi : s.interlockAfter x with
    | true => rfl
    | false =>
      have hopen := takeSummary_open (f := ⟨hd, .sum x⟩) (stableMaster_of_walkReturned hw) hi
      have hports : (takeSummary ⟨hd, .sum x⟩ x s).ports = s.ports := by simp
      rw [nextSummaryWalk_of_up ((upPorts_congr hports).trans_ne hup), hopen] at ht
      exact Bool.noConfusion ht
  · simp [ho] at ht
  · simp [ho] at ht

/-- R61: with a port UP a CONFIRM DONE does not raise the interlock. -/
theorem takeConfirmDone_open {p : Port} {hd : Header} {m : Identity} {s : State} (hup : s.upPorts ≠ [])
    (ho : s.door.doorsClosed = false) : (takeConfirmDone p hd m s).door.doorsClosed = false := by
  unfold takeConfirmDone
  split_ifs
  · split
    · split_ifs
      · rw [installMaster_eq]
        exact (startWalks_of_up (s := installed _ _ _ (stopTimer .t4 s)) hup).trans ho
      · exact ho
    · exact ho
  · simpa using ho
  · exact ho

/-- Settles O28: no other command raises the interlock, and each of the five that end a summary walk raises it by the
result of the walk it takes, or by the walk of a train of one. -/
theorem interlockRaisedOnlyByCleanWalk : Obligations.InterlockRaisedOnlyByCleanWalk := by
  intro c s t he ho ht
  have hcontra : ∀ {P : Prop}, t.door.doorsClosed = false → P := fun hx => by simp [hx] at ht
  cases hc : endsSummary c with
  | false => exact hcontra (exec_keeps act_doorsOpen (raw_doorsOpen hc) he ho)
  | true =>
    cases c with
    | sumBack p hd x =>
      obtain rfl : frameArrives p ⟨inPhase true hd, .sum x⟩ (takeSumBack p (inPhase true hd) x) s = t :=
        Host.Outcome.next.inj he
      rcases frameArrives_cases p ⟨inPhase true hd, .sum x⟩ (takeSumBack p (inPhase true hd) x) s with
        ⟨hup, hx⟩ | hx
      · rw [hx] at ht
        obtain ⟨hw, hi⟩ := takeSumBack_raises (afterFrame_up_ne_nil hup) ho ht
        obtain ⟨h1, h2, h3, h4⟩ := (interlockAfter_iff _ _).mp hi
        simp only [State.walkReturned, Bool.and_eq_true, beq_iff_eq, State.stableMaster] at hw
        exact .inl ⟨p, hd, x, rfl, (isMaster_iff s).mp hw.1.1.1.1, hw.1.1.1.2, hw.1.1.2, h1, h2, h3, h4⟩
      · exact hcontra (hx.keeps act_doorsOpen rises_doorsOpen ho)
    | confirmDone p hd m =>
      cases he
      rcases frameArrives_cases p ⟨inPhase true hd, .confirmDone m⟩
        (takeConfirmDone p (inPhase true hd) m) s with ⟨hup, hx⟩ | hx
      · refine hcontra ?_
        rw [hx]
        exact takeConfirmDone_open (by rw [afterFrame_ports_up]; exact upPorts_ne_nil hup) ho
      · exact hcontra (hx.keeps act_doorsOpen rises_doorsOpen ho)
    | settleExpiry =>
      cases he
      dsimp only at ht ⊢
      split_ifs at ht ⊢ with hr hm
      · unfold settle oneCoachAttempt at ht ⊢
        split_ifs at ht ⊢ with hup
        · rw [installMaster_eq] at ht ⊢
          exact .inr (startWalks_own (s := installed _ _ _ (takeExpiry .t2 s)) rfl ho ht)
        · have hopen := (steps_startAttempt (X := NoLarge) (nextEpoch (takeExpiry .t2 s).consist.epoch) 1 hm.1
            (.refl _)).keeps_of_acts act_doorsOpen ho
          exact absurd (hopen.symm.trans ht) (by simp)
      · exact absurd (ho.symm.trans ht) (by simp)
      · exact absurd (ho.symm.trans ht) (by simp)
    | summaryPeriodExpiry =>
      cases he
      split_ifs at ht ⊢ with hr
      · unfold summaryPeriod at ht ⊢
        split_ifs at ht ⊢ with hm hn
        · exact .inr (startSummaryWalk_own (s := takeExpiry .t7 s) hm ho ht)
        · exact absurd (ho.symm.trans ht) (by simp)
        · exact absurd (ho.symm.trans ht) (by simp)
      · exact absurd (ho.symm.trans ht) (by simp)
    | summaryReturnTimeout =>
      cases he
      dsimp only at ht ⊢
      split_ifs at ht ⊢ with hr hn
      · exact .inr (nextSummaryWalk_own rfl ht)
      · exact absurd (ho.symm.trans ht) (by simp)
      · exact absurd (ho.symm.trans ht) (by simp)
    | _ => cases hc

/-! ### The applied stage (R156) -/

/-- R46: after a trigger the node is in SETTLING. -/
theorem trigger_state (s : State) : (trigger s).consist.state = .settling := by
  unfold trigger
  split
  · assumption
  · simp [enterSettling]
  · simp [enterSettling]
  · simp [enterSettling]
  · simp [enterSettling]

theorem trigger_stableMaster (s : State) : (trigger s).stableMaster = false := by
  simp [State.stableMaster, trigger_state]

theorem act_applied (n : Nat) (s t : State) (a : Act s t) (h : s.heat.applied ≤ n) : t.heat.applied ≤ n := by
  cases a with
  | heat y _ hm => exact hm.applied.trans h
  | release d _ _ _ =>
    have hs_le : (stopTimer (.t10 d) (setDoorState d .released s)).heat.applied ≤ s.heat.applied := by simp
    unfold heatRefresh
    split_ifs with hd
    · rw [setApplied_heat]
      exact hd.le.trans (hs_le.trans h)
    · exact hs_le.trans h
  | _ => exact h

/-- R156: outside the commands with a return step nothing raises the stage. -/
theorem raw_applied {c : Instr} (hc : returnsHeat c = false) (n : Nat) (s t : State) (r : Raw c s t)
    (h : s.heat.applied ≤ n) : t.heat.applied ≤ n := by
  cases r with
  | grant m _ hx => simp [hc] at hx
  | powerOn _ _ => exact Nat.zero_le _
  | _ => exact h

theorem rises_applied (n : Nat) (s t : State) (r : Rises s t) (h : s.heat.applied ≤ n) : t.heat.applied ≤ n := by
  cases r with
  | up p _ => exact (steps_portReport .portUp p (.refl _)).keeps_of_acts (act_applied n) h

/-- R160: the outbound step does not raise the stage. -/
theorem outboundStep_applied (w : Nat) (x : HeatBody) (s : State) :
    (outboundStep w x s).heat.applied ≤ s.heat.applied ∧ (outboundStep w x s).heat.walk = s.heat.walk := by
  have hf : (if x.remaining = 0 then recordFault .heatCount .node s else s).heat = s.heat := by split_ifs <;> rfl
  unfold outboundStep
  dsimp only
  rw [startTimer_heat, State.setHeat_heat, setApplied_heat, State.setHeat_heat, hf]
  exact ⟨Nat.min_le_left _ _, rfl⟩

theorem returnStep_walk (r : WalkRecord) (x : HeatBody) (s : State) : (returnStep r x s).heat.walk = s.heat.walk := by
  have hf : (if r.wanting ∧ x.wanting = 0 then recordFault .heatCount .node s else s).heat = s.heat := by
    split_ifs <;> rfl
  unfold returnStep
  dsimp only
  rw [State.setHeat_heat, setApplied_heat, hf]

theorem masterReturn_walk (w : Nat) (x : HeatBody) (s : State) : (masterReturn w x s).2.heat.walk = s.heat.walk := by
  unfold masterReturn
  split
  · exact returnStep_walk _ _ s
  · rfl

theorem masterReturn_of_none {w : Nat} {s : State} (h : s.recordOf w = none) (x : HeatBody) :
    masterReturn w x s = (x, s) := by
  rw [masterReturn, h]

theorem takeHeat_walk (h : Header) (x : HeatBody) (s : State) : (takeHeat h x s).heat.walk = s.heat.walk := by
  unfold takeHeat
  dsimp only
  rw [deliver_heat, masterReturn_walk]
  rfl

/-- R164: without the record of the walk its return changes no stage. -/
theorem takeHeat_of_none {h : Header} {s : State} (hr : s.recordOf h.tag = none) (x : HeatBody) :
    (takeHeat h x s).heat.applied = s.heat.applied := by
  unfold takeHeat
  dsimp only
  rw [masterReturn_of_none (s := stopTimer .t12 (s.setHeat { s.heat with outstanding := none })) hr, deliver_heat]
  rfl

/-- R158: with a port UP a walk that starts does not raise the stage. -/
theorem startHeatWalk_of_up {s : State} (h : s.upPorts ≠ []) :
    (startHeatWalk s).heat.applied ≤ s.heat.applied := by
  have hup : (startTimer .t12 (outboundStep (numberHeatWalk s).heat.walk (numberHeatWalk s).heatInitial
      (numberHeatWalk s))).upPorts.isEmpty = false := by
    have hports : (startTimer .t12 (outboundStep (numberHeatWalk s).heat.walk (numberHeatWalk s).heatInitial
      (numberHeatWalk s))).ports = s.ports := by simp [numberHeatWalk]
    simpa [List.isEmpty_iff, upPorts_congr hports] using h
  unfold startHeatWalk
  dsimp only
  rw [hup]
  exact (congrArg HeatUnit.applied (sendFrame_heat _ _ _)).le.trans (outboundStep_applied _ _ (numberHeatWalk s)).1

theorem startHeatWalk_walk (s : State) : (startHeatWalk s).heat.walk = next256 s.heat.walk := by
  unfold startHeatWalk
  dsimp only
  split_ifs
  · rw [takeHeat_walk]
    exact (outboundStep_applied _ _ (numberHeatWalk s)).2
  · rw [sendFrame_heat]
    exact (outboundStep_applied _ _ (numberHeatWalk s)).2

/-- R158, R161: what stands when the stage is raised by the walk that a train of one makes of itself; `k` is its number. -/
def OwnHeatWalk (k : Nat) (t : State) : Prop :=
  t.upPorts = [] ∧ t.consist.role = .master ∧ t.consist.state = .stable ∧ t.heat.walk = k

theorem startHeatWalk_own {s : State} (hm : s.stableMaster = true)
    (ht : s.heat.applied < (startHeatWalk s).heat.applied) : OwnHeatWalk (next256 s.heat.walk) (startHeatWalk s) := by
  have hup : s.upPorts = [] := by
    by_contra hne
    exact absurd (startHeatWalk_of_up hne) (not_le.mpr ht)
  simp only [State.stableMaster, Bool.and_eq_true, beq_iff_eq] at hm
  unfold OwnHeatWalk
  rw [upPorts_congr (startHeatWalk_ports s), startHeatWalk_consist, startHeatWalk_walk]
  exact ⟨hup, (isMaster_iff s).mp hm.1, hm.2, rfl⟩

theorem nextHeatWalk_own {s : State} (ht : s.heat.applied < (nextHeatWalk s).heat.applied) :
    OwnHeatWalk (next256 s.heat.walk) (nextHeatWalk s) := by
  unfold nextHeatWalk at ht ⊢
  split_ifs at ht ⊢ with hc
  · simp only [Bool.and_eq_true] at hc
    exact startHeatWalk_own (s := s.setHeat { s.heat with startPending := false }) hc.2 ht
  · exact absurd ht (lt_irrefl _)

theorem nextHeatWalk_of_up {s : State} (h : s.upPorts ≠ []) : (nextHeatWalk s).heat.applied ≤ s.heat.applied := by
  unfold nextHeatWalk
  split_ifs
  · exact startHeatWalk_of_up (s := s.setHeat { s.heat with startPending := false }) h
  · exact le_rfl

/-- R146: the first summary walk of a master leaves the heat unit where the master stays STABLE, and never raises the
stage. -/
theorem startSummaryWalk_heat {s : State} (hm : s.stableMaster = true) :
    (startSummaryWalk s).heat.applied ≤ s.heat.applied
      ∧ ((startSummaryWalk s).stableMaster = true → (startSummaryWalk s).heat = s.heat) := by
  unfold startSummaryWalk
  dsimp only
  split_ifs
  · generalize hf : (startTimer .t8 (numberSummaryWalk s)).walkFrame true (numberSummaryWalk s).door.walk
      (.sum ((numberSummaryWalk s).contribute sumInitial)) = f
    generalize (numberSummaryWalk s).contribute sumInitial = x
    unfold takeSummary
    dsimp only
    generalize hu : deliver f (stopTimer .t8 ((startTimer .t8 (numberSummaryWalk s)).setDoor
      { (startTimer .t8 (numberSummaryWalk s)).door with
        outstanding := none, doorsClosed := (startTimer .t8 (numberSummaryWalk s)).interlockAfter x })) = u
    have huh : u.heat = s.heat := by
      rw [← hu]
      simp [numberSummaryWalk]
    have hum : u.isMaster = true := by
      rw [← hu]
      simpa [State.isMaster, numberSummaryWalk] using isMaster_of_stableMaster hm
    split_ifs
    · refine ⟨(steps_trigger hum (.refl u)).keeps_of_acts (act_applied _) (congrArg HeatUnit.applied huh).le, fun hx => ?_⟩
      rw [trigger_stableMaster] at hx
      exact Bool.noConfusion hx
    · exact ⟨(congrArg HeatUnit.applied huh).le, fun _ => huh⟩
  · have hh : (sendFrame (startTimer .t8 (numberSummaryWalk s)).rearwardPort
        ((startTimer .t8 (numberSummaryWalk s)).walkFrame false (numberSummaryWalk s).door.walk
          (.sum ((numberSummaryWalk s).contribute sumInitial))) (startTimer .t8 (numberSummaryWalk s))).heat
        = s.heat := by
      rw [sendFrame_heat]
      rfl
    exact ⟨(congrArg HeatUnit.applied hh).le, fun _ => hh⟩

theorem startWalks_heat {s : State} (hm : s.stableMaster = true) :
    (s.upPorts ≠ [] → (startWalks s).heat.applied ≤ s.heat.applied)
      ∧ (s.heat.applied < (startWalks s).heat.applied → OwnHeatWalk (next256 s.heat.walk) (startWalks s)) := by
  obtain ⟨h1, h2⟩ := startSummaryWalk_heat (s := startTimer .t7 s) hm
  have hports := startSummaryWalk_ports (startTimer .t7 s)
  unfold startWalks
  dsimp only
  generalize startSummaryWalk (startTimer .t7 s) = u at h1 h2 hports
  have hup : u.upPorts = s.upPorts := upPorts_congr hports
  split_ifs with hs
  · refine ⟨fun hne => (startHeatWalk_of_up (s := startTimer .t11 u) (hup.trans_ne hne)).trans h1, fun ht => ?_⟩
    have hwalk : u.heat.walk = s.heat.walk := congrArg HeatUnit.walk (h2 hs)
    have hown := startHeatWalk_own (s := startTimer .t11 u) hs (lt_of_le_of_lt h1 ht)
    rwa [show (startTimer .t11 u).heat.walk = s.heat.walk from hwalk] at hown
  · exact ⟨fun _ => h1, fun ht => absurd h1 (not_le.mpr ht)⟩

/-- R162, R164: a HEAT BACK raises the stage of a node with the record of its walk alone. -/
theorem takeHeatBack_applied {p : Port} {hd : Header} {x : HeatBody} {s : State} (hup : s.upPorts ≠ [])
    (hr : s.recordOf hd.tag = none) : (takeHeatBack p hd x s).heat.applied ≤ s.heat.applied := by
  unfold takeHeatBack
  split_ifs
  · have hports : (takeHeat hd x s).ports = s.ports := by simp
    exact (nextHeatWalk_of_up ((upPorts_congr hports).trans_ne hup)).trans (takeHeat_of_none hr x).le
  · unfold passHeatBack
    dsimp only
    rw [masterReturn_of_none hr, sendFrame_heat]
  · exact le_rfl

/-- R160, R161: a HEAT OUT that goes on rearward does not raise the stage. -/
theorem takeHeatOut_applied {p : Port} {hd : Header} {x : HeatBody} {s : State} (hup : s.isUp s.rearwardPort = true) :
    (takeHeatOut p hd x s).heat.applied ≤ s.heat.applied := by
  have hrear : (outboundStep hd.tag x s).isUp (outboundStep hd.tag x s).rearwardPort = true := by
    simpa [State.isUp, State.port, State.rearwardPort, State.direction] using hup
  unfold takeHeatOut
  dsimp only
  split_ifs
  · rw [sendFrame_heat]
    exact (outboundStep_applied hd.tag x s).1
  · exact le_rfl

/-- R61: with a port UP a CONFIRM DONE does not raise the stage. -/
theorem takeConfirmDone_applied {p : Port} {hd : Header} {m : Identity} {s : State} (hup : s.upPorts ≠ []) :
    (takeConfirmDone p hd m s).heat.applied ≤ s.heat.applied := by
  unfold takeConfirmDone
  split_ifs
  · split
    · split_ifs
      · rw [installMaster_eq]
        exact (startWalks_heat (s := installed _ _ _ (stopTimer .t4 s)) rfl).1 hup
      · exact le_rfl
    · exact le_rfl
  · rw [sendFrame_heat]
  · exact le_rfl

/-- Settles O43: no other command raises the stage, and each of the six that hold a return step raises it by that step, or
by the walk of a train of one. -/
theorem stageRaisedOnlyByReturnStep : Obligations.StageRaisedOnlyByReturnStep := by
  intro c s t he ht
  have hcontra : ∀ {P : Prop}, t.heat.applied ≤ s.heat.applied → P := fun hx => absurd hx (not_le.mpr ht)
  cases hc : returnsHeat c with
  | false => exact hcontra (exec_keeps (act_applied _) (raw_applied hc _) he le_rfl)
  | true =>
    cases c with
    | heatBack p hd x =>
      obtain rfl : frameArrives p ⟨inPhase true hd, .heat x⟩ (takeHeatBack p (inPhase true hd) x) s = t :=
        Host.Outcome.next.inj he
      cases hr : s.recordOf hd.tag with
      | some r => exact .inl ⟨p, hd, x, rfl, by rw [hr]; rfl⟩
      | none =>
        refine hcontra ?_
        rcases frameArrives_cases p ⟨inPhase true hd, .heat x⟩ (takeHeatBack p (inPhase true hd) x) s with
          ⟨hup, hx⟩ | hx
        · rw [hx]
          exact takeHeatBack_applied (s := s.afterFrame p) (afterFrame_up_ne_nil hup) hr
        · exact hx.keeps (act_applied _) (rises_applied _) le_rfl
    | heatOut p hd x =>
      obtain rfl : frameArrives p ⟨inPhase false hd, .heat x⟩ (takeHeatOut p (inPhase false hd) x) s = t :=
        Host.Outcome.next.inj he
      cases hr : s.isUp s.rearwardPort with
      | false => exact .inr (.inl ⟨p, hd, x, rfl, rfl⟩)
      | true =>
        refine hcontra ?_
        rcases frameArrives_cases p ⟨inPhase false hd, .heat x⟩ (takeHeatOut p (inPhase false hd) x) s with
          ⟨-, hx⟩ | hx
        · rw [hx]
          exact takeHeatOut_applied (s := s.afterFrame p) (by simpa using hr)
        · exact hx.keeps (act_applied _) (rises_applied _) le_rfl
    | confirmDone p hd m =>
      obtain rfl : frameArrives p ⟨inPhase true hd, .confirmDone m⟩ (takeConfirmDone p (inPhase true hd) m) s = t :=
        Host.Outcome.next.inj he
      refine hcontra ?_
      rcases frameArrives_cases p ⟨inPhase true hd, .confirmDone m⟩ (takeConfirmDone p (inPhase true hd) m) s with
        ⟨hup, hx⟩ | hx
      · rw [hx]
        exact takeConfirmDone_applied (s := s.afterFrame p) (afterFrame_up_ne_nil hup)
      · exact hx.keeps (act_applied _) (rises_applied _) le_rfl
    | settleExpiry =>
      cases he
      dsimp only at ht ⊢
      split_ifs at ht ⊢ with hr hm
      · unfold settle oneCoachAttempt at ht ⊢
        split_ifs at ht ⊢ with hup
        · rw [installMaster_eq] at ht ⊢
          exact .inr (.inr ((startWalks_heat (s := installed _ _ _ (takeExpiry .t2 s)) rfl).2 ht))
        · have hle := (steps_startAttempt (X := NoLarge) (nextEpoch (takeExpiry .t2 s).consist.epoch) 1 hm.1
            (.refl _)).keeps_of_acts (act_applied s.heat.applied) le_rfl
          exact absurd hle (not_le.mpr ht)
      · exact absurd ht (lt_irrefl _)
      · exact absurd ht (lt_irrefl _)
    | heatPeriodExpiry =>
      cases he
      split_ifs at ht ⊢ with hr
      · unfold heatPeriod at ht ⊢
        split_ifs at ht ⊢ with hm hn
        · exact .inr (.inr (startHeatWalk_own (s := takeExpiry .t11 s) hm ht))
        · exact absurd ht (lt_irrefl _)
        · exact absurd ht (lt_irrefl _)
      · exact absurd ht (lt_irrefl _)
    | heatReturnTimeout =>
      cases he
      dsimp only at ht ⊢
      split_ifs at ht ⊢ with hr hn
      · exact .inr (.inr (nextHeatWalk_own ht))
      · exact absurd ht (lt_irrefl _)
      · exact absurd ht (lt_irrefl _)
    | _ => cases hc

end Sys2Proof.Machine
end

section
/-! Power-on, start-up and the node state, and the outputs the node drives. -/

namespace Sys2Proof.Machine

open Sys2Proof

/-- Settles O4: each field of the state after a power-on. -/
theorem powerOnValues : Obligations.PowerOnValues := by
  intro s
  refine ⟨poweredOn s, rfl, rfl, rfl, rfl, fun p => by cases p <;> exact ⟨rfl, rfl⟩, rfl, rfl, rfl, rfl, rfl, rfl, ?_,
    rfl, rfl, rfl, rfl, rfl, rfl, fun l hl => ?_, rfl, fun u => ?_, rfl, rfl, rfl, rfl⟩
  · cases hs : s.relay.select <;> simp [poweredOn, hs, TapSelect.cutOff]
  · rw [List.eq_of_mem_replicate hl]
    exact ⟨rfl, rfl, rfl, rfl, rfl, rfl⟩
  · cases u with
    | t0 p => cases p <;> rfl
    | t1 p => cases p <;> rfl
    | t10 d => cases d <;> rfl
    | _ => rfl

/-- Settles O5: each condition on the power-on values. -/
theorem resetKeepsInvariants : Obligations.ResetKeepsInvariants := by
  have hlines : ∀ l ∈ State.reset.lines.line, l = LineRecord.powerOn := fun l hl => List.eq_of_mem_replicate hl
  refine ⟨by decide, ⟨by decide, by decide, nofun, nofun⟩, ⟨rfl, List.nodup_nil, fun x hx => ?_⟩, by decide, by decide,
    by decide, ⟨nofun, nofun⟩, by decide, by decide, by decide, .inl rfl, .inr fun l hl => ?_, trivial,
    fun _ => ⟨rfl, rfl, rfl, rfl⟩, ⟨rfl, List.nodup_nil, fun l hl => ?_⟩, ⟨rfl, rfl⟩, fun d => by cases d <;> rfl,
    settingsSafe_reset⟩
  · rw [List.eq_of_mem_replicate hx]
    exact nofun
  · rw [hlines l hl]
    exact powerOn_unsampled
  · rw [hlines l hl]
    exact powerOn_lineOk

/-! ### The node state (R20 to R23) -/

/-- An act leaves the node state, BYPASS_HOLD and the withdraw cause. -/
theorem act_bypass (n : NodeState) (b : Bool) (w : WithdrawCause) (s t : State) (a : Act s t)
    (h : s.bypass.node = n ∧ s.bypass.hold = b ∧ s.bypass.cause = w) :
    t.bypass.node = n ∧ t.bypass.hold = b ∧ t.bypass.cause = w := by
  cases a with
  | side d x _ _ _ _ => simpa using h
  | release d _ _ _ => simpa using h
  | _ => exact h

/-- R20, R21, R22: what of the bypass a command other than the three of the start-up and the withdraw keeps. -/
theorem exec_bypass {c : Instr} {s t : State} (he : exec c s = .next t) (hp : c ≠ .powerOn)
    (hr : resetsBypass c = false) : t.bypass.hold = s.bypass.hold ∧ t.bypass.cause = s.bypass.cause
      ∧ ((∃ v q, c = .withdraw v q) ∨ t.bypass.node = s.bypass.node) := by
  let P (u : State) : Prop := u.bypass.hold = s.bypass.hold ∧ u.bypass.cause = s.bypass.cause
      ∧ ((∃ v q, c = .withdraw v q) ∨ u.bypass.node = s.bypass.node)
  have hact : ∀ u v, Act u v → P u → P v := fun u v a ⟨h1, h2, h3⟩ => by
    obtain ⟨k1, k2, k3⟩ := act_bypass u.bypass.node u.bypass.hold u.bypass.cause u v a ⟨rfl, rfl, rfl⟩
    exact ⟨k2.trans h1, k3.trans h2, h3.imp id k1.trans⟩
  refine exec_keeps (P := P) hact (fun u v r h => ?_) he ⟨rfl, rfl, .inr rfl⟩
  cases r with
  | bypass y _ _ _ hc =>
    obtain ⟨hy, hw⟩ := hc.resolve_left (by simp [hr])
    rw [hy]
    exact ⟨h.1, h.2.1, .inl hw⟩
  | powerOn _ hc => exact absurd hc hp
  | _ => exact h

/-! ### Outputs (R104, R110, R119) -/

theorem drivenLevel_of_output {s : State} {n : Nat} (h : (s.lineAt n).entry.function.isOutput = true) :
    s.drivenLevel n = some (if (s.lineAt n).entry.polarity = .activeHigh then s.commanded (s.lineAt n)
      else !s.commanded (s.lineAt n)) := by
  rw [State.drivenLevel, if_pos h]
  cases (s.lineAt n).entry.polarity <;> rfl

theorem commanded_of_operating {s : State} (h : s.bypass.node = .operating) (l : LineRecord) :
    s.commanded l = s.ownerLevel l.generalOut l.entry.function := by
  simp [State.commanded, State.operating, h]

/-- R93, R202: an unread record is news. -/
theorem news_iff (t : FaultTable) : t.news = true ↔ ∃ r, some r ∈ t.slots ∧ r.unread = true := by
  unfold FaultTable.news
  rw [List.any_eq_true]
  constructor
  · rintro ⟨x, hx, hn⟩
    cases x with
    | none => exact Bool.noConfusion hn
    | some r => exact ⟨r, hx, hn⟩
  · rintro ⟨r, hr, hu⟩
    exact ⟨some r, hr, hu⟩

theorem tapAttn_iff (s : State) : s.tapAttn = true ↔ s.bypass.node ≠ .starting ∧ (s.relay.tapQueue ≠ []
    ∨ (∃ x ∈ s.lines.line, x.reported = true) ∨ ∃ r, some r ∈ s.faults.slots ∧ r.unread = true) := by
  rw [← news_iff]
  simp [State.tapAttn, State.reportPending, or_assoc]

/-- Settles O6: the start-up and the withdraw by evaluation, the node state by what each command is made of, the outputs
by their functions. -/
theorem nodeStatesChange : Obligations.NodeStatesChange := by
  refine ⟨fun s => ⟨fun hn => ?_, fun hn hs => ?_, fun hn => ?_, fun hn n => ?_⟩, fun c s t he => ?_, fun n s => ?_⟩
  · exact ⟨congrArg Host.Outcome.next (if_pos hn), congrArg Host.Outcome.next (if_pos hn)⟩
  · have hp : (s.operating && !s.bypass.started) = true := by simp [State.operating, hn, hs]
    exact congrArg Host.Outcome.next (if_pos hp)
  · exact congrArg Host.Outcome.next (if_pos hn)
  · by_cases ho : (s.lineAt n.val).entry.function.isOutput = true
    · rw [if_pos ho, drivenLevel_of_output ho]
      have hc : s.commanded (s.lineAt n.val) = false := by simp [State.commanded, State.operating, hn]
      cases hp : (s.lineAt n.val).entry.polarity <;> simp [hc]
    · rw [if_neg ho, State.drivenLevel, if_neg ho]
  · by_cases hp : c = .powerOn
    · exact .inl hp
    · cases hr : resetsBypass c with
      | false => exact .inr (.inr (.inr (exec_bypass he hp hr)))
      | true =>
        cases c with
        | startCheckComplete b => exact .inr (.inl ⟨b, rfl⟩)
        | withdrawComplete => exact .inr (.inr (.inl rfl))
        | _ => cases hr
  · refine ⟨fun hn => ?_, tapAttn_iff s⟩
    have hd : ∀ f b, (s.lineAt n.val).entry.function = f → f.isOutput = true →
        s.ownerLevel (s.lineAt n.val).generalOut f = b →
        s.drivenLevel n.val = some (if (s.lineAt n.val).entry.polarity = .activeHigh then b else !b) :=
      fun f b hf ho hb => by
        rw [drivenLevel_of_output (hf ▸ ho), commanded_of_operating hn, hf, hb]
    refine ⟨fun d hf => hd _ _ hf rfl ?_, fun d hf => hd _ _ hf rfl ?_, fun hf => hd _ _ hf rfl ?_,
      fun hf => hd _ _ hf rfl ?_, fun hf => hd _ _ hf rfl ?_, fun hf => hd _ _ hf rfl ?_, fun hf => hd _ _ hf rfl ?_,
      fun ho => ?_⟩
    · simp [State.ownerLevel, beq_eq_decide]
    · simp [State.ownerLevel, beq_eq_decide, State.operating, hn]
    · rfl
    · simp [State.ownerLevel, Nat.testBit_eq_decide_div_mod_eq, beq_eq_decide]
    · simp [State.ownerLevel, Nat.testBit_eq_decide_div_mod_eq, beq_eq_decide]
    · simp [State.ownerLevel, Nat.testBit_eq_decide_div_mod_eq, beq_eq_decide]
    · rfl
    · rw [State.drivenLevel, if_neg (by simp [ho])]

end Sys2Proof.Machine
end

section
/-! SUPPORT. The segment controllers: what an idle port sends, and how a frame ends. -/

namespace Sys2Proof.Machine

open Sys2Proof

/-! ### Running and idle ports -/

theorem operating_of_portsRun {s : State} (h : s.portsRun = true) : s.operating = true := by
  simp only [State.portsRun, Bool.and_eq_true] at h
  exact h.1

theorem ranOut_of {s : State} {t : TimerId} (ho : s.operating = true) (hc : s.count t = some 0) :
    s.ranOut t = true := by
  simp [State.ranOut, ho, hc]

theorem idlePort_of {s : State} {p : Port} (h : s.portsRun = true) (hr : (s.port p).rx = .betweenFrames)
    (ht : (s.port p).tx.sending = false) : s.idlePort p = true := by
  simp [State.idlePort, h, hr, ht]

/-- An update of a port and of a running count do not meet. -/
theorem setCount_setPort (s : State) (p : Port) (x : PortState) (t : TimerId) (v : Option Nat) :
    (s.setCount t v).setPort p x = (s.setPort p x).setCount t v := rfl

theorem setPort_setPort (s : State) (p : Port) (x y : PortState) : (s.setPort p x).setPort p y = s.setPort p y := by
  cases p <;> rfl

theorem setPort_port (s : State) (p : Port) : s.setPort p (s.port p) = s := by cases p <;> rfl

theorem Counts.set_get (c : Counts) (t : TimerId) : c.set t (c.get t) = c := by
  cases t with
  | t0 p => cases p <;> rfl
  | t1 p => cases p <;> rfl
  | t10 d => cases d <;> rfl
  | _ => rfl

theorem setCount_count (s : State) (t : TimerId) : s.setCount t (s.count t) = s := by
  show s.setTimers { s.timers with counts := s.timers.counts.set t (s.timers.counts.get t) } = s
  rw [Counts.set_get]
  rfl

/-- R83: nothing is queued. -/
theorem frames_isEmpty (x : Queues) : x.frames.isEmpty = true ↔ x = ⟨[], [], []⟩ := by
  rcases x with ⟨u, c, b⟩
  cases u <;> cases c <;> cases b <;> simp [Queues.frames]

/-- R83: the head that is offered is that of the highest queue that is not empty. -/
theorem offer_of_head {x : Queues} {l : Level} {q : Queued} {rest : List Queued} (h : x.get l = q :: rest)
    (hc : l = .control → x.urgent = []) (hb : l = .bulk → x.urgent = [] ∧ x.control = []) :
    x.offer = some (l, q) := by
  cases l with
  | urgent => have h : x.urgent = _ := h; simp [Queues.offer, h]
  | control => have h : x.control = _ := h; simp [Queues.offer, h, hc rfl]
  | bulk => have h : x.bulk = _ := h; simp [Queues.offer, h, hb rfl]

/-- Settles O7: the conditions of each command, and the head that `offer` names. -/
theorem idlePortSends : Obligations.IdlePortSends := by
  refine ⟨⟨fun p s ho hc => ?_, fun p s hp hr ht => ?_⟩, fun p s hp hr ht hu => ⟨fun l q rest hq hc hb => ?_, fun he => ?_⟩⟩
  · exact congrArg Host.Outcome.next (if_pos (ranOut_of ho hc))
  · have hi := idlePort_of hp hr ht
    by_cases h : (s.port p).probeDue = true ∧ s.queues p = ⟨[], [], []⟩
    · rw [if_pos h]
      exact congrArg Host.Outcome.next (if_pos (by simp [hi, h.1, (frames_isEmpty _).2 h.2]))
    · rw [if_neg h]
      refine congrArg Host.Outcome.next (if_neg fun hn => h ?_)
      simp only [Bool.and_eq_true, frames_isEmpty] at hn
      exact ⟨hn.1.2, hn.2⟩
  · have hi : (s.idlePort p && s.isUp p) = true := by simp [idlePort_of hp hr ht, hu]
    show execFrameBegin p s = _
    rw [execFrameBegin, if_pos hi, offer_of_head hq hc hb]
    rfl
  · have hi : (s.idlePort p && s.isUp p) = true := by simp [idlePort_of hp hr ht, hu]
    show execFrameBegin p s = _
    rw [execFrameBegin, if_pos hi, he]
    rfl

/-! ### The end of a frame (R8, R9, R89, R196) -/

theorem drainCheck_of_not_draining {s : State} (h : s.relay.draining = false) : drainCheck s = s :=
  if_neg fun hd => by simp [h] at hd

/-- R196: the restart that is due after these frames left. -/
def restartAfter (left : List Queued) (x : RestartState) : RestartState :=
  if x = .waiting ∧ left.any Queued.restart then .due else x

theorem restartCheck_eq (left : List Queued) (s : State) :
    restartCheck left s = s.setMgmt { s.mgmt with restart := restartAfter left s.mgmt.restart } := by
  unfold restartCheck restartAfter
  split
  · rfl
  · rfl

theorem afterRemoval_eq {s : State} (left : List Queued) (h : s.relay.draining = false) :
    afterRemoval left s = s.setMgmt { s.mgmt with restart := restartAfter left s.mgmt.restart } := by
  rw [afterRemoval, restartCheck_eq]
  exact drainCheck_of_not_draining h

theorem execFrameSent_of_frame {p : Port} {s : State} {l : Level} {q : Queued} {how : Place}
    (hp : s.portsRun = true) (ht : (s.port p).tx = .frame l q how) :
    execFrameSent p s = .next
      (if how = .flushed then startTimer (.t1 p) (s.setPort p { s.port p with tx := .idle })
      else afterRemoval [q] (dropHead p l (startTimer (.t1 p) (s.setPort p { s.port p with tx := .idle })))) := by
  rw [execFrameSent, ht]
  exact congrArg Host.Outcome.next (if_pos hp)

theorem execArbitrationLost_of_frame {p : Port} {s : State} {l : Level} {q : Queued} {how : Place} {place : Nat}
    (hp : s.portsRun = true) (ht : (s.port p).tx = .frame l q how)
    (hb : (bitsOf q.frame.bytes)[place]? = some true) :
    execArbitrationLost p place s = .next
      (let s1 := startTimer (.t1 p) (s.setPort p { s.port p with
          tx := .idle, rx := .inFrame, assembly := (bitsOf q.frame.bytes).take place ++ [false] })
      if how = .doomed then afterRemoval [q] (dropHead p l s1) else s1) := by
  rw [execArbitrationLost, ht]
  exact congrArg Host.Outcome.next (if_pos (by simp [hp, hb]))

/-- R9, R196: the head leaves its queue where no drain is pending. -/
theorem afterRemoval_dropHead {p : Port} {l : Level} {q : Queued} {s : State} (h : s.relay.draining = false) :
    afterRemoval [q] (dropHead p l s) = (s.setQueues p ((s.queues p).set l ((s.queues p).get l).tail)).setMgmt
      { s.mgmt with restart := if s.mgmt.restart = .waiting ∧ q.restart = true then .due else s.mgmt.restart } := by
  have hq : restartAfter [q] s.mgmt.restart
      = if s.mgmt.restart = .waiting ∧ q.restart = true then .due else s.mgmt.restart := by
    simp [restartAfter]
  rw [afterRemoval_eq [q] (s := dropHead p l s) h]
  exact congrArg (fun r => (dropHead p l s).setMgmt { s.mgmt with restart := r }) hq

/-- Settles O8: each end by what the place of the frame calls for. -/
theorem frameEnds : Obligations.FrameEnds := by
  intro p s l q how hp ht
  refine ⟨fun hh hd => ?_, fun hh => ?_, fun place hb => ⟨fun hh => ?_, fun hh hd => ?_⟩⟩
  · refine (execFrameSent_of_frame hp ht).trans ?_
    rw [if_neg (by rcases hh with rfl | rfl <;> simp)]
    refine congrArg Host.Outcome.next ((afterRemoval_dropHead ?_).trans ?_)
    · exact hd
    · rfl
  · refine (execFrameSent_of_frame hp ht).trans ?_
    rw [if_pos hh]
    rfl
  · refine (execArbitrationLost_of_frame hp ht hb).trans ?_
    dsimp only
    rw [if_neg (by rcases hh with rfl | rfl <;> simp)]
    rfl
  · refine (execArbitrationLost_of_frame hp ht hb).trans ?_
    dsimp only
    rw [if_pos hh]
    refine congrArg Host.Outcome.next ((afterRemoval_dropHead ?_).trans ?_)
    · exact hd
    · rfl

end Sys2Proof.Machine
end

section
/-! SUPPORT. Items on a segment: what a valid and an invalid item do by link state, and the frame that arrives on a port
that is not UP. -/

namespace Sys2Proof.Machine

open Sys2Proof

/-! ### T1 and the receive condition (R4, R15) -/

theorem keepAlive_of_down {p : Port} {s : State} (h : (s.port p).link = .down) : keepAlive p s = s := if_pos h

theorem keepAlive_of_not_down {p : Port} {s : State} (h : (s.port p).link ≠ .down) :
    keepAlive p s = s.setCount (.t1 p) (some (s.period (.t1 p))) := if_neg h

/-- R15: T1 of a port after the end of a frame. -/
def State.endedT1 (s : State) (p : Port) : Option Nat :=
  if (s.port p).rx = .bitsOver then s.count (.t1 p) else some (s.period (.t1 p))

theorem keepAliveByBits_of_not_down {p : Port} {s : State} (h : (s.port p).link ≠ .down) :
    keepAliveByBits p s = s.setCount (.t1 p) (s.endedT1 p) := by
  unfold keepAliveByBits State.endedT1
  split_ifs
  · exact (setCount_count s _).symm
  · exact keepAlive_of_not_down h

theorem keepAliveByBits_of_down {p : Port} {s : State} (h : (s.port p).link = .down) : keepAliveByBits p s = s := by
  unfold keepAliveByBits
  rw [keepAlive_of_down h, ite_self]

@[simp] theorem keepAlive_port (p q : Port) (s : State) : (keepAlive p s).port q = s.port q := by
  rw [State.port, keepAlive_ports]
  rfl

@[simp] theorem keepAliveInFrame_port (p q : Port) (s : State) : (keepAliveInFrame p s).port q = s.port q := by
  rw [State.port, keepAliveInFrame_ports]
  rfl

@[simp] theorem keepAliveByBits_port (p q : Port) (s : State) : (keepAliveByBits p s).port q = s.port q := by
  rw [State.port, keepAliveByBits_ports]
  rfl

theorem receives_of {p : Port} {s : State} (h : s.portsRun = true) (ht : (s.port p).tx.sending = false) :
    s.receives p = true := by
  simp [State.receives, h, ht]

/-- R4: a port in another receive condition, with nothing assembled. -/
def PortState.left (y : PortState) (x : RxCondition) : PortState := { y with rx := x, assembly := [] }

theorem setRx_port {p : Port} {x : RxCondition} {s : State} {y : PortState} (h : s.port p = y) :
    (setRx p x s).port p = y.left x := by
  subst h
  exact State.port_setPort ..

/-! ### A valid item (R11 to R14) -/

section ValidItem

variable {p : Port} {s : State} {y : PortState} (hy : s.port p = y)

include hy

theorem validItem_down (h : y.link = .down) : validItem p s
    = (s.setPort p { y with link := .arriving, arrival := 1 }).setCount (.t1 p) (some (s.period (.t1 p))) := by
  subst hy
  rw [validItem, h]
  rfl

theorem validItem_up (h : y.link = .up) : validItem p s = s := by
  subst hy
  rw [validItem, h]

theorem validItem_arriving (h : y.link = .arriving) (ha : y.arrival < 3) :
    validItem p s = s.setPort p { y with arrival := y.arrival + 1 } := by
  subst hy
  have hm : min 4 ((s.port p).arrival + 1) = (s.port p).arrival + 1 := by omega
  rw [validItem, h]
  dsimp only
  rw [if_neg (by omega), hm]

theorem validItem_fourth (h : y.link = .arriving) (ha : y.arrival = 3) : validItem p s
    = portReport .portUp p (s.setPort p { y with link := .up, arrival := 4, score := 0 }) := by
  subst hy
  rw [validItem, h]
  dsimp only
  rw [if_pos (by omega), becomeUp, State.port_setPort, setPort_setPort, ha]
  rfl

theorem validItem_faulted (h : y.link = .faulted) (hs : 1 < y.score) :
    validItem p s = s.setPort p { y with score := y.score - 1 } := by
  subst hy
  rw [validItem, h]
  dsimp only
  rw [if_neg (by omega)]

theorem validItem_recovered (h : y.link = .faulted) (hs : y.score = 1) : validItem p s
    = portReport .portUp p (s.setPort p { y with link := .up, score := 0 }) := by
  subst hy
  rw [validItem, h]
  dsimp only
  rw [if_pos (by omega), becomeUp, State.port_setPort, setPort_setPort]

end ValidItem

/-! ### An invalid item (R11 to R14) -/

/-- R11 to R14: a port after an invalid item that does not fault it. -/
def PortState.hit (y : PortState) : PortState :=
  match y.link with
  | .down => y
  | .arriving => { y with arrival := 0 }
  | .up | .faulted => { y with score := min 255 (y.score + 8) }

section InvalidItem

variable {p : Port} {s : State} {y : PortState} (hy : s.port p = y)

include hy

theorem invalidItem_low (h : y.link = .up → y.score + 8 < 96) : invalidItem p s = s.setPort p y.hit := by
  subst hy
  cases hl : (s.port p).link with
  | down =>
    rw [invalidItem, PortState.hit, hl]
    exact (setPort_port s p).symm
  | up =>
    have hlt := h hl
    rw [invalidItem, PortState.hit, hl]
    exact if_neg (by omega)
  | _ => rw [invalidItem, PortState.hit, hl]

theorem invalidItem_high (h : y.link = .up) (hs : 96 ≤ y.score + 8) :
    invalidItem p s = enterFaulted p (s.setPort p { y with score := min 255 (y.score + 8) }) := by
  subst hy
  rw [invalidItem, h]
  dsimp only
  rw [if_pos (by omega)]

end InvalidItem

/-! ### Symbols (R4, R10) -/

theorem symbolItem_probe {p : Port} {s : State} (h : s.portsRun = true) (ht : (s.port p).tx.sending = false)
    (hr : (s.port p).rx = .betweenFrames) : symbolItem p .probe s = validItem p (keepAlive p s) := by
  rw [symbolItem, if_pos (receives_of h ht), hr]
  rfl

theorem symbolItem_invalid {p : Port} {c : WidthClass} {x : RxCondition} {s : State} (h : s.portsRun = true)
    (ht : (s.port p).tx.sending = false) (hj : judgeSymbol (s.port p).rx c = (.invalidItem, x)) :
    symbolItem p c s = invalidItem p (setRx p x (keepAliveInFrame p s)) := by
  rw [symbolItem, if_pos (receives_of h ht), hj]

theorem badReception_of_open {alive : State → State} {p : Port} {x : RxCondition} {why : FrameFailure} {s : State}
    (h : s.portsRun = true) (ht : (s.port p).tx.sending = false) (ho : (s.port p).rx.open = true) :
    badReception alive p x why s = invalidItem p (recordBadKind p why (setRx p x (alive s))) := by
  rw [badReception, if_pos (by rw [receives_of h ht, ho]; rfl)]

/-! ### A frame that arrives -/

/-- R39, R40: the request that names the object of its code is the request itself. -/
theorem forObject_self {n : Nat} {q : Req} (h : objectCode q.object = n) : forObject n q = q := by
  have hb : ∀ o : BitVec 8, (o &&& 0xE0#8) ||| byte (o.toNat % 32) = o := by decide
  subst h
  show { q with object := (q.object &&& 0xE0#8) ||| byte (q.object.toNat % 32) } = q
  rw [hb]

theorem withDrain_self {q : Req} (h : q.index = 1) : withDrain q = q := by
  cases q
  cases h
  rfl

/-- R39: a WRITE whose object has a row of its own is that object's write. -/
theorem exec_writeCommand (v : Via) (q : Req) (s : State) : exec (writeCommand v q) s = .next (writeRequest v q s) := by
  have hw : ∀ n, objectCode q.object = n → writeRequest v (forObject n q) s = writeRequest v q s :=
    fun n hn => by rw [forObject_self hn]
  unfold writeCommand
  split
  next h => exact congrArg Host.Outcome.next (hw 4 h)
  next h => exact congrArg Host.Outcome.next (hw 5 h)
  next h => exact congrArg Host.Outcome.next (hw 6 h)
  next h => exact congrArg Host.Outcome.next (hw 9 h)
  next h => exact congrArg Host.Outcome.next (hw 10 h)
  next h => exact congrArg Host.Outcome.next (hw 11 h)
  next h => exact congrArg Host.Outcome.next (hw 12 h)
  next h => exact congrArg Host.Outcome.next (hw 13 h)
  next h => exact congrArg Host.Outcome.next (hw 14 h)
  next h => exact congrArg Host.Outcome.next (hw 15 h)
  next h => exact congrArg Host.Outcome.next (hw 16 h)
  next => rfl

/-- R39: every request is taken on its way, with its code, by what its rule does. -/
theorem exec_requestCommand (v : Via) (c : ReqCode) (q : Req) (levels : Levels) :
    ∃ act, ∀ s, exec (requestCommand v c q levels) s = .next (request v c q (serve c q act) s) := by
  cases c with
  | read =>
    refine ⟨carryRead q, fun s => ?_⟩
    simp only [requestCommand, readCommand]
    split_ifs with h8 h17
    · show Host.Outcome.next (readRequest v (forObject 8 q) s) = _
      rw [forObject_self h8]
      rfl
    · show Host.Outcome.next (readRequest v (forObject 17 q) s) = _
      rw [forObject_self h17]
      rfl
    · rfl
  | write => exact ⟨carryWrite q, exec_writeCommand v q⟩
  | commit =>
    refine ⟨carryCommit q, fun s => ?_⟩
    simp only [requestCommand]
    split_ifs with h
    · show Host.Outcome.next (request v .commit (withDrain q) (serve .commit (withDrain q) (carryCommit (withDrain q))) s) = _
      rw [withDrain_self h]
    · rfl
  | clearFaults => exact ⟨carryClear q, fun _ => rfl⟩
  | reinaugurate => exact ⟨carryReinaugurate, fun _ => rfl⟩
  | restart => exact ⟨carryRestart levels q, fun _ => rfl⟩
  | withdraw => exact ⟨carryWithdraw q, fun _ => rfl⟩
  | clearLockout => exact ⟨carryClearLockout, fun _ => rfl⟩

theorem inPhase_self {b : Bool} {h : Header} (hp : h.phase = b) : inPhase b h = h := by
  cases h
  cases hp
  rfl

/-- R5, R29: the command of a frame is that frame's arrival. -/
theorem exec_commandOfFrame (p : Port) (levels : Levels) {f : Frame} (hf : f.formOk = true) :
    ∃ handle, ∀ s, exec (commandOfFrame p levels f) s = .next (frameArrives p f handle s) := by
  have hphase : phaseOk f = true := by
    simp only [Frame.formOk, Frame.tapFormOk, Bool.and_eq_true] at hf
    exact hf.1.1.1.2
  rcases f with ⟨h, body⟩
  cases body with
  | doorCmd c side r => cases c <;> exact ⟨_, fun _ => rfl⟩
  | doorAlert x => exact ⟨_, fun _ => rfl⟩
  | topo x => exact ⟨_, fun _ => rfl⟩
  | mgmtReq c q =>
    obtain ⟨act, ha⟩ := exec_requestCommand (.train p h) c q levels
    exact ⟨_, ha⟩
  | mgmtRsp x => exact ⟨_, fun _ => rfl⟩
  | data l => exact ⟨_, fun _ => rfl⟩
  | confirmOut x =>
    have hp : h.phase = false := by simpa [phaseOk] using hphase
    refine ⟨takeConfirmOut p h x, fun s => ?_⟩
    show execConfirmOut p h x s = _
    rw [execConfirmOut, inPhase_self hp]
  | confirmDone m =>
    have hp : h.phase = true := by simpa [phaseOk] using hphase
    refine ⟨takeConfirmDone p h m, fun s => ?_⟩
    show execConfirmDone p h m s = _
    rw [execConfirmDone, inPhase_self hp]
  | sum x =>
    cases hp : h.phase with
    | false =>
      refine ⟨takeSumOut p h x, fun s => ?_⟩
      simp only [commandOfFrame, hp]
      exact congrArg (fun y => Host.Outcome.next (frameArrives p ⟨y, .sum x⟩ (takeSumOut p y x) s)) (inPhase_self hp)
    | true =>
      refine ⟨takeSumBack p h x, fun s => ?_⟩
      simp only [commandOfFrame, hp]
      exact congrArg (fun y => Host.Outcome.next (frameArrives p ⟨y, .sum x⟩ (takeSumBack p y x) s)) (inPhase_self hp)
  | roll x =>
    cases hp : h.phase with
    | false =>
      refine ⟨takeRollCall p h x, fun s => ?_⟩
      simp only [commandOfFrame, hp]
      exact congrArg (fun y => Host.Outcome.next (frameArrives p ⟨y, .roll x⟩ (takeRollCall p y x) s)) (inPhase_self hp)
    | true =>
      refine ⟨takeRollBack p h x, fun s => ?_⟩
      simp only [commandOfFrame, hp]
      exact congrArg (fun y => Host.Outcome.next (frameArrives p ⟨y, .roll x⟩ (takeRollBack p y x) s)) (inPhase_self hp)
  | heat x =>
    cases hp : h.phase with
    | false =>
      refine ⟨takeHeatOut p h x, fun s => ?_⟩
      simp only [commandOfFrame, hp]
      exact congrArg (fun y => Host.Outcome.next (frameArrives p ⟨y, .heat x⟩ (takeHeatOut p y x) s)) (inPhase_self hp)
    | true =>
      refine ⟨takeHeatBack p h x, fun s => ?_⟩
      simp only [commandOfFrame, hp]
      exact congrArg (fun y => Host.Outcome.next (frameArrives p ⟨y, .heat x⟩ (takeHeatBack p y x) s)) (inPhase_self hp)

/-- R5, R11 to R14: a frame of correct form on a port that is not UP is counted. -/
theorem frameArrives_of_not_up {p : Port} {f : Frame} {handle : State → State} {s : State} (hh : s.hears p)
    (hf : f.formOk = true) (hl : (s.port p).link ≠ .up) :
    frameArrives p f handle s = validItem p (setRx p .betweenFrames (keepAliveByBits p s)) := by
  obtain ⟨hp, ht, ho⟩ := hh
  have hu : (setRx p .betweenFrames (keepAliveByBits p s)).isUp p ≠ true := by
    rw [State.isUp, setRx_port (keepAliveByBits_port p p s)]
    simpa [PortState.left] using hl
  unfold frameArrives
  rw [if_pos (by rw [receives_of hp ht, ho]; rfl)]
  dsimp only
  rw [if_pos hf, if_neg hu]

/-! ### The statements -/

theorem portReport_port (e : TopoEvent) (p q : Port) (s : State) : (portReport e p s).port q = s.port q := by
  rw [State.port, portReport_ports]
  rfl

theorem probe_of_link {p : Port} {s : State} (h : s.portsRun = true) (ht : (s.port p).tx.sending = false)
    (hr : (s.port p).rx = .betweenFrames) :
    exec (.probeReceived ⟨p, false⟩) s = .next (validItem p (keepAlive p s)) :=
  congrArg Host.Outcome.next (symbolItem_probe h ht hr)

/-- Settles O9: the item by the link state of its port. -/
theorem linkCountsArrivals : Obligations.LinkCountsArrivals := by
  refine ⟨fun p s h ht hr => ⟨rfl, fun hl => ?_, fun hl ha => ?_, fun hl ha => ?_, fun hl => ?_, fun hl hs => ?_,
    fun hl hs => ?_⟩, fun p levels f s hf hh => ?_⟩
  · rw [probe_of_link h ht hr, keepAlive_of_down hl, validItem_down rfl hl]
  · rw [probe_of_link h ht hr, keepAlive_of_not_down (by simp [hl]), validItem_arriving (State.port_setCount ..) hl ha]
    rfl
  · rw [probe_of_link h ht hr, validItem_fourth (keepAlive_port p p s) hl ha]
    refine ⟨_, rfl, ?_⟩
    rw [portReport_port, portReport_port, State.port_setPort, State.port_setPort_other, keepAlive_port]
    exact ⟨rfl, rfl, rfl⟩
  · rw [probe_of_link h ht hr, validItem_up (keepAlive_port p p s) hl, keepAlive_of_not_down (by simp [hl])]
  · rw [probe_of_link h ht hr, keepAlive_of_not_down (by simp [hl]), validItem_faulted (State.port_setCount ..) hl hs]
    rfl
  · rw [probe_of_link h ht hr, validItem_recovered (keepAlive_port p p s) hl hs]
    refine ⟨_, rfl, ?_⟩
    rw [portReport_port, portReport_port, State.port_setPort, State.port_setPort_other, keepAlive_port]
    exact ⟨rfl, rfl, rfl⟩
  · obtain ⟨handle, he⟩ := exec_commandOfFrame p levels hf
    have hc : ∀ l, (s.port p).link = l → l ≠ .up → exec (commandOfFrame p levels f) s
        = .next (validItem p (setRx p .betweenFrames (keepAliveByBits p s))) := fun l hl hn =>
      (he s).trans (congrArg Host.Outcome.next (frameArrives_of_not_up hh hf (hl ▸ hn)))
    have hx : ∀ x, (s.port p).link ≠ .down → (setRx p .betweenFrames (keepAliveByBits p s)).setPort p x
        = (s.setPort p x).setCount (.t1 p) (s.endedT1 p) := fun x hl => by
      rw [keepAliveByBits_of_not_down hl, setRx, setPort_setPort]
      rfl
    have hy := setRx_port (x := .betweenFrames) (keepAliveByBits_port p p s)
    refine ⟨fun hl => ?_, fun hl ha => ?_, fun hl hs => ?_, fun hl ha => ?_, fun hl hs => ?_⟩
    · rw [hc _ hl (by decide), validItem_down hy hl, keepAliveByBits_of_down hl, setRx, setPort_setPort]
      rfl
    · rw [hc _ hl (by decide), validItem_arriving hy hl ha, hx _ (by simp [hl])]
      rfl
    · rw [hc _ hl (by decide), validItem_faulted hy hl hs, hx _ (by simp [hl])]
      rfl
    · rw [hc _ hl (by decide), validItem_fourth hy hl ha, hx _ (by simp [hl])]
      rfl
    · rw [hc _ hl (by decide), validItem_recovered hy hl hs, hx _ (by simp [hl])]
      rfl

end Sys2Proof.Machine
end

section
/-! SUPPORT. Changes of role and consist state: which running counts, sides and queues they reach. -/

namespace Sys2Proof.Machine

open Sys2Proof

/-! ### Running counts -/

/-- The running counts that a change of consist state does not reach through the other blocks: those of the ports, of the
consist unit and of the drain. -/
def TimerId.apart : TimerId → Bool
  | .t7 | .t8 | .t10 _ | .t11 | .t12 | .t13 | .t14 => false
  | _ => true

/-- The running counts of a port. -/
def TimerId.ofPort : TimerId → Bool
  | .t0 _ | .t1 _ => true
  | _ => false

theorem TimerId.ofPort_apart {u : TimerId} (h : u.ofPort = true) : u.apart = true := by
  cases u <;> first | rfl | cases h

theorem TimerId.ofPort_not_mem {u : TimerId} (h : u.ofPort = true) : u ∉ consistTimers := by
  cases u <;> simp_all [TimerId.ofPort, consistTimers]

theorem TimerId.ne_of_ofPort {u v : TimerId} (h : u.ofPort = true) (hv : v.ofPort = false) : u ≠ v := by
  rintro rfl
  rw [h] at hv
  cases hv

section Counts

variable {u : TimerId}

@[simp] theorem count_setConsist (y : ConsistUnit) (s : State) : (s.setConsist y).count u = s.count u := rfl

@[simp] theorem count_setPort (p : Port) (x : PortState) (s : State) : (s.setPort p x).count u = s.count u := rfl

@[simp] theorem count_setRelay (x : RelayUnit) (s : State) : (s.setRelay x).count u = s.count u := rfl

@[simp] theorem count_setMgmt (x : ManagementUnit) (s : State) : (s.setMgmt x).count u = s.count u := rfl

@[simp] theorem count_setBypass (x : BypassHold) (s : State) : (s.setBypass x).count u = s.count u := rfl

@[simp] theorem count_setDoor (x : DoorUnit) (s : State) : (s.setDoor x).count u = s.count u := rfl

@[simp] theorem count_setHeat (x : HeatUnit) (s : State) : (s.setHeat x).count u = s.count u := rfl

@[simp] theorem count_setQueues (p : Port) (x : Queues) (s : State) : (s.setQueues p x).count u = s.count u := rfl

@[simp] theorem count_setTapQueue (x : List Frame) (s : State) : (s.setTapQueue x).count u = s.count u := rfl

theorem count_of_timers {s t : State} (h : t.timers = s.timers) : t.count u = s.count u := by rw [State.count, h]; rfl

@[simp] theorem count_recordFault (k : FaultKind) (x : FaultSource) (s : State) :
    (recordFault k x s).count u = s.count u := count_of_timers (recordFault_timers ..)

@[simp] theorem count_enqueue (p : Port) (l : Level) (q : Queued) (s : State) :
    (enqueue p l q s).count u = s.count u := count_of_timers (enqueue_timers ..)

@[simp] theorem count_sendFrame (p : Port) (f : Frame) (s : State) : (sendFrame p f s).count u = s.count u :=
  count_of_timers (sendFrame_timers ..)

@[simp] theorem count_sendTopo (l : List Port) (f : Frame) (s : State) : (sendTopo l f s).count u = s.count u :=
  count_of_timers (sendTopo_timers ..)

@[simp] theorem count_deliver (f : Frame) (s : State) : (deliver f s).count u = s.count u :=
  count_of_timers (deliver_timers ..)

@[simp] theorem count_clearRestartReport (e : TopoEvent) (s : State) :
    (clearRestartReport e s).count u = s.count u := count_of_timers (clearRestartReport_timers ..)

@[simp] theorem count_restartCheck (l : List Queued) (s : State) : (restartCheck l s).count u = s.count u :=
  count_of_timers (restartCheck_timers ..)

variable (hu : u.apart = true)

include hu

theorem count_madeReady_apart (r : Role) (x : ConsistState) (s : State) : (madeReady r x s).count u = s.count u := by
  have h10 : ∀ d, u ≠ .t10 d := fun d hd => by rw [hd] at hu; cases hu
  have h13 : u ≠ .t13 := fun hd => by rw [hd] at hu; cases hu
  have h14 : u ≠ .t14 := fun hd => by rw [hd] at hu; cases hu
  have hw : u ∉ [TimerId.t7, .t8, .t11, .t12] := by
    intro hm
    simp only [List.mem_cons, List.not_mem_nil, or_false] at hm
    rcases hm with rfl | rfl | rfl | rfl <;> cases hu
  have ha : (abandonWalks s).count u = s.count u := count_stopTimers_not_mem hw s
  unfold madeReady
  dsimp only
  split_ifs <;> simp only [count_heatUnsettled ⟨h13, h14⟩, count_localClose ⟨h10, h14⟩, ha]

theorem count_enterState (r : Role) (x : ConsistState) (s : State) : (enterState r x s).count u = s.count u := by
  rw [enterState_eq]
  exact count_madeReady_apart hu r x s

theorem count_enterSettling (h2 : u ≠ .t2) (s : State) : (enterSettling s).count u = s.count u := by
  rw [enterSettling, count_startTimer_ne h2, count_enterState hu]

theorem count_enterSuspect (h6 : u ≠ .t6) (h9 : u ≠ .t9) (s : State) : (enterSuspect s).count u = s.count u := by
  rw [enterSuspect, count_startTimer_ne h6, count_stopTimer_ne h9, count_enterState hu]

theorem count_enterUninaugurated (hm : u ∉ consistTimers) (s : State) :
    (enterUninaugurated s).count u = s.count u := by
  rw [enterUninaugurated, count_enterState hu, count_setConsist, count_stopTimers_not_mem hm]
  rfl

end Counts

theorem apart_of_consistTimers {u : TimerId} (h : u ∈ consistTimers) : u.apart = true := by
  simp only [consistTimers, List.mem_cons, List.not_mem_nil, or_false] at h
  rcases h with rfl | rfl | rfl | rfl | rfl | rfl <;> rfl

/-- R69: outside a consist no timer of the consist unit runs. -/
theorem count_enterUninaugurated_none {u : TimerId} (h : u ∈ consistTimers) (s : State) :
    (enterUninaugurated s).count u = none := by
  rw [enterUninaugurated, count_enterState (apart_of_consistTimers h)]
  exact count_of_stopTimers h _ _

theorem count_enterBlocked_none {u : TimerId} (h : u ∈ consistTimers) (why : BlockedReason) (s : State) :
    (enterBlocked why s).count u = none := by
  rw [enterBlocked, count_enterState (apart_of_consistTimers h)]
  exact count_of_stopTimers h _ _

theorem period_of_settings {s t : State} (h : t.timers.settings = s.timers.settings) (u : TimerId) :
    t.period u = s.period u := by
  simp only [State.period, State.setting, h]

/-! ### Timer settings and the timebase -/

/-- The timebase and the settings are as they were; the running counts may differ. -/
def State.SameClock (s t : State) : Prop :=
  t.timers.timebase = s.timers.timebase ∧ t.timers.settings = s.timers.settings

namespace State.SameClock

theorem refl (s : State) : s.SameClock s := ⟨rfl, rfl⟩

theorem trans {s t u : State} (h : s.SameClock t) (k : t.SameClock u) : s.SameClock u :=
  ⟨k.1.trans h.1, k.2.trans h.2⟩

theorem of_timers {s t : State} (h : t.timers = s.timers) : s.SameClock t := by rw [SameClock, h]; exact ⟨rfl, rfl⟩

theorem period {s t : State} (h : s.SameClock t) (u : TimerId) : t.period u = s.period u := period_of_settings h.2 u

end State.SameClock

/-- An act other than a step of the timebase keeps the clock. -/
theorem sameClock_startTimer (u : TimerId) (s : State) : s.SameClock (startTimer u s) := ⟨rfl, rfl⟩

theorem sameClock_stopTimer (u : TimerId) (s : State) : s.SameClock (stopTimer u s) := ⟨rfl, rfl⟩

theorem sameClock_stopTimers (l : List TimerId) (s : State) : s.SameClock (stopTimers l s) := by
  unfold stopTimers
  induction l generalizing s with
  | nil => exact .refl s
  | cons u l ih => exact (sameClock_stopTimer u s).trans (ih _)

theorem sameClock_judgeFeedback (s : State) : s.SameClock (judgeFeedback s) := by
  unfold judgeFeedback
  split_ifs
  · exact .refl s
  · exact sameClock_startTimer _ s
  · exact sameClock_stopTimer _ s

theorem sameClock_setApplied (n : Nat) (s : State) : s.SameClock (setApplied n s) := by
  unfold setApplied
  dsimp only
  split_ifs
  · exact .refl _
  · exact sameClock_judgeFeedback (s.setHeat { s.heat with applied := n })

theorem sameClock_heatRefresh (s : State) : s.SameClock (heatRefresh s) := by
  unfold heatRefresh
  split_ifs
  · exact sameClock_setApplied _ s
  · exact .refl s

theorem sameClock_heatUnsettled (s : State) : s.SameClock (heatUnsettled s) := by
  unfold heatUnsettled enterFallback
  split_ifs
  · exact .refl _
  · exact sameClock_setApplied _ (stopTimer .t13 ((s.setHeat { s.heat with walkRecord := none }).setHeat
      { (s.setHeat { s.heat with walkRecord := none }).heat with fallback := true }))

theorem sameClock_closeSide (d : Side) (s : State) : s.SameClock (closeSide d s) := by
  refine State.SameClock.trans ?_ (sameClock_heatRefresh _)
  split_ifs
  · exact ⟨rfl, rfl⟩
  · exact ⟨rfl, rfl⟩

theorem sameClock_localClose (s : State) : s.SameClock (localClose s) := by
  have hd : ∀ d t, State.SameClock t (closeReleased d t) := fun d t => by
    unfold closeReleased
    split_ifs
    · exact sameClock_closeSide d t
    · exact .refl t
  exact (hd .a s).trans (hd .b _)

theorem sameClock_enterState (r : Role) (x : ConsistState) (s : State) : s.SameClock (enterState r x s) := by
  have ha : s.SameClock (abandonWalks s) :=
    (sameClock_stopTimers [.t7, .t8, .t11, .t12] s).trans (.of_timers rfl)
  rw [enterState_eq]
  refine State.SameClock.trans ?_ (.of_timers rfl)
  have hite : ∀ (c : Prop) [Decidable c] (t : State) (f : State → State), (∀ u, State.SameClock u (f u)) →
      State.SameClock t (if c then f t else t) := fun c _ t f hf => by
    split_ifs
    · exact hf t
    · exact .refl t
  have h1 : s.SameClock (if s.stableMaster = true ∧ ¬(r = .master ∧ x = .stable) then abandonWalks s else s) := by
    split_ifs
    · exact ha
    · exact .refl s
  unfold madeReady
  dsimp only
  have h2 := h1.trans (hite (x.closesDoors = true) _ localClose sameClock_localClose)
  split_ifs at h2 ⊢ <;> first | exact h2 | exact h2.trans (sameClock_heatUnsettled _)

theorem sameClock_enterUninaugurated (s : State) : s.SameClock (enterUninaugurated s) :=
  ((sameClock_stopTimers consistTimers (clearConsist s)).trans (.of_timers rfl)).trans (sameClock_enterState ..)

theorem sameClock_enterSuspect (s : State) : s.SameClock (enterSuspect s) :=
  (sameClock_enterState ..).trans ⟨rfl, rfl⟩

/-- R178: T2 starts in full. -/
theorem count_enterSettling_t2 (s : State) : (enterSettling s).count .t2 = some (s.period .t2) := by
  rw [enterSettling, count_startTimer, (sameClock_enterState .master .settling s).period]

theorem count_enterSuspect_t6 (s : State) : (enterSuspect s).count .t6 = some (s.period .t6) := by
  rw [enterSuspect, count_startTimer, ((sameClock_enterState .member .suspect s).trans (sameClock_stopTimer .t9 _)).period]

/-! ### Entering a state of the consist (R44, R63, R69) -/

theorem enterUninaugurated_consist (s : State) : (enterUninaugurated s).consist = { s.consist with
    role := .member, state := .uninaugurated, blocked := .none, epoch := 0, position := 0, orientation := .normal
    table := [], joined := none, attempt := none } := by
  simp [enterUninaugurated, clearConsist]

theorem enterBlocked_consist (why : BlockedReason) (s : State) : (enterBlocked why s).consist = { s.consist with
    state := .blocked, blocked := why, epoch := 0, position := 0, orientation := .normal
    table := [], joined := none, attempt := none } := by
  simp [enterBlocked, clearConsist]

@[simp] theorem enterSuspect_consist (s : State) :
    (enterSuspect s).consist = { s.consist with role := .member, state := .suspect } := by
  simp [enterSuspect]

@[simp] theorem enterSettling_consist (s : State) :
    (enterSettling s).consist = { s.consist with role := .master, state := .settling } := by
  simp [enterSettling]

/-- R65, R66: a member that is not a STABLE master enters SUSPECT with its other blocks as they were. -/
theorem enterState_of_settled {r : Role} {x : ConsistState} {s : State} (hx : x.settled = true)
    (hm : s.stableMaster = false ∨ r = .master ∧ x = .stable) :
    enterState r x s = s.setConsist { s.consist with role := r, state := x } := by
  have hc : x.closesDoors = false := by cases x <;> first | rfl | cases hx
  have hn : ¬(s.stableMaster = true ∧ ¬(r = .master ∧ x = .stable)) := by
    rcases hm with hm | hm
    · simp [hm]
    · exact fun h => h.2 hm
  rw [enterState_eq, madeReady]
  dsimp only
  rw [if_neg hn, if_pos hx, if_neg (by simp [hc])]

theorem stableMaster_of_member {s : State} (h : s.consist.role = .member) : s.stableMaster = false := by
  simp [State.stableMaster, State.isMaster, h]

theorem enterSuspect_of_member {s : State} (h : s.consist.role = .member) : enterSuspect s
    = ((s.setConsist { s.consist with state := .suspect }).setCount .t9 none).setCount .t6 (some (s.period .t6)) := by
  rw [enterSuspect, enterState_of_settled rfl (.inl (stableMaster_of_member h)), ← h]
  rfl

/-! ### A port report where no port is UP -/

theorem enqueue_of_not_up {p : Port} {s : State} (h : s.isUp p = false) (l : Level) (q : Queued) :
    enqueue p l q s = s := by
  rw [enqueue, h]
  rfl

theorem sendFrame_of_not_up {p : Port} {s : State} (h : s.isUp p = false) (f : Frame) : sendFrame p f s = s :=
  enqueue_of_not_up h _ _

theorem isUp_of_ports {s t : State} (h : t.ports = s.ports) (p : Port) : t.isUp p = s.isUp p := by
  simp only [State.isUp, State.port, h]

theorem upPorts_eq_nil {s : State} (h : ∀ p, s.isUp p = false) : s.upPorts = [] := by
  simp [State.upPorts, h]

theorem memberReport_of_no_up {e : TopoEvent} {p : Port} {s : State} (h : ∀ q, s.isUp q = false) :
    memberReport e p s = if s.consist.state = .stable then enterSuspect (clearRestartReport e s)
      else clearRestartReport e s := by
  have hc : ∀ q, (clearRestartReport e s).isUp q = false := fun q => (isUp_of_ports (clearRestartReport_ports ..) q).trans (h q)
  have hs : ∀ q, (enterSuspect (clearRestartReport e s)).isUp q = false := fun q =>
    (isUp_of_ports (enterSuspect_ports ..) q).trans (hc q)
  have hst : (clearRestartReport e s).consist.state = s.consist.state := by
    unfold clearRestartReport
    split <;> rfl
  unfold memberReport
  dsimp only
  rw [hst, upPorts_eq_nil hc]
  split_ifs
  · exact sendFrame_of_not_up (hs _) _
  · rfl

/-- R70, R84: with no port UP a port report queues nothing and records no fault. -/
theorem portReport_of_no_up (e : TopoEvent) (p : Port) {s : State} (h : ∀ q, s.isUp q = false) :
    (portReport e p s).relay = s.relay ∧ (portReport e p s).faults = s.faults := by
  unfold portReport
  rw [upPorts_eq_nil h, memberReport_of_no_up h]
  split_ifs <;> simp_all

section PortCounts

variable {u : TimerId} (hu : u.ofPort = true)

include hu

theorem count_trigger_port (s : State) : (trigger s).count u = s.count u := by
  have ha := TimerId.ofPort_apart hu
  have h2 : u ≠ .t2 := TimerId.ne_of_ofPort hu rfl
  unfold trigger
  split
  · exact count_startTimer_ne h2 s
  · rw [count_enterSettling ha h2, abandonAttempt, count_stopTimer_ne (TimerId.ne_of_ofPort hu rfl), count_setConsist]
  · rw [count_enterSettling ha h2, abandonAttempt, count_stopTimer_ne (TimerId.ne_of_ofPort hu rfl), count_setConsist]
  · rw [count_enterSettling ha h2, count_setConsist]
  · exact count_enterSettling ha h2 s

theorem count_becomeMaster_port (s : State) : (becomeMaster s).count u = s.count u := by
  have hn : u ∉ [TimerId.t5, .t6, .t9] := fun hm => TimerId.ofPort_not_mem hu (by
    simp only [List.mem_cons, List.not_mem_nil, or_false] at hm
    rcases hm with rfl | rfl | rfl <;> decide)
  rw [becomeMaster, count_enterSettling (TimerId.ofPort_apart hu) (TimerId.ne_of_ofPort hu rfl), count_setConsist,
    count_stopTimers_not_mem hn]

theorem count_loseRole_port (s : State) : (loseRole s).count u = s.count u := by
  have hn : u ∉ [TimerId.t2, .t3, .t4] := fun hm => TimerId.ofPort_not_mem hu (by
    simp only [List.mem_cons, List.not_mem_nil, or_false] at hm
    rcases hm with rfl | rfl | rfl <;> decide)
  have ha := TimerId.ofPort_apart hu
  unfold loseRole
  split
  · rw [count_enterSuspect ha (TimerId.ne_of_ofPort hu rfl) (TimerId.ne_of_ofPort hu rfl), count_setConsist,
      count_stopTimers_not_mem hn]
  · exact count_enterUninaugurated ha (TimerId.ofPort_not_mem hu) s

theorem count_memberReport_port (e : TopoEvent) (p : Port) (s : State) : (memberReport e p s).count u = s.count u := by
  unfold memberReport
  dsimp only
  split
  · rw [count_sendTopo, count_enterSuspect (TimerId.ofPort_apart hu) (TimerId.ne_of_ofPort hu rfl)
      (TimerId.ne_of_ofPort hu rfl), count_clearRestartReport]
  · rw [count_sendTopo, count_clearRestartReport]

/-- R46, R64, R70: a port report touches no timer of a port. -/
theorem count_portReport_port (e : TopoEvent) (p : Port) (s : State) : (portReport e p s).count u = s.count u := by
  unfold portReport
  split_ifs
  · rw [count_memberReport_port hu, count_loseRole_port hu, count_recordFault]
  · rw [count_trigger_port hu, count_clearRestartReport]
  · rw [count_becomeMaster_port hu, count_clearRestartReport]
  · exact count_memberReport_port hu e p s

end PortCounts

end Sys2Proof.Machine
end

section
/-! SUPPORT. Invalid items, BREAK and the expiries of the segment controllers. -/

namespace Sys2Proof.Machine

open Sys2Proof

/-! ### A port that leaves UP (R13, R16) -/

theorem port_of_ports {s t : State} (h : t.ports = s.ports) (p : Port) : t.port p = s.port p := by
  rw [State.port, h]
  rfl

theorem emptyQueues_eq {p : Port} {s : State} (hd : s.relay.draining = false) : emptyQueues p s
    = (s.setQueues p Queues.empty).setMgmt
      { s.mgmt with restart := restartAfter (s.queues p).frames s.mgmt.restart } :=
  afterRemoval_eq (s := s.setQueues p Queues.empty) (s.queues p).frames hd

theorem isUp_port_cases (p : Port) {s : State} (h : s.isUp p = false) (ho : s.isUp p.other = false) (q : Port) :
    s.isUp q = false := by
  cases p <;> cases q <;> first | exact h | exact ho

/-- R13, R16: what becomes of a port that leaves UP while the other port is not UP and no drain is pending. -/
structure LeftUp (p : Port) (x : PortState) (faults : FaultTable) (s t : State) : Prop where
  port : t.port p = x
  other : t.port p.other = s.port p.other
  t1 : t.count (.t1 p) = s.count (.t1 p)
  queues : t.queues p = ⟨[], [], []⟩
  otherQueues : t.queues p.other = s.queues p.other
  faults : t.faults = faults
  lines : t.lines = s.lines
  bypass : t.bypass = s.bypass

/-- R16, R46, R64: the queues are emptied and left UP is reported. -/
theorem leftUp_report (e : TopoEvent) {p : Port} {s : State} (hd : s.relay.draining = false) (hu : s.isUp p = false)
    (ho : s.isUp p.other = false) : LeftUp p (s.port p) s.faults s (portReport e p (emptyQueues p s)) := by
  have hn : ∀ q, (emptyQueues p s).isUp q = false := fun q =>
    (isUp_of_ports (emptyQueues_ports ..) q).trans (isUp_port_cases p hu ho q)
  obtain ⟨hr, hf⟩ := portReport_of_no_up e p hn
  rw [emptyQueues_eq hd] at hr hf ⊢
  refine ⟨?_, ?_, ?_, ?_, ?_, hf, ?_, ?_⟩
  · exact port_of_ports (portReport_ports ..) p
  · exact port_of_ports (portReport_ports ..) _
  · rw [count_portReport_port rfl]
    rfl
  · rw [State.queues, hr]
    exact State.queues_setQueues ..
  · rw [State.queues, hr]
    exact State.queues_setQueues_other ..
  · exact portReport_lines ..
  · exact portReport_bypass ..

theorem cutTransmission_of_not_sending {p : Port} {s : State} (h : (s.port p).tx.sending = false) :
    cutTransmission p s = s := if_neg (by simp [h])

theorem isUp_of_link_ne {p : Port} {s : State} (h : (s.port p).link ≠ .up) : s.isUp p = false := by
  simpa [State.isUp] using h

/-- R13, R16: a port that is faulted. -/
theorem enterFaulted_leftUp {p : Port} {s : State} {y : PortState} (hy : s.port p = y) (hd : s.relay.draining = false)
    (ht : y.tx.sending = false) (ho : s.isUp p.other = false) :
    LeftUp p { y with link := .faulted }
      (s.faults.record .portFaulted (.port p) s.timers.timebase s.consist.epoch) s (enterFaulted p s) := by
  subst hy
  let v : State := (recordFault .portFaulted (.port p) s).setPort p { s.port p with link := .faulted }
  have hv : v.port p = { s.port p with link := .faulted } := State.port_setPort ..
  have hvo : v.port p.other = s.port p.other := State.port_setPort_other ..
  have he : enterFaulted p s = portReport .portFaulted p (emptyQueues p v) := by
    have hc : cutTransmission p v = v := cutTransmission_of_not_sending (by rw [hv]; exact ht)
    exact congrArg (fun u => portReport .portFaulted p (emptyQueues p u)) hc
  have hl := leftUp_report .portFaulted (s := v) hd (isUp_of_link_ne (by rw [hv]; simp)) (by
    rw [State.isUp, hvo]
    exact ho)
  rw [he]
  exact ⟨hl.port.trans hv, hl.other.trans hvo, hl.t1, hl.queues, hl.otherQueues, hl.faults, hl.lines, hl.bypass⟩

/-! ### Invalid items -/

theorem recordBadKind_of_ne {p : Port} {why : FrameFailure} (h : why ≠ .kind) (s : State) :
    recordBadKind p why s = s := if_neg fun hc => h hc.1

theorem recordBadKind_kind (p : Port) (s : State) : recordBadKind p .kind s
    = if (s.port p).link = .up ∨ (s.port p).link = .faulted then recordFault .badKind (.port p) s else s := by
  simp [recordBadKind]

theorem setPort_recordFault (k : FaultKind) (x : FaultSource) (p : Port) (y : PortState) (s : State) :
    recordFault k x (s.setPort p y) = (recordFault k x s).setPort p y := rfl

/-- R12 to R14: an invalid item that does not fault its port, in the words of the statement. -/
def itemHit (p : Port) (y : PortState) (u : State) (rx : RxCondition) : State :=
  match y.link with
  | .down => u.setPort p { y with rx := rx, assembly := [] }
  | .arriving => u.setPort p { y with rx := rx, assembly := [], arrival := 0 }
  | .up | .faulted => u.setPort p { y with rx := rx, assembly := [], score := min 255 (y.score + 8) }

theorem invalidItem_itemHit {p : Port} {u : State} {y : PortState} (hy : u.port p = y) (rx : RxCondition)
    (h : y.link = .up → y.score + 8 < 96) : invalidItem p (setRx p rx u) = itemHit p y u rx := by
  rw [invalidItem_low (setRx_port hy) h, setRx, setPort_setPort]
  cases hl : y.link <;> simp only [PortState.hit, PortState.left, itemHit, hl]

/-- R12, R13: the item that faults its port. -/
theorem invalidItem_leftUp {p : Port} {u : State} {y : PortState} (hy : u.port p = y) (rx : RxCondition)
    (hl : y.link = .up) (hs : 96 ≤ y.score + 8) (hd : u.relay.draining = false) (ht : y.tx.sending = false)
    (ho : u.isUp p.other = false) :
    LeftUp p { y with link := .faulted, score := min 255 (y.score + 8), rx := rx, assembly := [] }
      (u.faults.record .portFaulted (.port p) u.timers.timebase u.consist.epoch) u
      (invalidItem p (setRx p rx u)) := by
  let z : PortState := { y with rx := rx, assembly := [], score := min 255 (y.score + 8) }
  let v : State := u.setPort p z
  have hvo : v.port p.other = u.port p.other := State.port_setPort_other ..
  have he : invalidItem p (setRx p rx u) = enterFaulted p v := by
    rw [invalidItem_high (setRx_port hy) hl hs, setRx, setPort_setPort]
    rfl
  have h := enterFaulted_leftUp (s := v) (y := z) (State.port_setPort ..) hd ht (by
    rw [State.isUp, hvo]
    exact ho)
  rw [he]
  exact ⟨h.port, h.other.trans hvo, h.t1, h.queues, h.otherQueues, h.faults, h.lines, h.bypass⟩

/-! ### The ways an invalid item arrives -/

/-- Each cause of an invalid item, with the state in which its port takes it and the condition it is left in. -/
structure ItemWay (p : Port) (s : State) (c : Instr) (alive : State) (rx : RxCondition) : Prop where
  runs : exec c s = .next (invalidItem p (setRx p rx alive))
  port : alive.port p = s.port p

section Ways

variable {p : Port} {s : State} (h : s.portsRun = true) (ht : (s.port p).tx.sending = false)

include h ht

theorem way_between (hr : (s.port p).rx = .betweenFrames) :
    ItemWay p s (.invalidItem p .loneBit) s .discarding ∧ ItemWay p s (.invalidItem p .invalidWidth) s .discarding := by
  have hk : keepAliveInFrame p s = s := if_neg (by simp [hr])
  have hw : ∀ c, judgeSymbol (s.port p).rx c = (.invalidItem, .discarding) →
      symbolItem p c s = invalidItem p (setRx p .discarding s) := fun c hj => by
    rw [symbolItem_invalid h ht hj, hk]
  exact ⟨⟨congrArg Host.Outcome.next (hw .bit1 (by rw [hr]; rfl)), rfl⟩,
    ⟨congrArg Host.Outcome.next (hw .invalid (by rw [hr]; rfl)), rfl⟩⟩

theorem way_inFrame (hr : (s.port p).rx = .inFrame) :
    ItemWay p s (.invalidItem p .invalidWidth) (keepAlive p s) .discarding
      ∧ ItemWay p s (.probeReceived ⟨p, false⟩) (keepAlive p s) .discarding := by
  have hk : keepAliveInFrame p s = keepAlive p s := if_pos hr
  have hw : ∀ c, judgeSymbol (s.port p).rx c = (.invalidItem, .discarding) →
      symbolItem p c s = invalidItem p (setRx p .discarding (keepAlive p s)) := fun c hj => by
    rw [symbolItem_invalid h ht hj, hk]
  exact ⟨⟨congrArg Host.Outcome.next (hw .invalid (by rw [hr]; rfl)), keepAlive_port ..⟩,
    ⟨congrArg Host.Outcome.next (hw .probe (by rw [hr]; rfl)), keepAlive_port ..⟩⟩

theorem way_bitsOver (hr : (s.port p).rx = .bitsOver) :
    ItemWay p s (.invalidItem p .invalidWidth) s .discarding
      ∧ ItemWay p s (.probeReceived ⟨p, false⟩) s .discarding := by
  have hk : keepAliveInFrame p s = s := if_neg (by simp [hr])
  have hw : ∀ c, judgeSymbol (s.port p).rx c = (.invalidItem, .discarding) →
      symbolItem p c s = invalidItem p (setRx p .discarding s) := fun c hj => by
    rw [symbolItem_invalid h ht hj, hk]
  exact ⟨⟨congrArg Host.Outcome.next (hw .invalid (by rw [hr]; rfl)), rfl⟩,
    ⟨congrArg Host.Outcome.next (hw .probe (by rw [hr]; rfl)), rfl⟩⟩

variable (ho : (s.port p).rx.open = true)

include ho

theorem way_aborted : ItemWay p s (.invalidItem p .abortedFrame) (keepAliveByBits p s) .discarding :=
  ⟨congrArg Host.Outcome.next ((badReception_of_open h ht ho).trans
    (congrArg (invalidItem p) (recordBadKind_of_ne (by decide) _))), keepAliveByBits_port ..⟩

theorem way_overlong : ItemWay p s (.invalidItem p .overlongFrame) (keepAlive p s) .discarding :=
  ⟨congrArg Host.Outcome.next ((badReception_of_open h ht ho).trans
    (congrArg (invalidItem p) (recordBadKind_of_ne (by decide) _))), keepAlive_port ..⟩

theorem way_badFrame {why : FrameFailure} (hw : why ≠ .kind) :
    ItemWay p s (.invalidItem p (.badFrame why)) (keepAliveByBits p s) .betweenFrames :=
  ⟨congrArg Host.Outcome.next ((badReception_of_open h ht ho).trans
    (congrArg (invalidItem p) (recordBadKind_of_ne hw _))), keepAliveByBits_port ..⟩

theorem way_badKind : ItemWay p s (.invalidItem p (.badFrame .kind))
    (if (s.port p).link = .up ∨ (s.port p).link = .faulted then recordFault .badKind (.port p) (keepAliveByBits p s)
      else keepAliveByBits p s) .betweenFrames := by
  have hl : ((setRx p .betweenFrames (keepAliveByBits p s)).port p).link = (s.port p).link := by
    rw [setRx_port (keepAliveByBits_port p p s)]
    rfl
  constructor
  · refine congrArg Host.Outcome.next ((badReception_of_open h ht ho).trans (congrArg (invalidItem p) ?_))
    rw [recordBadKind_kind, hl]
    split_ifs <;> rfl
  · split_ifs
    · exact (port_of_ports (recordFault_ports ..) p).trans (keepAliveByBits_port ..)
    · exact keepAliveByBits_port ..

end Ways

/-- Settles O10: each way to the item, the item below the score of 96, and the one that reaches it. -/
theorem invalidItemByLinkState : Obligations.InvalidItemByLinkState := by
  refine ⟨fun p s h ht => ?_, fun p s h ht hl hs hd ho => ?_⟩
  · intro hit alive ended hlow
    have hx : ∀ {c u rx}, ItemWay p s c u rx → exec c s = .next (hit u rx) := fun w =>
      w.runs.trans (congrArg Host.Outcome.next (invalidItem_itemHit w.port _ hlow))
    exact ⟨fun hr => (way_between h ht hr).imp hx hx, fun hr => (way_inFrame h ht hr).imp hx hx,
      fun hr => (way_bitsOver h ht hr).imp hx hx, fun hr => ⟨hx (way_aborted h ht hr), hx (way_overlong h ht hr),
        fun why hw => hx (way_badFrame h ht hr hw), hx (way_badKind h ht hr)⟩⟩
  · intro falls alive ended
    have hnd : (s.port p).link ≠ .down := by simp [hl]
    have hka : keepAlive p s = s.setCount (.t1 p) alive := keepAlive_of_not_down hnd
    have hkb : keepAliveByBits p s = s.setCount (.t1 p) ended := keepAliveByBits_of_not_down hnd
    have hx : ∀ {c u rx}, ItemWay p s c u rx → u.relay = s.relay → u.ports = s.ports → u.timers.timebase = s.timers.timebase →
        u.consist = s.consist → u.lines = s.lines → u.bypass = s.bypass → falls c rx (u.count (.t1 p)) u.faults := by
      intro c u rx w hr hp htb hc hli hby
      have k := invalidItem_leftUp w.port rx hl hs (by rw [hr]; exact hd) ht ((isUp_of_ports hp _).trans ho)
      refine ⟨_, w.runs, k.port, k.other.trans (port_of_ports hp _), k.t1, k.queues, k.otherQueues.trans ?_,
        k.faults.trans (by rw [htb, hc]), k.lines.trans hli, k.bypass.trans hby⟩
      rw [State.queues, hr]
      rfl
    have hs0 : ∀ {c rx}, ItemWay p s c s rx → falls c rx (s.count (.t1 p)) s.faults := fun w =>
      hx w rfl rfl rfl rfl rfl rfl
    have hsa : ∀ {c rx}, ItemWay p s c (keepAlive p s) rx → falls c rx alive s.faults := fun w => by
      rw [hka] at w
      simpa using hx w rfl rfl rfl rfl rfl rfl
    have hsb : ∀ {c rx}, ItemWay p s c (keepAliveByBits p s) rx → falls c rx ended s.faults := fun w => by
      rw [hkb] at w
      simpa using hx w rfl rfl rfl rfl rfl rfl
    refine ⟨fun hr => (way_between h ht hr).imp hs0 hs0, fun hr => (way_inFrame h ht hr).imp hsa hsa,
      fun hr => (way_bitsOver h ht hr).imp hs0 hs0, fun hr => ⟨hsb (way_aborted h ht hr), hsa (way_overlong h ht hr),
        fun why hw => hsb (way_badFrame h ht hr hw), ?_⟩⟩
    have w := way_badKind h ht hr
    rw [if_pos (.inl hl), hkb] at w
    have hf := hx w rfl rfl rfl rfl rfl rfl
    rwa [count_recordFault, State.count_setCount] at hf

end Sys2Proof.Machine
end

section
/-! SUPPORT. The expiry of T1, BREAK and the flush. -/

namespace Sys2Proof.Machine

open Sys2Proof

/-! ### The expiry of T1, and the ends of a discard and of the hold-off -/

theorem execLinkSilenceTimeout_eq {p : Port} {s : State} (h : s.portsRun = true) (hc : s.count (.t1 p) = some 0) :
    execLinkSilenceTimeout p s = .next (match (s.port p).link with
      | .up => silenceUp p (recordFault .portLost (.port p) s)
      | .faulted => takeDown p (recordFault .portLost (.port p) s)
      | _ => takeDown p s) :=
  congrArg Host.Outcome.next (if_pos (by rw [h, ranOut_of (operating_of_portsRun h) hc]; rfl))

/-- Settles O12: the expiry by link state, and two commands with one effect each. -/
theorem portTimersEnd : Obligations.PortTimersEnd := by
  refine ⟨fun p s h hc => ?_, fun p s h hr => ?_, fun s => rfl⟩
  · intro down
    refine ⟨fun hl => ?_, fun hl => ?_, fun hl hd ho => ?_⟩
    · refine (execLinkSilenceTimeout_eq h hc).trans ?_
      rw [hl]
      rfl
    · refine (execLinkSilenceTimeout_eq h hc).trans ?_
      rw [hl]
      rfl
    · let v : State := takeDown p (recordFault .portLost (.port p) s)
      have hv : v.port p = down.port p :=
        (State.port_setPort ..).trans (State.port_setPort (s := s) ..).symm
      have hvo : v.port p.other = s.port p.other := State.port_setPort_other ..
      have hdown : down.port p = PortState.mk .down 0 0 .betweenFrames [] .idle (s.port p).probeDue :=
        State.port_setPort ..
      have k := leftUp_report .portDown (s := v) hd (isUp_of_link_ne (by rw [hv, hdown]; simp)) (by
        rw [State.isUp, hvo]
        exact ho)
      refine ⟨_, (execLinkSilenceTimeout_eq h hc).trans ?_, k.port.trans hv, k.other.trans hvo, k.queues, k.otherQueues,
        k.faults, k.lines, k.bypass⟩
      rw [hl]
      rfl
  · have hb : (s.portsRun && ((s.port p).rx == .discarding || (s.port p).rx == .breakHeld)) = true := by
      rcases hr with hr | hr <;> simp [h, hr]
    exact congrArg Host.Outcome.next (if_pos hb)

/-! ### Flush (R17, R18) -/

theorem flushedPorts_port (p : Port) (s : State) :
    (flushedPorts s).port p = { s.port p with tx := (s.port p).tx.flushed } := by
  cases p <;> rfl

theorem flush_of_not_draining {s : State} (h : s.relay.draining = false) : flush s = (flushedPorts s).setMgmt
    { s.mgmt with restart := restartAfter ((s.queues .e1).frames ++ (s.queues .e2).frames) s.mgmt.restart } := by
  rw [flush_eq, restartCheck_eq]
  exact if_neg (by simp [show (flushedPorts s).relay.draining = false from h])

theorem cut_sending (x : Transmitter) : (if x.sending = true then Transmitter.idle else x).sending = false := by
  split_ifs with h
  · rfl
  · simpa using h

theorem flushed_sending {x : Transmitter} (h : x.sending = false) : x.flushed.sending = false := by
  cases x <;> exact h

theorem setCount_setCount (s : State) (u : TimerId) (v w : Option Nat) :
    (s.setCount u v).setCount u w = s.setCount u w := by
  cases u with
  | t0 p => cases p <;> rfl
  | t1 p => cases p <;> rfl
  | t10 d => cases d <;> rfl
  | _ => rfl

/-! ### A BREAK that a port begins (R17) -/

/-- R15: what a symbol or an end of a transmission does to T1 of its port, which is not DOWN. -/
def State.cutT1 (s : State) (p : Port) : Option Nat :=
  if (s.port p).tx.sending = true ∨ (s.port p).rx = .inFrame then some (s.period (.t1 p)) else s.count (.t1 p)

theorem cutTransmission_eq (p : Port) (s : State) : cutTransmission p s
    = (s.setPort p { s.port p with tx := if (s.port p).tx.sending then .idle else (s.port p).tx }).setCount (.t1 p)
      (if (s.port p).tx.sending then some (s.period (.t1 p)) else s.count (.t1 p)) := by
  unfold cutTransmission
  split_ifs
  · rfl
  · exact ((setCount_count _ _).trans (setPort_port s p)).symm

theorem beginBreak_eq {p : Port} {s : State} (hl : (s.port p).link ≠ .down) : beginBreak p s
    = ((s.setPort p { s.port p with tx := .brk, rx := .betweenFrames, assembly := [] }).setCount (.t1 p)
      (s.cutT1 p)).setBypass { s.bypass with holdoff := true } := by
  have hk : keepAliveInFrame p s = s.setCount (.t1 p)
      (if (s.port p).rx = .inFrame then some (s.period (.t1 p)) else s.count (.t1 p)) := by
    unfold keepAliveInFrame
    split_ifs
    · exact keepAlive_of_not_down hl
    · exact (setCount_count _ _).symm
  have ht : (if (s.port p).tx.sending then some (s.period (.t1 p)) else
      if (s.port p).rx = .inFrame then some (s.period (.t1 p)) else s.count (.t1 p)) = s.cutT1 p := by
    unfold State.cutT1
    cases (s.port p).tx.sending <;> simp
  rw [beginBreak, hk, cutTransmission_eq]
  simp only [State.count_setCount, State.port_setCount, setCount_setPort, setPort_setPort, setCount_setCount,
    State.port_setPort]
  exact congrArg (fun c => ((s.setPort p { s.port p with tx := .brk, rx := .betweenFrames, assembly := [] }).setCount
    (.t1 p) c).setBypass { s.bypass with holdoff := true }) ht

/-! ### BREAK received (R18, R19, R65) -/

/-- R18: the port that classified a BREAK, before the flush. -/
theorem breakHeld_eq (p : Port) (s : State) : startTimer (.t1 p) (setRx p .breakHeld (cutTransmission p s))
    = (s.setPort p { s.port p with
        tx := if (s.port p).tx.sending then .idle else (s.port p).tx, rx := .breakHeld, assembly := [] }).setCount (.t1 p)
      (some (s.period (.t1 p))) := by
  rw [cutTransmission_eq, setRx]
  simp only [State.port_setCount, setCount_setPort, setPort_setPort, State.port_setPort, startTimer, setCount_setCount]
  rfl

theorem breakTold_cases (s : State) : breakTold s
    = if s.isMaster = false ∧ s.consist.state = .stable then
        ((s.setConsist { s.consist with state := .suspect }).setCount .t9 none).setCount .t6 (some (s.period .t6))
      else s := by
  unfold breakTold
  cases hm : s.isMaster with
  | true => simp
  | false =>
    by_cases hs : s.consist.state = .stable
    · simp [hs, enterSuspect_of_member ((isMaster_eq_false_iff s).mp hm)]
    · simp [hs]

/-- R18, R19: the ports, T1 and the hold-off as a BREAK on `p` leaves them, before the flush. -/
structure BreakHeld (p : Port) (s v : State) : Prop where
  relay : v.relay = s.relay
  consist : v.consist = s.consist
  door : v.door = s.door
  heat : v.heat = s.heat
  lines : v.lines = s.lines
  faults : v.faults = s.faults
  clock : s.SameClock v
  port : v.port p = { s.port p with
    tx := if (s.port p).tx.sending then .idle else (s.port p).tx, rx := .breakHeld, assembly := [] }
  t1 : v.count (.t1 p) = some (s.period (.t1 p))
  repeated : if s.isUp p.other = true ∧ s.bypass.holdoff = false then
      v.port p.other = { s.port p.other with tx := .brk, rx := .betweenFrames, assembly := [] }
        ∧ v.bypass = { s.bypass with holdoff := true } ∧ v.count (.t1 p.other) = s.cutT1 p.other
    else v.port p.other = s.port p.other ∧ v.bypass = s.bypass ∧ v.count (.t1 p.other) = s.count (.t1 p.other)

theorem takeBreak_eq {p : Port} {s : State} (hd : s.relay.draining = false) :
    ∃ v : State, BreakHeld p s v ∧ takeBreak p s = breakTold ((flushedPorts v).setMgmt { s.mgmt with
      restart := restartAfter ((s.queues .e1).frames ++ (s.queues .e2).frames) s.mgmt.restart }) := by
  let w : State := (s.setPort p { s.port p with
    tx := if (s.port p).tx.sending then .idle else (s.port p).tx, rx := .breakHeld, assembly := [] }).setCount (.t1 p)
      (some (s.period (.t1 p)))
  have hw : startTimer (.t1 p) (setRx p .breakHeld (cutTransmission p s)) = w := breakHeld_eq p s
  have hwp : w.port p.other = s.port p.other := State.port_setPort_other ..
  have hup : w.isUp p.other = s.isUp p.other := by rw [State.isUp, hwp]; rfl
  have hne : TimerId.t1 p ≠ .t1 p.other := by simpa using (Port.other_ne p).symm
  by_cases hr : s.isUp p.other = true ∧ s.bypass.holdoff = false
  · have hrep : w.repeatPorts p = [p.other] := by
      rw [State.repeatPorts, hup, hr.1, show w.bypass.holdoff = false from hr.2]
      rfl
    have hl : (w.port p.other).link ≠ .down := by
      have hl : (s.port p.other).link = .up := by simpa [State.isUp] using hr.1
      rw [hwp, hl]
      decide
    refine ⟨beginBreak p.other w, ?_, ?_⟩
    · rw [beginBreak_eq hl]
      refine ⟨rfl, rfl, rfl, rfl, rfl, rfl, ⟨rfl, rfl⟩, ?_, ?_, ?_⟩
      · cases p <;> rfl
      · rw [count_setBypass, State.count_setCount_ne _ hne, count_setPort]
        exact State.count_setCount ..
      · rw [if_pos hr]
        refine ⟨?_, rfl, ?_⟩
        · rw [State.port_setBypass, State.port_setCount, State.port_setPort, hwp]
        · have hc : w.count (.t1 p.other) = s.count (.t1 p.other) := State.count_setCount_ne _ hne.symm _
          rw [count_setBypass, State.count_setCount, State.cutT1, State.cutT1, hwp, hc]
          rfl
    · rw [takeBreak, hw]
      dsimp only
      rw [hrep, List.foldl_cons, List.foldl_nil, beginBreak_eq hl]
      refine congrArg breakTold ((flush_of_not_draining ?_).trans ?_)
      · exact hd
      · rfl
  · have hrep : w.repeatPorts p = [] := by
      rw [State.repeatPorts, hup]
      exact if_neg (by simpa [show w.bypass = s.bypass from rfl] using hr)
    refine ⟨w, ⟨rfl, rfl, rfl, rfl, rfl, rfl, ⟨rfl, rfl⟩, State.port_setPort .., State.count_setCount .., ?_⟩, ?_⟩
    · rw [if_neg hr]
      exact ⟨hwp, rfl, State.count_setCount_ne _ hne.symm _⟩
    · rw [takeBreak, hw]
      dsimp only
      rw [hrep, List.foldl_nil]
      refine congrArg breakTold ((flush_of_not_draining ?_).trans ?_)
      · exact hd
      · rfl

/-- Settles O11: the BREAK on its port, its repeat, the flush and the member it tells. -/
theorem breakFlushesAndRepeats : Obligations.BreakFlushesAndRepeats := by
  intro p s h hl hr hd
  refine ⟨rfl, takeBreak p s, congrArg Host.Outcome.next (if_pos (by simp [State.takesBreak, h, hl, hr])), ?_⟩
  obtain ⟨v, hv, he⟩ := takeBreak_eq (p := p) hd
  rw [he]
  generalize hx : (flushedPorts v).setMgmt { s.mgmt with
    restart := restartAfter ((s.queues .e1).frames ++ (s.queues .e2).frames) s.mgmt.restart } = x
  have hxp : ∀ q, x.port q = { v.port q with tx := (v.port q).tx.flushed } := fun q => hx ▸ flushedPorts_port q v
  have hxr : x.relay = { s.relay with queues := ⟨⟨[], [], []⟩, ⟨[], [], []⟩⟩ } := by
    rw [← hv.relay, ← hx]
    rfl
  have hxc : x.consist = s.consist := hx ▸ hv.consist
  have hxt : ∀ u, x.count u = v.count u := fun u => hx ▸ rfl
  have hxb : x.bypass = v.bypass := hx ▸ rfl
  have hperiod : ∀ u, x.period u = s.period u := hx ▸ hv.clock.period
  obtain ⟨h1, h2, h3, h4, h5, h6⟩ : (x.port p).link = (s.port p).link ∧ (x.port p).score = (s.port p).score
      ∧ (x.port p).arrival = (s.port p).arrival ∧ (x.port p).rx = .breakHeld ∧ (x.port p).assembly = []
      ∧ (x.port p).tx.sending = false := by
    rw [hxp, hv.port]
    refine ⟨rfl, rfl, rfl, rfl, rfl, flushed_sending (cut_sending _)⟩
  have hother : if s.isUp p.other = true ∧ s.bypass.holdoff = false then
      x.port p.other = { s.port p.other with tx := .brk, rx := .betweenFrames, assembly := [] }
        ∧ x.bypass = { s.bypass with holdoff := true } ∧ x.count (.t1 p.other) = s.cutT1 p.other
      else x.port p.other = { s.port p.other with tx := (s.port p.other).tx.flushed } ∧ x.bypass = s.bypass
        ∧ x.count (.t1 p.other) = s.count (.t1 p.other) := by
    have hrep := hv.repeated
    split_ifs at hrep ⊢
    · exact ⟨by rw [hxp, hrep.1]; rfl, hxb.trans hrep.2.1, (hxt _).trans hrep.2.2⟩
    · exact ⟨by rw [hxp, hrep.1], hxb.trans hrep.2.1, (hxt _).trans hrep.2.2⟩
  have hm : (x.isMaster = false ∧ x.consist.state = .stable) ↔ (s.isMaster = false ∧ s.consist.state = .stable) := by
    rw [State.isMaster, hxc]
    rfl
  have hdoor : x.door = s.door := hx ▸ hv.door
  have hheat : x.heat = s.heat := hx ▸ hv.heat
  have hlines : x.lines = s.lines := hx ▸ hv.lines
  have hfaults : x.faults = s.faults := hx ▸ hv.faults
  clear hx
  rw [breakTold_cases]
  by_cases ht : s.isMaster = false ∧ s.consist.state = .stable
  · rw [if_pos (hm.mpr ht), if_pos ht, hperiod]
    refine ⟨hxr, h1, h2, h3, h4, h5, h6, (hxt _).trans hv.t1, hother, ⟨?_, ?_, ?_⟩, hdoor, hheat, hlines,
      hfaults⟩
    · rw [← hxc]
      rfl
    · exact (State.count_setCount_ne _ (by decide) _).trans (State.count_setCount ..)
    · exact State.count_setCount ..
  · rw [if_neg (mt hm.mp ht), if_neg ht]
    exact ⟨hxr, h1, h2, h3, h4, h5, h6, (hxt _).trans hv.t1, hother, hxc, hdoor, hheat, hlines, hfaults⟩

end Sys2Proof.Machine
end

section
/-! SUPPORT. Placement, DATA frames and door commands from the train. -/

namespace Sys2Proof.Machine

open Sys2Proof

/-! ### Placement (R29, R30, R83, R84, R92) -/

theorem enqueue_of_room {p : Port} {l : Level} {s : State} (hu : s.isUp p = true) (hr : s.hasRoom p l = true)
    (q : Queued) : enqueue p l q s = appendQueue p l q s := by
  rw [enqueue, hu, hr]
  rfl

theorem enqueue_of_full {p : Port} {l : Level} {s : State} (hu : s.isUp p = true) (hr : s.hasRoom p l = false)
    (q : Queued) : enqueue p l q s = recordFault .queueFull (.port p) s := by
  rw [enqueue, hu, hr]
  rfl

theorem hasRoom_iff (s : State) (p : Port) (l : Level) :
    s.hasRoom p l = true ↔ ((s.queues p).get l).length < l.capacity := by simp [State.hasRoom]

theorem appendQueue_get (p p' : Port) (l l' : Level) (q : Queued) (s : State) :
    ((appendQueue p l q s).queues p').get l' = if p' = p ∧ l' = l then (s.queues p).get l ++ [q]
      else (s.queues p').get l' := by
  by_cases hp : p' = p
  · subst hp
    rw [appendQueue, State.queues_setQueues]
    by_cases hl : l' = l
    · subst hl
      simp
    · rw [if_neg (by simp [hl]), get_set_queues_ne hl]
  · rw [if_neg (by simp [hp]), appendQueue, queues_setQueues_ne hp]

theorem deliver_of_room {f : Frame} {s : State} (h : s.relay.tapQueue.length < tapLimit f) :
    deliver f s = s.setTapQueue (s.relay.tapQueue ++ [f]) := if_pos h

theorem deliver_of_full {f : Frame} {s : State} (h : tapLimit f ≤ s.relay.tapQueue.length) :
    deliver f s = recordFault .tapOverrun .tap s := if_neg (Nat.not_lt.mpr h)

/-- Settles O13: each place by its bound. -/
theorem placementRules : Obligations.PlacementRules := by
  refine ⟨fun p l q s => ⟨fun hu => enqueue_of_not_up hu l q, fun hu hr => ?_, fun hu hr => ?_⟩, fun p f s hd => ?_,
    fun f s => ⟨fun h => deliver_of_room h, fun h => deliver_of_full h⟩⟩
  · rw [enqueue_of_room hu ((hasRoom_iff s p l).mpr hr)]
    exact ⟨fun p' l' => appendQueue_get p p' l l' q s, rfl⟩
  · exact enqueue_of_full hu (by simpa [State.hasRoom] using hr) q
  · intro level
    have hl : bodyLevel f.body = level := by
      cases hb : f.body with
      | data l => exact absurd hb (hd l)
      | _ => simp only [level, hb, bodyLevel]
    rw [sendFrame, hl]
    rfl

/-! ### DATA (R78 to R81, R87) -/

theorem known_iff (s : State) (epoch : Nat) : (s.settled && s.epochMatches epoch) = true ↔
    (s.consist.state = .stable ∨ s.consist.state = .suspect) ∧ epoch = s.consist.epoch ∧ epoch ≠ 0 := by
  rw [Bool.and_eq_true, settled_iff, epochMatches_iff]

theorem exec_data_of_takes {p : Port} {h : Header} {l : List Byte} {s : State} (ht : s.takesFrame p)
    (hf : (⟨h, .data l⟩ : Frame).formOk = true) :
    exec (.data p h l) s = .next (takeData p h l (s.afterFrame p)) :=
  congrArg Host.Outcome.next (frameArrives_of_takesFrame ht hf)

section TakeData

variable {p : Port} {h : Header} {l : List Byte} {s : State}

theorem takeData_stale (hk : (s.settled && s.epochMatches h.epoch) = false) :
    takeData p h l s = recordFault .staleEpoch (.port p) s := if_pos (by rw [hk]; rfl)

variable (hk : (s.settled && s.epochMatches h.epoch) = true)

include hk

theorem takeData_oversize (hm : (s.service h.tag).maxPayload < l.length) :
    takeData p h l s = recordFault .oversize (.port p) s := by
  rw [takeData, hk]
  exact if_pos hm

theorem takeData_route (hm : l.length ≤ (s.service h.tag).maxPayload) {r : Route} (hr : s.route p h.sel = r) :
    takeData p h l s = match (generalizing := false) r with
      | .misrouted => recordFault .misroute (.port p) s
      | .here => deliverData (s.service h.tag) true ⟨h, .data l⟩ s
      | .onward => forwardData (s.service h.tag) p.other ⟨h, .data l⟩
          (deliverData (s.service h.tag) (s.addressed h.sel) ⟨h, .data l⟩ s) := by
  rw [takeData, hk]
  refine (if_neg (Nat.not_lt.mpr hm)).trans ?_
  subst hr
  rfl

end TakeData

/-- R80: when a service has a frame delivered that ends its way here, or that goes on. -/
theorem deliverData_eq (e : ServiceEntry) (b : Bool) (h : Header) (l : List Byte) (s : State) :
    deliverData e b ⟨h, .data l⟩ s = if e.delivers b = true then
        (if s.relay.tapQueue.length < 12 then s.setTapQueue (s.relay.tapQueue ++ [⟨h, .data l⟩])
        else recordFault .tapOverrun .tap s)
      else s := rfl

theorem delivers_iff (e : ServiceEntry) (b : Bool) :
    e.delivers b = true ↔ e.delivery = .copy ∨ e.delivery = .addressed ∧ b = true := by
  unfold ServiceEntry.delivers
  cases e.delivery <;> simp

theorem addressed_iff (s : State) {sel : Selector} (h : sel.type ≠ .self) : s.addressed sel = true ↔
    sel.type = .all ∨ sel.type = .group ∧ s.relay.groupsActive.getLsbD sel.value = true := by
  unfold State.addressed State.inGroup
  cases ht : sel.type <;> simp_all

/-- R80, R81, R84: the forwarding of a DATA frame. -/
theorem forwardData_eq (e : ServiceEntry) (p : Port) (f : Frame) (s : State) : forwardData e p f s
    = if e.forward = .stop ∨ s.isUp p = false then s
      else if s.hasRoom p e.level = true then s.queued p e.level ⟨f, some s.relay.generation, false⟩
      else recordFault .queueFull (.port p) s := by
  unfold forwardData
  cases e.forward with
  | stop => simp
  | pass =>
    rcases enqueue_cases p e.level ⟨f, some s.relay.generation, false⟩ s with ⟨hu, he⟩ | ⟨hu, hr, he⟩ | ⟨hu, hr, he⟩
    · simp [hu, he]
    · simp [hu, hr, he, State.queued, appendQueue]
    · simp [hu, hr, he]

theorem sel_of_formOk {f : Frame} (h : f.formOk = true) : f.header.sel.type ≠ .self := by
  simp only [Frame.formOk, Bool.and_eq_true, bne_iff_ne] at h
  exact h.1.1.2

/-- Settles O14: the checks in their order, and the three routes. -/
theorem dataFrameDecided : Obligations.DataFrameDecided := by
  intro p h l s ht hf e u f known onward
  have hx := exec_data_of_takes ht hf
  have hknown : (u.settled && u.epochMatches h.epoch) = true ↔ known := known_iff s h.epoch
  obtain ⟨ron, rhere, rmis⟩ := route_cases s p h.sel
  have hroute : u.route p h.sel = s.route p h.sel := afterFrame_route ..
  refine ⟨fun hk => ?_, fun hk hm => ?_, fun hk hm => ⟨fun h1 h2 h3 h4 => ?_, fun h1 h2 h3 => ?_, fun ho => ?_⟩⟩
  · exact hx.trans (congrArg Host.Outcome.next (takeData_stale (eq_false_of_ne_true (mt hknown.mp hk))))
  · exact hx.trans (congrArg Host.Outcome.next (takeData_oversize (hknown.mpr hk) hm))
  all_goals
    have hr := fun r (hr : u.route p h.sel = r) =>
      hx.trans (congrArg Host.Outcome.next (takeData_route (hknown.mpr hk) hm hr))
  · exact hr .misrouted (hroute.trans (rmis.mpr ⟨h1, h2, h3, h4⟩))
  · rw [hr .here (hroute.trans (rhere.mpr ⟨h1, h2, h3⟩))]
    refine congrArg Host.Outcome.next ((deliverData_eq e true h l u).trans ?_)
    cases hd : e.delivery with
    | never => simp [delivers_iff, hd, u]
    | _ =>
      simp only [delivers_iff, hd, and_self, or_true, true_or, if_true, reduceCtorEq, if_false]
      rfl
  · rw [hr .onward (hroute.trans (ron.mpr ho))]
    intro taken delivered
    have hdel : deliverData e (u.addressed h.sel) f u = delivered := by
      refine (deliverData_eq e _ h l u).trans ?_
      have hiff : e.delivers (u.addressed h.sel) = true ↔ taken := by
        rw [delivers_iff, addressed_iff u (sel_of_formOk hf)]
        rfl
      by_cases hta : taken
      · exact (if_pos (hiff.mpr hta)).trans (if_neg (not_not_intro hta)).symm
      · exact (if_neg (mt hiff.mp hta)).trans (if_pos hta).symm
    have hup : delivered.isUp p.other = s.isUp p.other ∧ delivered.hasRoom p.other e.level = s.hasRoom p.other e.level
        ∧ delivered.relay.generation = s.relay.generation := by
      rw [← hdel]
      refine ⟨?_, ?_, ?_⟩ <;> rw [deliverData_eq] <;> split_ifs <;> first | rfl | exact afterFrame_isUp ..
    obtain ⟨hup, hroom, hgen⟩ := hup
    refine congrArg Host.Outcome.next ((congrArg (forwardData e p.other f) hdel).trans ?_)
    rw [forwardData_eq, hup, hroom, hgen]

/-! ### Door commands (R82, R135 to R137) -/

/-- R135, R184: the scope of a selector that is not SELF. -/
theorem inScope_iff (s : State) {sel : Selector} (h : sel.type ≠ .self) (k : Nat) : s.inScope sel k = true ↔
    sel.type = .position ∧ sel.value = k ∧ k ≠ 0 ∨ sel.type = .all
      ∨ sel.type = .group ∧ s.relay.groupsActive.getLsbD sel.value = true := by
  unfold State.inScope State.inGroup
  cases ht : sel.type <;> simp_all

/-- R82: a frame that is not misrouted reaches its owner, after it was queued onward unless it ends its way here. -/
theorem routed_of_not_away {p : Port} {f : Frame} {handle : State → State} {s : State}
    (h : s.route p f.header.sel ≠ .misrouted) : routed p f handle s
      = handle (if s.route p f.header.sel = .here then s else sendFrame p.other f s) := by
  rcases routed_cases p f handle s with ⟨hr, he⟩ | ⟨hr, he⟩ | ⟨hr, -⟩
  · rw [he, if_pos hr]
  · rw [he, if_neg (by rw [hr]; decide)]
  · exact absurd hr h

theorem releaseAccepted_iff (s : State) {h : Header} (hs : h.sel.type ≠ .self) (side : TrainSide) (atRest : Bool) :
    s.releaseAccepted h side atRest = true ↔ s.consist.state = .stable ∧ (h.epoch = s.consist.epoch ∧ h.epoch ≠ 0)
      ∧ atRest = true ∧ side ≠ .both ∧ (h.sel.type = .position ∧ h.sel.value = s.consist.position ∧ s.consist.position ≠ 0
        ∨ h.sel.type = .all ∨ h.sel.type = .group ∧ s.relay.groupsActive.getLsbD h.sel.value = true) := by
  simp only [State.releaseAccepted, Bool.and_eq_true, beq_iff_eq, bne_iff_ne, epochMatches_iff, inScope_iff s hs, and_assoc]

theorem currentKnown_iff (s : State) : s.currentKnown = true ↔ s.consist.state = .stable
    ∨ ¬s.consist.role = .master ∧ (s.consist.state = .suspect ∨ s.consist.state = .inaugurating)
    ∨ s.consist.role = .master ∧ (s.consist.state = .settling ∨ s.consist.state = .calling
      ∨ s.consist.state = .confirming) := by
  unfold State.currentKnown State.isMaster
  cases s.consist.state <;> cases s.consist.role <;> decide

theorem sendFrame_relay (p : Port) (f : Frame) (s : State) :
    (sendFrame p f s).relay = { s.relay with queues := (sendFrame p f s).relay.queues } := by
  rcases enqueue_cases p (bodyLevel f.body) (plain f) s with ⟨-, he⟩ | ⟨-, -, he⟩ | ⟨-, -, he⟩ <;>
    rw [sendFrame, he] <;> rfl

/-- Settles O21: the three routes, and the acceptance of each command. -/
theorem doorCommandArrives : Obligations.DoorCommandArrives := by
  intro c p h side atRest s f ht hf u cmd here away scope current x m known routed'
  obtain ⟨-, rhere, rmis⟩ := route_cases s p h.sel
  have hsel := sel_of_formOk hf
  have hr : u.route p h.sel = s.route p h.sel := afterFrame_route ..
  have hthere : (if u.route p h.sel = .here then u else sendFrame p.other f u) = routed' := by
    by_cases hh : here
    · exact (if_pos (hr.trans (rhere.mpr hh))).trans (if_pos hh).symm
    · exact (if_neg (mt (fun h => rhere.mp (hr.symm.trans h)) hh)).trans (if_neg hh).symm
  have hfields : routed'.consist = s.consist ∧ routed'.relay.groupsActive = s.relay.groupsActive := by
    rw [← hthere]
    split_ifs
    · exact ⟨rfl, rfl⟩
    · exact ⟨sendFrame_consist .., by rw [sendFrame_relay]; rfl⟩
  obtain ⟨hc, hg⟩ := hfields
  by_cases ha : away
  · rw [if_pos ha]
    have hmis : u.route p h.sel = .misrouted := hr.trans (rmis.mpr ha)
    have hgo : ∀ handle, routed p f handle u = recordFault .misroute (.port p) u := fun handle => by
      rw [routed]
      simp only [show u.route p f.header.sel = .misrouted from hmis]
    cases c with
    | release => exact congrArg Host.Outcome.next ((frameArrives_of_takesFrame ht hf).trans (hgo _))
    | close => exact congrArg Host.Outcome.next ((frameArrives_of_takesFrame ht hf).trans (hgo _))
  · rw [if_neg ha]
    have hgo : ∀ handle, routed p f handle u = handle routed' := fun handle => by
      rw [routed_of_not_away (f := f) (fun hm => ha (rmis.mp (hr.symm.trans hm))), ← hthere]
    have hscope : ∀ k, routed'.inScope h.sel k = true ↔ scope k := fun k => by
      rw [inScope_iff _ hsel, hg]
    have hcur : routed'.epochMatches h.epoch = true ↔ current := by rw [epochMatches_iff, hc]
    refine ⟨fun hrel => ?_, fun hclose => ?_⟩
    · subst hrel
      refine congrArg Host.Outcome.next ((frameArrives_of_takesFrame ht hf).trans ((hgo _).trans ?_))
      have hacc : routed'.releaseAccepted h side atRest = true ↔
          x = .stable ∧ current ∧ atRest = true ∧ side ≠ .both ∧ scope s.consist.position := by
        rw [releaseAccepted_iff _ hsel, hc, hg]
      rw [takeRelease, hc]
      by_cases hx : x = .stable ∧ current ∧ atRest = true ∧ side ≠ .both ∧ scope s.consist.position
      · exact (if_pos (hacc.mpr hx)).trans (if_pos hx).symm
      · exact (if_neg (mt hacc.mp hx)).trans (if_neg hx).symm
    · subst hclose
      intro foreign sides
      refine congrArg Host.Outcome.next ((frameArrives_of_takesFrame ht hf).trans ((hgo _).trans ?_))
      have hall : routed'.closeAll h side = foreign := by
        rw [State.closeAll, hc]
        by_cases hcu : current
        · simp only [foreign, hcur.mpr hcu, hcu, if_true]
        · simp only [foreign, eq_false_of_ne_true (mt hcur.mp hcu), hcu, if_false, Bool.false_eq_true]
      have hcc : routed'.closeCurrent h = true ↔ current ∧ known ∧ scope s.consist.position := by
        simp only [State.closeCurrent, Bool.and_eq_true, and_assoc, hcur, currentKnown_iff, hscope, hc]
        rfl
      have hs : routed'.closeSides h side = sides := by
        have hplace : ∀ e k o, (if h.epoch = e ∧ routed'.inScope h.sel k = true then some (coachSides o side)
            else routed'.closeAll h side) = if h.epoch = e ∧ scope k then some (coachSides o side) else foreign :=
          fun e k o => by simp only [hscope, hall]
        rw [State.closeSides]
        by_cases hk : current ∧ known ∧ scope s.consist.position
        · rw [if_pos (hcc.mpr hk), hc]
          exact (if_pos hk).symm
        · refine (if_neg (mt hcc.mp hk)).trans (Eq.trans ?_ (if_neg hk).symm)
          by_cases hm : m
          · have hmaster : routed'.isMaster = true := (isMaster_iff _).mpr (by rw [hc]; exact hm)
            rw [if_pos hm, State.pendingPlace, hmaster, hc]
            cases s.consist.attempt with
            | none => exact hall
            | some a => exact hplace ..
          · have hmember : routed'.isMaster = false := by
              rw [← Bool.not_eq_true, isMaster_iff, hc]
              exact hm
            rw [if_neg hm, State.pendingPlace, hmember, hc]
            cases s.consist.joined with
            | none => exact hall
            | some j => exact hplace ..
      rw [takeClose, show routed'.closeSides (doorFrame h .close side atRest).header side = sides from hs]
      cases sides <;> rfl

end Sys2Proof.Machine
end

section
/-! SUPPORT. Summary walks: the contribution of a coach, the walks that start, pass and return, and the door timers. -/

namespace Sys2Proof.Machine

open Sys2Proof

/-! ### Walk frames at their node (R144 to R146, R159, R162, R164) -/

theorem walkTaken_iff (s : State) (p q : Port) (h : Header) : s.walkTaken p q h = true ↔
    s.consist.role = .member ∧ (s.consist.state = .stable ∨ s.consist.state = .suspect)
      ∧ h.epoch = s.consist.epoch ∧ h.epoch ≠ 0 ∧ p = q := by
  simp only [State.walkTaken, Bool.and_eq_true, Bool.not_eq_true', isMaster_eq_false_iff, settled_iff, epochMatches_iff,
    beq_iff_eq, and_assoc]

theorem stableMaster_iff (s : State) :
    s.stableMaster = true ↔ s.consist.role = .master ∧ s.consist.state = .stable := by
  simp [State.stableMaster, State.isMaster]

theorem walkReturned_iff (s : State) (p : Port) (h : Header) (n : Option Nat) : s.walkReturned p h n = true ↔
    s.consist.role = .master ∧ s.consist.state = .stable ∧ n = some h.tag ∧ h.epoch = s.consist.epoch
      ∧ p = s.rearwardPort := by
  simp only [State.walkReturned, Bool.and_eq_true, stableMaster_iff, beq_iff_eq, and_assoc]

/-! ### The contribution (R143) -/

theorem countsClosed_iff (s : State) (d : Side) : s.countsClosed d = true ↔
    s.consist.doors = 0 ∨ (s.side d).state = .closed ∧ (s.side d).proof = .proved := by
  simp [State.countsClosed]

theorem bothClosed_iff (s : State) : s.bothClosed = true ↔
    (s.consist.doors = 0 ∨ (s.side .a).state = .closed ∧ (s.side .a).proof = .proved)
      ∧ (s.consist.doors = 0 ∨ (s.side .b).state = .closed ∧ (s.side .b).proof = .proved) := by
  rw [State.bothClosed, Bool.and_eq_true, countsClosed_iff, countsClosed_iff]

theorem flag_decide (c : Prop) [Decidable c] : flag (decide c) = if c then 1 else 0 := by
  by_cases h : c <;> simp [flag, h]

theorem contribute_congr {s t : State} (hd : t.door.sides = s.door.sides) (hc : t.consist = s.consist)
    (hf : t.faults = s.faults) (x : SumBody) : t.contribute x = s.contribute x := by
  simp only [State.contribute, State.bothClosed, State.countsClosed, State.anyStuck, State.releasedSides, State.side,
    hd, hc, hf]
  rfl

/-- Settles O24: the contribution field by field, and the way it goes on. -/
theorem sumOutTaken : Obligations.SumOutTaken := by
  intro p h x s ht hf u shut bothShut own y
  have hx : exec (.sumOut p h x) s = .next (takeSumOut p (inPhase false h) x u) :=
    congrArg Host.Outcome.next (frameArrives_of_takesFrame ht hf)
  have hboth : s.bothClosed = true ↔ bothShut := bothClosed_iff s
  have hy : s.contribute x = y := by
    have hb : s.bothClosed = decide bothShut := by
      rw [← Bool.coe_iff_coe, hboth, decide_eq_true_iff]
    simp only [State.contribute, State.anyStuck, State.releasedSides, flag_decide, beq_eq_decide, hb,
      decide_eq_false_iff_not, Bool.decide_or, positionBit, add_assoc, y, own]
  rw [hx, takeSumOut]
  refine congrArg Host.Outcome.next ?_
  have htaken := walkTaken_iff u p u.forwardPort (inPhase false h)
  by_cases hc : s.consist.role = .member ∧ (s.consist.state = .stable ∨ s.consist.state = .suspect)
      ∧ h.epoch = s.consist.epoch ∧ h.epoch ≠ 0 ∧ p = s.forwardPort
  · refine (if_pos (htaken.mpr hc)).trans (Eq.trans ?_ (if_pos hc).symm)
    let v : State := if s.consist.state = .stable then u.setCount .t9 (some (s.setting 9).period) else u
    have hcases : v = u.setCount .t9 (some (s.setting 9).period) ∨ v = u := by
      by_cases hs : s.consist.state = .stable
      · exact .inl (if_pos hs)
      · exact .inr (if_neg hs)
    have hvc : v.consist = s.consist := by rcases hcases with he | he <;> rw [he] <;> rfl
    have hvy : v.contribute x = y := by
      rw [← hy]
      refine contribute_congr ?_ hvc ?_ x <;> rcases hcases with he | he <;> rw [he] <;> rfl
    have hrear : v.rearwardPort = s.rearwardPort := by simp only [State.rearwardPort, State.direction, hvc]
    have hfwd : v.forwardPort = s.forwardPort := by simp only [State.forwardPort, State.direction, hvc]
    have hup : ∀ q, v.isUp q = s.isUp q := fun q => by
      have hvu : v.isUp q = u.isUp q := by rcases hcases with he | he <;> rw [he]; rfl
      exact hvu.trans (afterFrame_isUp ..)
    show (if v.isUp v.rearwardPort = true then sendFrame v.rearwardPort ⟨inPhase false h, .sum (v.contribute x)⟩ v
      else sendFrame v.forwardPort ⟨inPhase true h, .sum (v.contribute x)⟩ v)
      = if s.isUp s.rearwardPort = true then sendFrame s.rearwardPort ⟨inPhase false h, .sum y⟩ v
        else sendFrame s.forwardPort ⟨inPhase true h, .sum y⟩ v
    rw [hvy, hrear, hfwd, hup]
  · exact (if_neg (mt htaken.mp hc)).trans (if_neg hc).symm

/-! ### The result (R146) -/

theorem summaryDoubt_iff (s : State) (x : SumBody) :
    s.summaryDoubt x = true ↔ x.suspect = true ∨ x.contributions ≠ s.consist.table.length := by
  simp [State.summaryDoubt]

theorem nextSummaryWalk_of_unsettled {s : State} (h : s.stableMaster = false) : nextSummaryWalk s = s := by
  rw [nextSummaryWalk, h, Bool.and_false]
  rfl

theorem nextSummaryWalk_of_stable {s : State} (h : s.stableMaster = true) : nextSummaryWalk s
    = if s.door.startPending = true then startSummaryWalk (s.setDoor { s.door with startPending := false }) else s := by
  rw [nextSummaryWalk, h, Bool.and_true]

/-- Settles O25: the relay at a member, and the result at the master. -/
theorem sumBackTaken : Obligations.SumBackTaken := by
  intro p h x s ht hf u f clean doubt
  have hx : exec (.sumBack p h x) s = .next (takeSumBack p (inPhase true h) x u) :=
    congrArg Host.Outcome.next (frameArrives_of_takesFrame ht hf)
  rw [hx, takeSumBack]
  refine congrArg Host.Outcome.next ?_
  have hret := walkReturned_iff u p (inPhase true h) u.door.outstanding
  have htak := walkTaken_iff u p u.rearwardPort (inPhase true h)
  by_cases hm : s.consist.role = .member
  · rw [if_pos hm, if_neg (mt hret.mp fun hr => by
      have hmaster : s.consist.role = .master := hr.1
      rw [hm] at hmaster
      cases hmaster)]
    by_cases hc : (s.consist.state = .stable ∨ s.consist.state = .suspect) ∧ h.epoch = s.consist.epoch ∧ h.epoch ≠ 0
        ∧ p = s.rearwardPort
    · exact (if_pos (htak.mpr ⟨hm, hc⟩)).trans (if_pos hc).symm
    · exact (if_neg (mt htak.mp fun hr => hc hr.2)).trans (if_neg hc).symm
  · have hmaster : s.consist.role = .master := by
      cases hr : s.consist.role
      · exact absurd hr hm
      · rfl
    rw [if_neg hm]
    by_cases hc : s.consist.state = .stable ∧ s.door.outstanding = some h.tag ∧ h.epoch = s.consist.epoch
        ∧ p = s.rearwardPort
    · refine (if_pos (hret.mpr ⟨hmaster, hc⟩)).trans (Eq.trans ?_ (if_pos hc).symm)
      let v : State :=
        deliver f ((u.setDoor { s.door with outstanding := none, doorsClosed := decide clean }).setCount .t8 none)
      have hclean : u.interlockAfter x = decide clean := by
        rw [← Bool.coe_iff_coe, interlockAfter_iff, decide_eq_true_iff]
        rfl
      have hdoubt : u.summaryDoubt x = true ↔ doubt := summaryDoubt_iff u x
      have htake : takeSummary f x u = if doubt then trigger v else v := by
        rw [takeSummary, hclean]
        by_cases hd : doubt
        · exact (if_pos (hdoubt.mpr hd)).trans (if_pos hd).symm
        · exact (if_neg (mt hdoubt.mp hd)).trans (if_neg hd).symm
      have hvc : v.consist = s.consist := deliver_consist ..
      have hvs : v.stableMaster = true := by
        rw [stableMaster_iff, hvc]
        exact ⟨hmaster, hc.1⟩
      have hvp : v.door.startPending = s.door.startPending := (congrArg DoorUnit.startPending (deliver_door ..)).trans rfl
      have hgo : nextSummaryWalk (takeSummary f x u) = if doubt then trigger v
          else if s.door.startPending = true then startSummaryWalk (v.setDoor { v.door with startPending := false })
          else v := by
        rw [htake]
        by_cases hd : doubt
        · rw [if_pos hd, if_pos hd, nextSummaryWalk_of_unsettled (trigger_stableMaster v)]
        · rw [if_neg hd, if_neg hd, nextSummaryWalk_of_stable hvs, hvp]
      exact hgo
    · refine (if_neg (mt hret.mp fun hr => hc hr.2)).trans (Eq.trans ?_ (if_neg hc).symm)
      exact if_neg (mt htak.mp fun hr => hm hr.1)

/-! ### The timers of the door unit (R129, R141, R147) -/

theorem operating_of_node {s : State} (h : s.bypass.node = .operating) : s.operating = true := by
  simp [State.operating, h]

/-- Settles O23: the three expiries. -/
theorem doorTimersEnd : Obligations.DoorTimersEnd := by
  refine ⟨fun d s hn hc hs => ?_, fun s hn hr hs => ⟨fun hc => ?_, fun hc ho => ?_⟩⟩
  · let v : State := s.setCount (.t10 d) none
    have hs' : (v.side d).state = .closing := hs
    refine ⟨_, congrArg Host.Outcome.next (if_pos (ranOut_of (operating_of_node hn) hc)), ?_, fun g => ?_⟩
    · exact if_pos hs'
    · have hx : (if (v.side d).state = .closing then recordFault .doorStuck (.side d) (setDoorState d .stuck v) else v)
          = recordFault .doorStuck (.side d) (setDoorState d .stuck v) := if_pos hs'
      have hst : ((recordFault .doorStuck (.side d) (setDoorState d .stuck v)).side d).state = .stuck := by
        rw [State.side, recordFault_door]
        exact congrArg SideRecord.state (State.side_setSide ..)
      show ((if (v.side d).state = .closing then recordFault .doorStuck (.side d) (setDoorState d .stuck v) else v).ownerLevel
        g (.doorClose d)) = false
      rw [hx, State.ownerLevel, hst]
      rfl
  · intro u
    refine congrArg Host.Outcome.next ((if_pos (ranOut_of (operating_of_node hn) hc)).trans ?_)
    exact if_pos ((stableMaster_iff u).mpr ⟨hr, hs⟩)
  · intro v
    refine congrArg Host.Outcome.next ((if_pos (ranOut_of (operating_of_node hn) hc)).trans ?_)
    have hout : s.door.outstanding.isSome = true := Option.isSome_iff_ne_none.mpr ho
    let w : State := recordFault .summaryLost .node
      ((s.setCount .t8 none).setDoor { s.door with outstanding := none, doorsClosed := false })
    have hw : w.stableMaster = true := (stableMaster_iff w).mpr ⟨hr, hs⟩
    refine (if_pos hout).trans ((nextSummaryWalk_of_stable hw).trans ?_)
    have hp : w.door.startPending = s.door.startPending := rfl
    rw [hp]
    split_ifs with hp
    · rfl
    · have hv : v.door = w.door := by
        simp only [v, w, ← eq_false_of_ne_true hp, recordFault_door, State.setDoor_door]
      show w = w.setDoor v.door
      rw [hv]
      rfl

end Sys2Proof.Machine
end

section
/-! SUPPORT. The applied stage with T14, the two steps of a heat walk, and the heat timers. -/

namespace Sys2Proof.Machine

open Sys2Proof

/-! ### The applied stage and T14 (R156, R170) -/

/-- R170: T14 after the feedback comparison is judged. -/
def State.judgedT14 (s : State) : Option Nat :=
  if s.present .heatFeedback ∧ s.heat.lockedOut = false ∧ s.asserted .heatFeedback ≠ decide (0 < s.heat.applied) then
    (if (s.count .t14).isSome then s.count .t14 else some (s.period .t14))
  else none

theorem judgeFeedback_eq (s : State) : judgeFeedback s = s.setCount .t14 s.judgedT14 := by
  unfold judgeFeedback State.judgedT14
  split_ifs
  · exact (setCount_count s _).symm
  · rfl
  · rfl

/-- R156, R170: T14 after the applied stage has become `n`. -/
def State.t14After (s : State) (n : Nat) : Option Nat :=
  if decide (0 < s.heat.applied) = decide (0 < n) then s.count .t14
  else (s.setHeat { s.heat with applied := n }).judgedT14

theorem setApplied_eq (n : Nat) (s : State) :
    setApplied n s = (s.setHeat { s.heat with applied := n }).setCount .t14 (s.t14After n) := by
  unfold setApplied State.t14After
  dsimp only
  split_ifs
  · exact (setCount_count (s.setHeat { s.heat with applied := n }) .t14).symm
  · exact judgeFeedback_eq _

theorem t14After_of_same {n : Nat} {s : State} (h : s.heat.applied = 0 ↔ n = 0) : s.t14After n = s.count .t14 :=
  if_pos (by rw [decide_eq_decide, Nat.pos_iff_ne_zero, Nat.pos_iff_ne_zero, not_iff_not]; exact h)

theorem t14After_of_turned {n : Nat} {s : State} (h : ¬(s.heat.applied = 0 ↔ n = 0)) :
    s.t14After n = (s.setHeat { s.heat with applied := n }).judgedT14 :=
  if_neg (by rw [decide_eq_decide, Nat.pos_iff_ne_zero, Nat.pos_iff_ne_zero, not_iff_not]; exact h)

@[simp] theorem setApplied_count_t14 (n : Nat) (s : State) : (setApplied n s).count .t14 = s.t14After n := by
  rw [setApplied_eq, State.count_setCount]

/-- R156: a change of another field of the heat unit, LOCKED_OUT apart, commutes with that of the applied stage. -/
theorem setApplied_setHeat (n : Nat) {y : HeatUnit} {s : State} (ha : y.applied = s.heat.applied)
    (hl : y.lockedOut = s.heat.lockedOut) :
    setApplied n (s.setHeat y) = (setApplied n s).setHeat { y with applied := n } := by
  have ht : (s.setHeat y).t14After n = s.t14After n := by
    unfold State.t14After State.judgedT14
    simp only [State.setHeat_heat, ha, hl]
    rfl
  rw [setApplied_eq, setApplied_eq, ht]
  rfl

/-! ### The highest stage that fits (R160, R163) -/

theorem highestStage_succ (s : State) (low high limit : Nat) : s.highestStage low (high + 1) limit
    = if low ≤ high + 1 ∧ s.profileAt (high + 1) ≤ limit then high + 1 else s.highestStage low high limit := by
  unfold State.highestStage
  rw [List.range_succ, List.foldl_append]
  rfl

/-- R160, R163: the highest stage lies between the bounds, and fits unless it is the lower bound. -/
theorem highestStage_spec (s : State) (low high limit : Nat) : low ≤ s.highestStage low high limit
    ∧ (s.highestStage low high limit = low ∨ s.highestStage low high limit ≤ high
      ∧ s.profileAt (s.highestStage low high limit) ≤ limit) := by
  induction high with
  | zero =>
    have h0 : s.highestStage low 0 limit = if low ≤ 0 ∧ s.profileAt 0 ≤ limit then 0 else low := rfl
    rw [h0]
    split_ifs with h
    · exact ⟨h.1, .inr ⟨le_rfl, h.2⟩⟩
    · exact ⟨le_rfl, .inl rfl⟩
  | succ n ih =>
    rw [highestStage_succ]
    split_ifs with h
    · exact ⟨h.1, .inr ⟨le_rfl, h.2⟩⟩
    · exact ⟨ih.1, ih.2.imp id fun k => ⟨k.1.trans (Nat.le_succ n), k.2⟩⟩

/-- R160, R163: no stage above it fits. -/
theorem highestStage_max (s : State) {low high limit k : Nat} (hk : k ≤ high) (hl : low ≤ k)
    (hp : s.profileAt k ≤ limit) : k ≤ s.highestStage low high limit := by
  induction high with
  | zero =>
    obtain rfl : k = 0 := Nat.le_zero.mp hk
    exact Nat.zero_le _
  | succ n ih =>
    rw [highestStage_succ]
    split_ifs with h
    · exact hk
    · rcases Nat.lt_or_ge n k with hn | hn
      · obtain rfl : k = n + 1 := le_antisymm hk hn
        exact absurd ⟨hl, hp⟩ h
      · exact ih hn

/-- R160, R163: the stage that fits while none above it does is the highest. -/
theorem highestStage_eq (s : State) {low high limit g : Nat} (hl : low ≤ g) (hh : g ≤ high)
    (hp : s.profileAt g ≤ limit) (hm : ∀ k ≤ high, g < k → limit < s.profileAt k) :
    s.highestStage low high limit = g := by
  have hge := highestStage_max s hh hl hp
  obtain ⟨-, hs⟩ := highestStage_spec s low high limit
  refine le_antisymm (Nat.le_of_not_lt fun hlt => ?_) hge
  rcases hs with he | ⟨h1, h2⟩
  · omega
  · exact absurd h2 (Nat.not_le.mpr (hm _ h1 hlt))

/-! ### The budget (R152, R160, R163) -/

theorem profileAt_zero {s : State} (h : s.heat.ProfileSafe) : s.profileAt 0 = 0 := by
  obtain ⟨-, h0, -, -⟩ := h
  unfold State.profileAt
  cases hp : s.heat.profile with
  | nil => rfl
  | cons x l =>
    rw [hp] at h0
    simpa using h0

theorem profileAt_mono {s : State} (h : s.heat.ProfileSafe) {i j : Nat} (hij : i ≤ j) (hj : j ≤ 7) :
    s.profileAt i ≤ s.profileAt j := by
  obtain ⟨hlen, -, -, hp⟩ := h
  rcases Nat.eq_or_lt_of_le hij with rfl | hlt
  · exact le_rfl
  · have hjl : j < s.heat.profile.length := by omega
    have hil : i < s.heat.profile.length := by omega
    simpa [State.profileAt, List.getD_eq_getElem?_getD, hil, hjl] using List.pairwise_iff_getElem.mp hp i j hil hjl hlt

theorem firstGrant_fits {s : State} (h : s.heat.ProfileSafe) {b r : Nat} (hr : r ≠ 0) :
    s.profileAt (s.firstGrant b r) ≤ b ∧ s.firstGrant b r ≤ s.effectiveDemand := by
  rw [State.firstGrant, if_neg hr]
  obtain ⟨-, he | ⟨h1, h2⟩⟩ := highestStage_spec s 0 s.effectiveDemand (b / r)
  · rw [he, profileAt_zero h]
    exact ⟨Nat.zero_le _, Nat.zero_le _⟩
  · exact ⟨h2.trans (Nat.div_le_self b r), h1⟩

/-- Settles O42: the first grant fits its share, and the final grant the first grant with the new share. -/
theorem heatWalkKeepsBudget : Obligations.HeatWalkKeepsBudget := by
  intro x r s h g
  refine ⟨fun hr => ?_, fun hr => ?_, fun hgd hd => ?_⟩
  · obtain ⟨hb, hg⟩ := firstGrant_fits h (b := x.budget) hr
    refine ⟨?_, hg⟩
    have hbody : (s.outboundBody x).budget = x.budget - s.profileAt g := if_neg hr
    rw [hbody]
    exact Nat.sub_add_cancel hb
  · exact ⟨if_pos hr, if_pos hr⟩
  · intro g2
    have hbounds : r.grant ≤ g2 ∧ g2 ≤ r.demand ∧ s.profileAt g2 - s.profileAt r.grant ≤ x.budget := by
      simp only [g2, State.finalGrant]
      split_ifs
      · obtain ⟨h1, he | ⟨h2, h3⟩⟩ := highestStage_spec s r.grant r.demand (s.profileAt r.grant + x.budget / x.wanting)
        · rw [he, Nat.sub_self]
          exact ⟨le_rfl, hgd, Nat.zero_le _⟩
        · have hdiv := Nat.div_le_self x.budget x.wanting
          exact ⟨h1, h2, by omega⟩
      · rw [Nat.sub_self]
        exact ⟨le_rfl, hgd, Nat.zero_le _⟩
    obtain ⟨hlow, hhigh, hfit⟩ := hbounds
    have hmono := profileAt_mono h hlow (hhigh.trans hd)
    refine ⟨?_, hmono, hlow, hhigh⟩
    by_cases hw : r.wanting = true ∧ x.wanting ≠ 0
    · have hbody : (s.returnBody r x).budget = x.budget - (s.profileAt g2 - s.profileAt r.grant) := by
        rw [State.returnBody, if_pos hw]
      rw [hbody]
      exact Nat.sub_add_cancel hfit
    · have hbody : (s.returnBody r x).budget = x.budget := by rw [State.returnBody, if_neg hw]
      have hg2 : g2 = r.grant := if_neg hw
      rw [hbody, hg2, Nat.sub_self, Nat.add_zero]

/-! ### The steps of a heat walk (R160, R163) -/

/-- R160: the walk record that an outbound step stores. -/
def State.walkRecordOf (s : State) (walk : Nat) (x : HeatBody) : WalkRecord :=
  ⟨walk, s.effectiveDemand, s.firstGrant x.budget x.remaining, s.wants (s.firstGrant x.budget x.remaining)⟩

theorem outboundStep_eq (walk : Nat) (x : HeatBody) (s : State) : outboundStep walk x s =
    let counted := if x.remaining = 0 then recordFault .heatCount .node s else s
    let lowered := setApplied (min s.heat.applied (s.firstGrant x.budget x.remaining)) counted
    (lowered.setHeat { lowered.heat with walkRecord := some (s.walkRecordOf walk x), fallback := false }).setCount .t13
      (some (s.period .t13)) := by
  let counted := if x.remaining = 0 then recordFault .heatCount .node s else s
  let n := min s.heat.applied (s.firstGrant x.budget x.remaining)
  have hheat : counted.heat = s.heat := by
    simp only [counted]
    split_ifs <;> rfl
  have hclock : counted.timers = s.timers := by
    simp only [counted]
    split_ifs <;> rfl
  have hcomm : setApplied n (counted.setHeat { counted.heat with walkRecord := some (s.walkRecordOf walk x) })
      = (setApplied n counted).setHeat { counted.heat with walkRecord := some (s.walkRecordOf walk x), applied := n } :=
    setApplied_setHeat n rfl rfl
  have hlow : (setApplied n counted).heat = { counted.heat with applied := n } := setApplied_heat n counted
  have hper : (setApplied n counted).period .t13 = s.period .t13 :=
    ((sameClock_setApplied n counted).period .t13).trans (by simp only [State.period, State.setting, hclock])
  have hmin : min counted.heat.applied (s.firstGrant x.budget x.remaining) = n := by rw [hheat]
  show startTimer .t13 ((setApplied (min counted.heat.applied (s.firstGrant x.budget x.remaining))
      (counted.setHeat { counted.heat with walkRecord := some (s.walkRecordOf walk x) })).setHeat
      { (setApplied (min counted.heat.applied (s.firstGrant x.budget x.remaining))
        (counted.setHeat { counted.heat with walkRecord := some (s.walkRecordOf walk x) })).heat with fallback := false })
    = ((setApplied n counted).setHeat { (setApplied n counted).heat with
      walkRecord := some (s.walkRecordOf walk x), fallback := false }).setCount .t13 (some (s.period .t13))
  rw [hmin, hcomm, hlow, ← hper]
  rfl

theorem outboundStep_walkRecord (walk : Nat) (x : HeatBody) (s : State) :
    (outboundStep walk x s).heat.walkRecord = some (s.walkRecordOf walk x) := by
  rw [outboundStep_eq]
  rfl

theorem recordOf_of_same {s : State} {r : WalkRecord} (h : s.heat.walkRecord = some r) : s.recordOf r.walk = some r := by
  rw [State.recordOf, h]
  exact if_pos rfl

theorem recordOf_none {s : State} {walk : Nat} (h : ∀ r, s.heat.walkRecord = some r → r.walk ≠ walk) :
    s.recordOf walk = none := by
  unfold State.recordOf
  cases hr : s.heat.walkRecord with
  | none => rfl
  | some r => exact if_neg (h r hr)

theorem masterReturn_of_some {s : State} {walk : Nat} {r : WalkRecord} (h : s.recordOf walk = some r) (x : HeatBody) :
    masterReturn walk x s = (s.returnBody r x, returnStep r x s) := by
  rw [masterReturn, h]

/-- Settles O39: the comparison on the new stage, and each expiry. -/
theorem heatTimersEnd : Obligations.HeatTimersEnd := by
  refine ⟨fun stage s => ?_, fun s hn => ⟨fun hr hs hc => ?_, fun hr hs hc ho => ?_, fun hc hf => ?_, fun n hc hl => ?_⟩⟩
  · intro compared t
    have ht : t.count .t14 = s.t14After stage := setApplied_count_t14 stage s
    refine ⟨?_, fun h => ht.trans (t14After_of_same h), fun h => ⟨fun hcm hfb => ?_, fun hcm => ?_⟩⟩
    · rw [ht]
      exact setApplied_eq stage s
    all_goals
      rw [ht, t14After_of_turned h]
      have hcond : ((s.setHeat { s.heat with applied := stage }).present .heatFeedback ∧ s.heat.lockedOut = false
          ∧ s.asserted .heatFeedback ≠ decide (0 < stage)) ↔ (compared ∧ (s.asserted .heatFeedback = true ↔ stage = 0)) := by
        have h0 : s.asserted .heatFeedback ≠ decide (0 < stage) ↔ (s.asserted .heatFeedback = true ↔ stage = 0) := by
          cases s.asserted .heatFeedback <;> simp [Nat.pos_iff_ne_zero]
        rw [h0, ← and_assoc]
        rfl
    · refine (if_pos (hcond.mpr ⟨hcm, hfb⟩)).trans ?_
      cases hc : s.count .t14 with
      | none =>
        simp [hc]
        rfl
      | some n =>
        simp [hc]
    · exact if_neg (mt hcond.mp hcm)
  · intro u
    refine congrArg Host.Outcome.next ((if_pos (ranOut_of (operating_of_node hn) hc)).trans ?_)
    exact if_pos ((stableMaster_iff u).mpr ⟨hr, hs⟩)
  · intro v
    refine congrArg Host.Outcome.next ((if_pos (ranOut_of (operating_of_node hn) hc)).trans ?_)
    have hout : s.heat.outstanding.isSome = true := Option.isSome_iff_ne_none.mpr ho
    let w : State := recordFault .heatLost .node ((s.setCount .t12 none).setHeat { s.heat with outstanding := none })
    have hw : w.stableMaster = true := (stableMaster_iff w).mpr ⟨hr, hs⟩
    refine (if_pos hout).trans ?_
    show nextHeatWalk w = _
    rw [nextHeatWalk, hw, Bool.and_true]
    have hp : w.heat.startPending = s.heat.startPending := rfl
    rw [hp]
    split_ifs with hp
    · rfl
    · have hv : v.heat = w.heat := by
        simp only [v, w, ← eq_false_of_ne_true hp, recordFault_heat, State.setHeat_heat]
      show w = w.setHeat v.heat
      rw [hv]
      rfl
  · refine congrArg Host.Outcome.next ((if_pos (ranOut_of (operating_of_node hn) hc)).trans ?_)
    have hnf : ¬(takeExpiry .t13 s).heat.fallback = true := by
      rw [takeExpiry_heat, hf]
      decide
    refine (if_neg hnf).trans ?_
    exact congrArg (setApplied _) (setCount_setCount (s.setHeat { s.heat with fallback := true }) .t13 none none)
  · refine congrArg Host.Outcome.next ((if_pos (ranOut_of (operating_of_node hn) hc)).trans ?_)
    have hl' : (takeExpiry .t14 s).lineCarrying .heatFeedback = some n := hl
    rw [feedbackFailed, hl']
    refine congrArg (recordFault .heatFeedback (.line n)) ?_
    rw [lockOut, setApplied_eq, stopTimer, setCount_setCount]
    rfl

end Sys2Proof.Machine
end

section
/-! SUPPORT. The walks a master starts, and the two passes of a heat walk at a node. -/

namespace Sys2Proof.Machine

open Sys2Proof

/-! ### What the steps of a heat walk leave (R160, R163) -/

theorem outboundStep_heat (walk : Nat) (x : HeatBody) (s : State) : (outboundStep walk x s).heat =
    { s.heat with
      applied := min s.heat.applied (s.firstGrant x.budget x.remaining)
      walkRecord := some (s.walkRecordOf walk x), fallback := false } := by
  rw [outboundStep_eq]
  by_cases hr : x.remaining = 0
  · simp only [if_pos hr, State.setCount_heat, State.setHeat_heat, setApplied_heat, recordFault_heat]
  · simp only [if_neg hr, State.setCount_heat, State.setHeat_heat, setApplied_heat]

theorem sameClock_outboundStep (walk : Nat) (x : HeatBody) (s : State) : s.SameClock (outboundStep walk x s) := by
  rw [outboundStep_eq]
  have hlow : ∀ c : State, s.SameClock c → s.SameClock
      (setApplied (min s.heat.applied (s.firstGrant x.budget x.remaining)) c) :=
    fun c hc => hc.trans (sameClock_setApplied _ c)
  by_cases hr : x.remaining = 0
  · simp only [if_pos hr]
    exact (hlow (recordFault .heatCount .node s) (.of_timers rfl)).trans ⟨rfl, rfl⟩
  · simp only [if_neg hr]
    exact (hlow _ (.refl s)).trans ⟨rfl, rfl⟩

/-- R163: the return payload depends on the profile alone. -/
theorem returnBody_congr {s t : State} (h : t.heat.profile = s.heat.profile) (r : WalkRecord) (x : HeatBody) :
    t.returnBody r x = s.returnBody r x := by
  simp only [State.returnBody, State.finalGrant, State.highestStage, State.profileAt, h]
  rfl

theorem takeHeat_of_record {h : Header} {r : WalkRecord} {s : State} (hr : s.heat.walkRecord = some r)
    (hw : r.walk = h.tag) (x : HeatBody) : takeHeat h x s
      = deliver ⟨h, .heat (s.returnBody r x)⟩
        (returnStep r x ((s.setHeat { s.heat with outstanding := none }).setCount .t12 none)) := by
  have hrec : (stopTimer .t12 (s.setHeat { s.heat with outstanding := none })).recordOf h.tag = some r := by
    rw [← hw]
    exact recordOf_of_same hr
  rw [takeHeat]
  dsimp only
  rw [masterReturn_of_some hrec]
  rfl

/-! ### The start of a walk (R142, R158) -/

theorem forward_of_consist {s t : State} (h : t.consist = s.consist) :
    t.forwardPort = s.forwardPort ∧ t.rearwardPort = s.rearwardPort := by
  simp only [State.forwardPort, State.rearwardPort, State.direction, h, and_self]

theorem walkFrame_of_consist {s t : State} (h : t.consist = s.consist) (back : Bool) (n : Nat) (b : Body) :
    t.walkFrame back n b = s.walkFrame back n b := by
  simp only [State.walkFrame, State.ownHeader, h]

/-- The state in which a summary walk has its number and its return timer. -/
def State.summaryNumbered (s : State) : State := startTimer .t8 (numberSummaryWalk s)

/-- R143: the payload of a summary walk with the master's own part. -/
def State.firstSummary (s : State) : SumBody := s.contribute sumInitial

theorem startSummaryWalk_sent {s : State} (h : s.upPorts ≠ []) : startSummaryWalk s
    = sendFrame s.rearwardPort (s.walkFrame false (next256 s.door.walk) (.sum s.firstSummary)) s.summaryNumbered :=
  if_neg (mt List.isEmpty_iff.mp h)

theorem startSummaryWalk_alone {s : State} (h : s.upPorts = []) : startSummaryWalk s
    = takeSummary (s.walkFrame true (next256 s.door.walk) (.sum s.firstSummary)) s.firstSummary s.summaryNumbered :=
  if_pos (List.isEmpty_iff.mpr h)

/-- R158, R160: a heat walk has its number and the master's outbound step. -/
def State.heatStepped (s : State) : State := outboundStep (next256 s.heat.walk) s.heatInitial (numberHeatWalk s)

theorem heatStepped_period (s : State) (t : TimerId) : s.heatStepped.period t = s.period t :=
  (sameClock_outboundStep (next256 s.heat.walk) s.heatInitial (numberHeatWalk s)).period t

theorem startHeatWalk_sent {s : State} (h : s.upPorts ≠ []) : startHeatWalk s
    = sendFrame s.rearwardPort (s.walkFrame false (next256 s.heat.walk) (.heat (s.outboundBody s.heatInitial)))
      (s.heatStepped.setCount .t12 (some (s.period .t12))) := by
  let t : State := startTimer .t12 s.heatStepped
  have hc : t.consist = s.consist := outboundStep_consist ..
  have hp : t.upPorts = s.upPorts := upPorts_congr (outboundStep_ports ..)
  have ht : t = s.heatStepped.setCount .t12 (some (s.period .t12)) :=
    congrArg (fun n => s.heatStepped.setCount .t12 (some n)) (heatStepped_period s .t12)
  have hne : ¬t.upPorts.isEmpty = true := mt List.isEmpty_iff.mp (hp ▸ h)
  refine (if_neg hne).trans ?_
  rw [← ht]
  show sendFrame t.rearwardPort (t.walkFrame false _ _) t = _
  rw [(forward_of_consist hc).2, walkFrame_of_consist hc]
  rfl

theorem startHeatWalk_alone {s : State} (h : s.upPorts = []) : startHeatWalk s
    = takeHeat (s.walkFrame true (next256 s.heat.walk) (.heat (s.outboundBody s.heatInitial))).header
      (s.outboundBody s.heatInitial) (startTimer .t12 s.heatStepped) := by
  let t : State := startTimer .t12 s.heatStepped
  have hc : t.consist = s.consist := outboundStep_consist ..
  have hp : t.upPorts = s.upPorts := upPorts_congr (outboundStep_ports ..)
  refine (if_pos (List.isEmpty_iff.mpr (hp.trans h))).trans ?_
  show takeHeat (t.walkFrame true _ _).header _ t = _
  rw [walkFrame_of_consist hc]
  rfl

/-- Settles O26: the frame sent, or the result taken at once. -/
theorem walksStart : Obligations.WalksStart := by
  intro s n k heading sum x y stepped
  refine ⟨fun hup => ⟨?_, ?_⟩, fun hup => ?_⟩
  · exact startSummaryWalk_sent (upPorts_ne_nil hup)
  · exact startHeatWalk_sent (upPorts_ne_nil hup)
  · intro closed doubt told
    refine ⟨?_, s.walkRecordOf k x, outboundStep_walkRecord k x _, rfl, rfl, ?_⟩
    · rw [startSummaryWalk_alone hup]
      let v := s.summaryNumbered
      have hv : v.summaryDoubt s.firstSummary = true ↔ doubt := by
        rw [summaryDoubt_iff]
        simp [State.firstSummary, State.contribute, sumInitial, doubt, v, State.summaryNumbered, numberSummaryWalk,
          eq_comm (a := 1)]
      have hclosed : v.interlockAfter s.firstSummary = decide closed := by
        rw [← Bool.coe_iff_coe, interlockAfter_iff, decide_eq_true_iff]
        simp [State.firstSummary, State.contribute, sumInitial, closed, v, State.summaryNumbered, numberSummaryWalk,
          eq_comm (a := 1)]
      have htold : takeSummary (s.walkFrame true (next256 s.door.walk) (.sum s.firstSummary)) s.firstSummary v
          = if doubt then trigger told else told := by
        have hst : stopTimer .t8 (v.setDoor { v.door with
              outstanding := none, doorsClosed := v.interlockAfter s.firstSummary })
            = (s.setDoor { s.door with walk := n, outstanding := none, alert := false, doorsClosed := decide closed }).setCount
              .t8 none := by
          rw [hclosed]
          exact setCount_setCount (s.setDoor { s.door with
            walk := n, outstanding := none, alert := false, doorsClosed := decide closed }) .t8 _ _
        rw [takeSummary, hst]
        by_cases hd : doubt
        · exact (if_pos (hv.mpr hd)).trans (if_pos hd).symm
        · exact (if_neg (mt hv.mp hd)).trans (if_neg hd).symm
      exact htold
    · have hrec : (startTimer .t12 s.heatStepped).heat.walkRecord = some (s.walkRecordOf k x) :=
        outboundStep_walkRecord k x _
      rw [startHeatWalk_alone hup, takeHeat_of_record hrec rfl]
      have hprof : (startTimer .t12 s.heatStepped).heat.profile = s.heat.profile :=
        (congrArg HeatUnit.profile (outboundStep_heat k x (numberHeatWalk s))).trans rfl
      rw [returnBody_congr hprof]
      refine congrArg (deliver _) (congrArg (returnStep _ _) ?_)
      exact setCount_setCount (stepped.setHeat { stepped.heat with outstanding := none }) _ _ _

/-! ### The grants (R160, R163) -/

/-- R160: the highest stage up to d_eff that the share affords is the first grant. -/
theorem firstGrant_eq {s : State} {b r g : Nat} (h : if r = 0 then g = 0
    else g ≤ s.effectiveDemand ∧ s.profileAt g ≤ b / r ∧ ∀ k ≤ s.effectiveDemand, g < k → b / r < s.profileAt k) :
    s.firstGrant b r = g := by
  unfold State.firstGrant
  by_cases hr : r = 0
  · rw [if_pos hr] at h ⊢
    exact h.symm
  · rw [if_neg hr] at h ⊢
    obtain ⟨hle, hfit, hmax⟩ := h
    exact highestStage_eq s (Nat.zero_le g) hle hfit hmax

/-- R163: the highest stage from the first grant to the walk demand that the new share affords is the final grant. -/
theorem finalGrant_eq {s : State} {r : WalkRecord} {x : HeatBody} {g : Nat}
    (h : if r.wanting = true ∧ x.wanting ≠ 0 then
      (r.grant ≤ g ∧ g ≤ r.demand ∧ s.profileAt g ≤ s.profileAt r.grant + x.budget / x.wanting
        ∧ ∀ k ≤ r.demand, g < k → s.profileAt r.grant + x.budget / x.wanting < s.profileAt k)
      else g = r.grant) : s.finalGrant r x = g := by
  unfold State.finalGrant
  by_cases hw : r.wanting = true ∧ x.wanting ≠ 0
  · rw [if_pos hw] at h ⊢
    obtain ⟨hlow, hhigh, hfit, hmax⟩ := h
    exact highestStage_eq s hlow hhigh hfit hmax
  · rw [if_neg hw] at h ⊢
    exact h.symm

/-! ### HEAT OUT (R159 to R161) -/

theorem exec_heatOut_of_takes {p : Port} {h : Header} {x : HeatBody} {s : State} (ht : s.takesFrame p)
    (hf : (⟨inPhase false h, .heat x⟩ : Frame).formOk = true) :
    exec (.heatOut p h x) s = .next (takeHeatOut p (inPhase false h) x (s.afterFrame p)) :=
  congrArg Host.Outcome.next (frameArrives_of_takesFrame ht hf)

theorem turnHeat_of_record {h : Header} {r : WalkRecord} {s : State} (hr : s.heat.walkRecord = some r)
    (hw : r.walk = h.tag) (y : HeatBody) : turnHeat h y s
      = sendFrame s.forwardPort ⟨inPhase true h, .heat (s.returnBody r y)⟩ (returnStep r y s) := by
  have hrec : s.recordOf h.tag = some r := by
    rw [← hw]
    exact recordOf_of_same hr
  rw [turnHeat, masterReturn_of_some hrec]
  show sendFrame (returnStep r y s).forwardPort _ _ = _
  rw [(forward_of_consist (returnStep_consist r y s)).1]
  rfl

/-- Settles O40: the outbound step with the first grant `g`, then the frame goes on or turns. -/
theorem heatOutTaken : Obligations.HeatOutTaken := by
  intro p h x g s ht hf u d share taken wants locked fits y r counted lowered v
  rw [exec_heatOut_of_takes ht hf]
  have htaken : u.walkTaken p u.forwardPort (inPhase false h) = true ↔ taken :=
    walkTaken_iff u p u.forwardPort (inPhase false h)
  refine ⟨fun hn => congrArg Host.Outcome.next (if_neg (mt htaken.mp hn)), fun htk hfit => ?_⟩
  have hg : u.firstGrant x.budget x.remaining = g := firstGrant_eq hfit
  have hrec : u.walkRecordOf h.tag x = r := by
    rw [State.walkRecordOf, hg]
    rfl
  have hv : outboundStep h.tag x u = v := by
    rw [outboundStep_eq, hrec, hg]
    rfl
  have hy : u.outboundBody x = y := by
    have hsub : (if x.remaining = 0 then 0 else x.remaining - 1) = x.remaining - 1 := by
      split_ifs with h0
      · rw [h0]
      · rfl
    simp only [State.outboundBody, hg, State.wants, decide_eq_true_eq, y, hsub]
    rfl
  have hvc : v.consist = s.consist := by
    rw [← hv]
    exact outboundStep_consist ..
  have hvp : ∀ q, v.isUp q = s.isUp q := fun q => by
    have hports : v.ports = u.ports := by
      rw [← hv]
      exact outboundStep_ports ..
    exact (isUp_of_ports hports q).trans (afterFrame_isUp ..)
  obtain ⟨hfwd, hrear⟩ := forward_of_consist hvc
  refine congrArg Host.Outcome.next ((if_pos (htaken.mpr htk)).trans ?_)
  show (if (outboundStep h.tag x u).isUp (outboundStep h.tag x u).rearwardPort = true
      then sendFrame (outboundStep h.tag x u).rearwardPort ⟨inPhase false h, .heat (u.outboundBody x)⟩ (outboundStep h.tag x u)
      else turnHeat (inPhase false h) (u.outboundBody x) (outboundStep h.tag x u)) = _
  rw [hv, hy, hrear, hvp, ← hfwd]
  have hwr : v.heat.walkRecord = some r := by rw [← hv, outboundStep_walkRecord, hrec]
  rw [turnHeat_of_record (h := inPhase false h) hwr rfl]
  rfl

/-! ### HEAT BACK (R162 to R164) -/

theorem exec_heatBack_of_takes {p : Port} {h : Header} {x : HeatBody} {s : State} (ht : s.takesFrame p)
    (hf : (⟨inPhase true h, .heat x⟩ : Frame).formOk = true) :
    exec (.heatBack p h x) s = .next (takeHeatBack p (inPhase true h) x (s.afterFrame p)) :=
  congrArg Host.Outcome.next (frameArrives_of_takesFrame ht hf)

theorem returnStep_eq {r : WalkRecord} {x : HeatBody} {g : Nat} {s : State} (hg : s.finalGrant r x = g) :
    returnStep r x s =
      let counted := if r.wanting = true ∧ x.wanting = 0 then recordFault .heatCount .node s else s
      let set := setApplied (s.cappedGrant g) counted
      set.setHeat { set.heat with walkRecord := none } := by
  have hcap : (if r.wanting = true ∧ x.wanting = 0 then recordFault .heatCount .node s else s).cappedGrant g
      = s.cappedGrant g := by
    split_ifs <;> rfl
  rw [returnStep, hg, hcap]

theorem returnStep_startPending (r : WalkRecord) (x : HeatBody) (s : State) :
    (returnStep r x s).heat.startPending = s.heat.startPending := by
  rw [returnStep_eq rfl]
  simp only [State.setHeat_heat, setApplied_heat]
  split_ifs <;> rfl

theorem nextHeatWalk_of_stable {s : State} (h : s.stableMaster = true) : nextHeatWalk s
    = if s.heat.startPending = true then startHeatWalk (s.setHeat { s.heat with startPending := false }) else s := by
  rw [nextHeatWalk, h, Bool.and_true]

/-- R164: the master ends its walk and makes its own return step. -/
theorem takeHeat_without_record {h : Header} {s : State} (hr : s.recordOf h.tag = none) (x : HeatBody) : takeHeat h x s
    = deliver ⟨h, .heat x⟩ ((s.setHeat { s.heat with outstanding := none }).setCount .t12 none) := by
  have hn : (stopTimer .t12 (s.setHeat { s.heat with outstanding := none })).recordOf h.tag = none := hr
  rw [takeHeat]
  dsimp only
  rw [masterReturn_of_none hn]
  rfl

/-- Settles O41: the return step with the final grant `g`, relayed at a member, delivered at the master. -/
theorem heatBackTaken : Obligations.HeatBackTaken := by
  intro p h x g s ht hf u passed returned granted y stepped
  rw [exec_heatBack_of_takes ht hf]
  have htaken : u.walkTaken p u.rearwardPort (inPhase true h) = true ↔ passed :=
    walkTaken_iff u p u.rearwardPort (inPhase true h)
  have hret : u.walkReturned p (inPhase true h) u.heat.outstanding = true ↔ returned :=
    walkReturned_iff u p (inPhase true h) u.heat.outstanding
  have hbody : ∀ r, granted r → s.returnBody r x = y r := fun r hg => by
    have hgr : s.finalGrant r x = g := finalGrant_eq hg
    rw [State.returnBody, hgr]
  have hstep : ∀ r w, granted r → w.heat.profile = s.heat.profile → w.cappedGrant g = s.cappedGrant g →
      returnStep r x w = stepped r w := fun r w hg hp hc => by
    have hgr : w.finalGrant r x = g := by
      rw [← finalGrant_eq hg]
      simp only [State.finalGrant, State.highestStage, State.profileAt, hp]
      rfl
    rw [returnStep_eq hgr, hc]
    rfl
  have hrecord : ∀ r, s.heat.walkRecord = some r → r.walk = h.tag → u.recordOf h.tag = some r := fun r hr hw => by
    rw [← hw]
    exact recordOf_of_same hr
  have hnr : passed → ¬returned := fun hp hr => by
    have hmaster : s.consist.role = .master := hr.1
    rw [hp.1] at hmaster
    cases hmaster
  have hnone : (∀ r, s.heat.walkRecord = some r → r.walk ≠ h.tag) → u.recordOf h.tag = none := recordOf_none
  refine ⟨fun hnp hnr => ?_, fun hp => ⟨fun r hr hw hg => ?_, fun hn => ?_⟩, fun hr => ?_⟩
  · exact congrArg Host.Outcome.next ((if_neg (mt hret.mp hnr)).trans (if_neg (mt htaken.mp hnp)))
  · refine congrArg Host.Outcome.next ((if_neg (mt hret.mp (hnr hp))).trans ((if_pos (htaken.mpr hp)).trans ?_))
    show sendFrame (masterReturn h.tag x u).2.forwardPort ⟨inPhase true h, .heat (masterReturn h.tag x u).1⟩
      (masterReturn h.tag x u).2 = _
    rw [masterReturn_of_some (hrecord r hr hw)]
    dsimp only
    rw [(forward_of_consist (returnStep_consist r x u)).1, hstep r u hg rfl rfl, ← hbody r hg]
    rfl
  · refine congrArg Host.Outcome.next ((if_neg (mt hret.mp (hnr hp))).trans ((if_pos (htaken.mpr hp)).trans ?_))
    show sendFrame (masterReturn h.tag x u).2.forwardPort ⟨inPhase true h, .heat (masterReturn h.tag x u).1⟩
      (masterReturn h.tag x u).2 = _
    rw [masterReturn_of_none (hnone hn)]
    rfl
  · intro v ended
    have hend : ∀ f w, w.consist = s.consist → w.heat.startPending = s.heat.startPending →
        nextHeatWalk (deliver f w) = ended (deliver f w) := fun f w hc hsp => by
      have hstable : (deliver f w).stableMaster = true := by
        rw [stableMaster_iff, deliver_consist, hc]
        exact ⟨hr.1, hr.2.1⟩
      rw [nextHeatWalk_of_stable hstable]
      have hpend : (deliver f w).heat.startPending = s.heat.startPending := by rw [deliver_heat, hsp]
      rw [hpend]
    refine ⟨fun r hwr hw hg => ?_, fun hn => ?_⟩
    · refine congrArg Host.Outcome.next ((if_pos (hret.mpr hr)).trans ?_)
      rw [takeHeat_of_record (h := inPhase true h) (s := u) hwr hw]
      have hv : returnStep r x v = stepped r v := hstep r v hg rfl rfl
      have hb : u.returnBody r x = y r := hbody r hg
      rw [hb, ← hv]
      exact hend _ _ (returnStep_consist ..) (returnStep_startPending ..)
    · refine congrArg Host.Outcome.next ((if_pos (hret.mpr hr)).trans ?_)
      rw [takeHeat_without_record (h := inPhase true h) (hnone hn)]
      exact hend _ v rfl rfl

end Sys2Proof.Machine
end

section
/-! SUPPORT. A command or a proof at one side: what it changes besides that side, and the alert it may raise. -/

namespace Sys2Proof.Machine

open Sys2Proof

/-! ### A state with other door, heat and count blocks -/

/-- The state with its door unit, its heat unit and its counts replaced. -/
def State.acted (s : State) (x : DoorUnit) (y : HeatUnit) (c : Counts) : State :=
  ((s.setDoor x).setHeat y).setTimers { s.timers with counts := c }

section Acted

variable (x : DoorUnit) (y : HeatUnit) (c : Counts) (s : State)

theorem deliver_acted (f : Frame) : deliver f (s.acted x y c) = (deliver f s).acted x y c := by
  unfold deliver
  split_ifs with h1 h2 h2
  · rfl
  · exact absurd h1 h2
  · exact absurd h2 h1
  · rfl

theorem sendFrame_acted (p : Port) (f : Frame) : sendFrame p f (s.acted x y c) = (sendFrame p f s).acted x y c := by
  have hu : (s.acted x y c).isUp p = s.isUp p := rfl
  have hr : (s.acted x y c).hasRoom p (bodyLevel f.body) = s.hasRoom p (bodyLevel f.body) := rfl
  unfold sendFrame enqueue
  rw [hu, hr]
  split_ifs <;> rfl

end Acted

/-! ### One side and its close timer (R126 to R129) -/

/-- The state in which one side has the record `x` and its close timer the count `v`. -/
def State.sideActed (s : State) (d : Side) (x : SideRecord) (v : Option Nat) : State :=
  (s.setSide d x).setCount (.t10 d) v

theorem setSide_setSide (d : Side) (x y : SideRecord) (s : State) : (s.setSide d x).setSide d y = s.setSide d y := by
  cases d <;> rfl

/-- R155, R156: the applied stage at most falls, and T14 stands unless it turns to 0. -/
theorem heatRefresh_eq (s : State) : ∃ n c, n ≤ s.heat.applied ∧ ((s.heat.applied = 0 ↔ n = 0) → c = s.count .t14)
    ∧ heatRefresh s = (s.setHeat { s.heat with applied := n }).setCount .t14 c := by
  unfold heatRefresh
  split_ifs with h
  · exact ⟨s.effectiveDemand, s.t14After s.effectiveDemand, h.le, t14After_of_same, setApplied_eq _ s⟩
  · exact ⟨s.heat.applied, s.count .t14, le_rfl, fun _ => rfl, (setCount_count s _).symm⟩

theorem applyRelease_eq {d : Side} {s : State} (h : s.inhibited d = false) (hd : s.consist.doors ≠ 0)
    (hs : (s.side d).state = .closed ∨ (s.side d).state = .closing) :
    applyRelease d s = heatRefresh (s.sideActed d { s.side d with state := .released } none) := by
  have hno : ¬(s.inhibited d = true ∨ s.consist.doors = 0) := by
    rw [h]
    simp [hd]
  rw [applyRelease, if_neg hno]
  rcases hs with he | he <;> rw [he] <;> rfl

theorem applyClose_eq {d : Side} {s : State} (hs : (s.side d).state = .released ∨ (s.side d).state = .stuck) :
    applyClose d s = heatRefresh (if (s.side d).proof = .proved then s.sideActed d { s.side d with state := .closed } none
      else s.sideActed d { s.side d with state := .closing } (some (s.setting 10).period)) := by
  unfold applyClose
  rcases hs with he | he <;> rw [he] <;> rfl

/-- Settles O19: the side, its close timer, and the stage that follows. -/
theorem sideCommandsApplied : Obligations.SideCommandsApplied := by
  intro d e s hde kept becomes closed
  have hne : (TimerId.t10 e) ≠ .t10 d := fun h => hde (TimerId.t10.inj h)
  have hact : ∀ (x : DoorState) (v : Option Nat), let t := heatRefresh (s.sideActed d { s.side d with state := x } v)
      kept t ∧ becomes t x v := by
    intro x v t
    let w : State := s.sideActed d { s.side d with state := x } v
    obtain ⟨n, c, hn, hc, ht⟩ := heatRefresh_eq w
    have hside : t.side d = { s.side d with state := x } := by
      rw [show t = _ from ht]
      exact State.side_setSide s d _
    have hother : t.side e = s.side e := by
      rw [show t = _ from ht]
      exact State.side_setSide_ne s hde _
    have hcount : ∀ k : TimerId, k ≠ .t10 d → w.count k = s.count k := fun k hk => State.count_setCount_ne _ hk v
    have hkept : ∀ k : TimerId, k ≠ .t14 → t.count k = w.count k := fun k hk => by
      rw [show t = _ from ht]
      exact State.count_setCount_ne _ hk c
    have h14 : t.count .t14 = c := by
      rw [show t = _ from ht]
      exact State.count_setCount ..
    refine ⟨⟨hother, (hkept _ (by simp)).trans (hcount _ hne), ?_⟩, hside,
      (hkept _ (by simp)).trans (State.count_setCount ..), fun g => ⟨?_, ?_⟩⟩
    · refine ⟨?_, ?_, ?_, ?_, ?_, ?_, ?_, ?_, ?_, ?_, ?_, ?_,
        fun k hk h => (hkept k h).trans (hcount k hk), fun h => ?_, ?_, ?_⟩
      case refine_13 =>
        rw [h14, hc ?_]
        · exact hcount .t14 (by simp)
        · rw [show t = _ from ht] at h
          exact h
      all_goals rw [show t = _ from ht]
      · exact hn
      all_goals rfl
    · rw [State.ownerLevel, hside]
    · rw [State.ownerLevel, hside, show t = _ from ht]
      rfl
  refine ⟨fun h => if_pos h, fun hi hd => ⟨fun hs => ?_, fun hs => ?_⟩, fun hs => ?_, fun hs => ?_⟩
  · rw [applyRelease_eq hi hd hs]
    exact hact .released none
  · have hno : ¬(s.inhibited d = true ∨ s.consist.doors = 0) := by
      rw [hi]
      simp [hd]
    rw [applyRelease, if_neg hno]
    rcases hs with he | he <;> rw [he]
  · rw [applyClose_eq hs]
    by_cases hp : (s.side d).proof = .proved
    · simp only [closed, if_pos hp]
      exact hact .closed none
    · simp only [closed, if_neg hp]
      exact hact .closing _
  · unfold applyClose
    rcases hs with he | he <;> rw [he]

/-! ### The proof of a side (R122, R128, R138) -/

theorem proofTaken_eq (d : Side) (new : Proof) (s : State) :
    let shut : Prop := new = .proved ∧ ((s.side d).state = .closing ∨ (s.side d).state = .stuck)
    proofTaken d new s = s.sideActed d ⟨if shut then .closed else (s.side d).state, new, (s.side d).localInhibit,
      (s.side d).held && new != .proved⟩ (if shut then none else s.count (.t10 d)) := by
  intro shut
  by_cases hsh : shut
  · refine (if_pos hsh).trans ?_
    rw [if_pos hsh, if_pos hsh, enterClosed, setDoorState, State.side_setSide, setSide_setSide]
    rfl
  · refine (if_neg hsh).trans ?_
    rw [if_neg hsh, if_neg hsh]
    exact (setCount_count (s.setSide d _) (.t10 d)).symm

theorem alertDue_iff (s : State) (d : Side) (new : Proof) : s.alertDue d new = true ↔
    (s.side d).proof = .proved ∧ new = .notProved ∧ (s.side d).state = .closed ∧ (s.side d).held = false
      ∧ s.consist.doors ≠ 0 := by
  simp [State.alertDue, and_assoc]

/-- R138: where the alert of a side goes. -/
def State.alertSent (s : State) (d : Side) : State :=
  if s.isMaster = true then deliver (s.alertFrame d 1) (recordFault .doorAlertRaised (.side d) s)
  else if s.consist.position = 0 then recordFault .doorAlertRaised (.side d) s
  else sendFrame s.forwardPort (s.alertFrame d s.consist.position) (recordFault .doorAlertRaised (.side d) s)

theorem deliver_news (f : Frame) (s : State) :
    deliver f s = (s.setRelay (deliver f s).relay).setFaults (deliver f s).faults := by
  unfold deliver
  split_ifs <;> rfl

theorem sendFrame_news (p : Port) (f : Frame) (s : State) :
    sendFrame p f s = (s.setRelay (sendFrame p f s).relay).setFaults (sendFrame p f s).faults := by
  unfold sendFrame enqueue
  split_ifs <;> rfl

/-- R138: an alert reaches the queues and the fault table alone. -/
theorem alertSent_news (d : Side) (s : State) :
    s.alertSent d = (s.setRelay (s.alertSent d).relay).setFaults (s.alertSent d).faults := by
  unfold State.alertSent
  split_ifs
  · exact deliver_news _ (recordFault .doorAlertRaised (.side d) s)
  · rfl
  · exact sendFrame_news _ _ (recordFault .doorAlertRaised (.side d) s)

/-- R138, R140: an alert in a state that a door operation has left. -/
theorem raiseAlert_acted (d : Side) (x : DoorUnit) (y : HeatUnit) (c : Counts) (s : State) :
    let held : DoorUnit := { x with sides := x.sides.set d { x.sides.get d with held := true } }
    raiseAlert d (s.acted x y c) = (s.alertSent d).acted
      (if s.isMaster = true then { held with doorsClosed := false, alert := true } else held) y c := by
  intro held
  have hm : (s.acted x y c).isMaster = s.isMaster := rfl
  have hstep : (recordFault .doorAlertRaised (.side d) (s.acted x y c)).setSide d
      { (recordFault .doorAlertRaised (.side d) (s.acted x y c)).side d with held := true }
      = (recordFault .doorAlertRaised (.side d) s).acted held y c := rfl
  have hrw : raiseAlert d (s.acted x y c) = if s.isMaster = true then
        deliver (s.alertFrame d 1) ((recordFault .doorAlertRaised (.side d) s).acted
          { held with doorsClosed := false, alert := true } y c)
      else if s.consist.position = 0 then (recordFault .doorAlertRaised (.side d) s).acted held y c
      else sendFrame s.forwardPort (s.alertFrame d s.consist.position)
        ((recordFault .doorAlertRaised (.side d) s).acted held y c) := rfl
  rw [hrw, State.alertSent]
  split_ifs
  · exact deliver_acted ..
  · rfl
  · exact sendFrame_acted ..

theorem heatRefresh_sideActed (d : Side) (x : SideRecord) (v : Option Nat) (s : State) : ∃ n c, n ≤ s.heat.applied
    ∧ ((s.heat.applied = 0 ↔ n = 0) → c = s.count .t14)
    ∧ heatRefresh (s.sideActed d x v) = s.acted { s.door with sides := s.door.sides.set d x }
      { s.heat with applied := n } ((s.timers.counts.set (.t10 d) v).set .t14 c) := by
  obtain ⟨n, c, hn, hc, he⟩ := heatRefresh_eq (s.sideActed d x v)
  exact ⟨n, c, hn, fun h => (hc h).trans (State.count_setCount_ne _ (by simp) v), he⟩

/-- Settles O20: the side, the stage that follows, and the alert. -/
theorem proofChangesAct : Obligations.ProofChangesAct := by
  intro d e new s hde due shut t f
  let quiet : SideRecord := ⟨if shut then .closed else (s.side d).state, new, (s.side d).localInhibit,
    (s.side d).held && new != .proved⟩
  let v : Option Nat := if shut then none else s.count (.t10 d)
  obtain ⟨n, c, hn, hc, hw⟩ := heatRefresh_sideActed d quiet v s
  have hdue : s.alertDue d new = true ↔ due := alertDue_iff s d new
  let y : HeatUnit := { s.heat with applied := n }
  let k : Counts := (s.timers.counts.set (.t10 d) v).set .t14 c
  let final : SideRecord := { quiet with held := if due then true else (s.side d).held && decide (new ≠ .proved) }
  let told : State := if due then s.alertSent d else s
  let x : DoorUnit := if due ∧ s.consist.role = .master then
      { s.door with sides := s.door.sides.set d final, doorsClosed := false, alert := true }
    else { s.door with sides := s.door.sides.set d final }
  have hnotice : proofNotice d new s = if s.alertDue d new = true then raiseAlert d (heatRefresh (s.sideActed d quiet v))
      else heatRefresh (s.sideActed d quiet v) := by
    rw [proofNotice_eq, proofTaken_eq]
  have ht : t = told.acted x y k := by
    show proofNotice d new s = _
    rw [hnotice, hw]
    by_cases hd : due
    · rw [if_pos (hdue.mpr hd), raiseAlert_acted]
      have hfinal : final = { quiet with held := true } := by simp only [final, if_pos hd]
      have hsides : ({ s.door with sides := (s.door.sides.set d quiet).set d { (s.door.sides.set d quiet).get d with
          held := true } } : DoorUnit) = { s.door with sides := s.door.sides.set d final } := by
        rw [hfinal]
        cases d <;> rfl
      have htold : told = s.alertSent d := if_pos hd
      rw [htold]
      by_cases hm : s.consist.role = .master
      · rw [if_pos ((isMaster_iff s).mpr hm), show x = _ from if_pos ⟨hd, hm⟩]
        exact congrArg (fun z : DoorUnit => (s.alertSent d).acted { z with doorsClosed := false, alert := true } y k) hsides
      · rw [if_neg (mt (isMaster_iff s).mp hm), show x = _ from if_neg (fun h => hm h.2)]
        exact congrArg (fun z : DoorUnit => (s.alertSent d).acted z y k) hsides
    · have hfinal : final = quiet := by
        simp only [final, if_neg hd, quiet, ne_eq, decide_not]
        rfl
      have htold : told = s := if_neg hd
      have hx : x = { s.door with sides := s.door.sides.set d final } := if_neg fun h => hd h.1
      rw [if_neg (mt hdue.mp hd), htold, hx, hfinal]
  have htold : told = (s.setRelay told.relay).setFaults told.faults := by
    by_cases hd : due
    · rw [show told = s.alertSent d from if_pos hd]
      exact alertSent_news d s
    · rw [show told = s from if_neg hd]
      rfl
  have hsides : x.sides = s.door.sides.set d final := by
    simp only [x]
    split_ifs <;> rfl
  have hne : (TimerId.t10 e) ≠ .t10 d := fun h => hde (TimerId.t10.inj h)
  have hcount : ∀ u, t.count u = k.get u := fun u => by rw [ht]; rfl
  have hkept : ∀ u : TimerId, u ≠ .t10 d → u ≠ .t14 → t.count u = s.count u := fun u hu h14 => by
    rw [hcount]
    exact (State.count_setCount_ne (s.setCount (.t10 d) v) h14 c).trans (State.count_setCount_ne s hu v)
  have hheat : t.heat = y := by rw [ht]; rfl
  have hdoor : t.door = x := by rw [ht]; rfl
  refine ⟨?_, ?_, ?_, hkept _ hne (by simp), ?_, ?_, ?_, ?_, hkept, fun h => ?turned, ?_, ?_, ?_, ?_, ?_, ?_, ?_,
    fun hd => ?unalerted, fun hd => ?alerted, fun hd => ?interlock⟩
  · rw [State.side, hdoor, hsides, PerSide.get_set]
  · rw [hcount]
    exact (Counts.get_set_ne _ (by simp) c).trans (Counts.get_set ..)
  · rw [State.side, hdoor, hsides]
    exact PerSide.get_set_ne _ hde final
  · rw [hheat]
    exact hn
  · rw [hheat]
  case turned =>
    rw [hcount, Counts.get_set, hc]
    rwa [hheat] at h
  case unalerted =>
    rw [ht, show told = s from if_neg hd]
    exact ⟨rfl, rfl⟩
  case alerted =>
    intro u sent
    have hsent : sent = s.alertSent d := by
      simp only [sent, State.alertSent, isMaster_iff]
      rfl
    rw [hdoor, ht, show told = s.alertSent d from if_pos hd, hsent]
    refine ⟨rfl, rfl, fun hm => ?_⟩
    rw [show x = _ from if_pos ⟨hd, hm⟩]
    exact ⟨rfl, rfl⟩
  case interlock =>
    rw [hdoor, show x = _ from if_neg hd]
  all_goals
    rw [ht, htold]
    rfl

end Sys2Proof.Machine
end

section
/-! SUPPORT. The consist unit's frames: what an entry of a consist state leaves, and the roll call. -/

namespace Sys2Proof.Machine

open Sys2Proof

/-! ### A frame sent in a state that shows the same queues (R84) -/

theorem sendFrame_relay_of {s t : State} (hp : t.ports = s.ports) (hr : t.relay = s.relay) (p : Port) (f : Frame) :
    (sendFrame p f t).relay = (sendFrame p f s).relay := by
  have hu : t.isUp p = s.isUp p := isUp_of_ports hp p
  have hroom : t.hasRoom p (bodyLevel f.body) = s.hasRoom p (bodyLevel f.body) := by
    simp only [State.hasRoom, State.queues, hr]
    rfl
  have happ : ∀ l q, (appendQueue p l q t).relay = (appendQueue p l q s).relay := fun l q => by
    simp only [appendQueue, State.setQueues, State.queues, State.setRelay_relay, hr]
  simp only [sendFrame, enqueue, hu, hroom, apply_ite State.relay, happ, recordFault_relay, hr]

theorem sendFrame_faults_of {s t : State} (hp : t.ports = s.ports) (hr : t.relay = s.relay) (hf : t.faults = s.faults)
    (ht : t.timers.timebase = s.timers.timebase) (he : t.consist.epoch = s.consist.epoch) (p : Port) (f : Frame) :
    (sendFrame p f t).faults = (sendFrame p f s).faults := by
  have hu : t.isUp p = s.isUp p := isUp_of_ports hp p
  have hroom : t.hasRoom p (bodyLevel f.body) = s.hasRoom p (bodyLevel f.body) := by
    simp only [State.hasRoom, State.queues, hr]
    rfl
  have happ : ∀ (u : State) l q, (appendQueue p l q u).faults = u.faults := fun u l q => rfl
  have hrec : (recordFault .queueFull (.port p) t).faults = (recordFault .queueFull (.port p) s).faults := by
    simp only [recordFault, State.setFaults_faults, hf, ht, he]
  simp only [sendFrame, enqueue, hu, hroom, apply_ite State.faults, happ, hrec, hf]

/-! ### The heat unit and the sides at an entry (R131, R156, R166, R168) -/

theorem setApplied_le {n : Nat} {s : State} (h : n ≤ s.heat.applied) : (setApplied n s).heat.applied ≤ s.heat.applied := by
  rw [setApplied_heat]
  exact h

theorem heatRefresh_le (s : State) : (heatRefresh s).heat.applied ≤ s.heat.applied := by
  unfold heatRefresh
  split_ifs with h
  · exact setApplied_le h.le
  · exact le_rfl

theorem closeReleased_le (d : Side) (s : State) : (closeReleased d s).heat.applied ≤ s.heat.applied := by
  unfold closeReleased closeSide
  split_ifs
  · exact heatRefresh_le (enterClosed d s)
  · exact heatRefresh_le (enterClosing d s)
  · exact le_rfl

theorem localClose_le (s : State) : (localClose s).heat.applied ≤ s.heat.applied :=
  (closeReleased_le .b _).trans (closeReleased_le .a s)

theorem heatUnsettled_le (s : State) : (heatUnsettled s).heat.applied ≤ s.heat.applied := by
  unfold heatUnsettled enterFallback
  split_ifs
  · exact le_rfl
  · rw [setApplied_heat]
    exact Nat.min_le_left ..

theorem madeReady_le (r : Role) (x : ConsistState) (s : State) : (madeReady r x s).heat.applied ≤ s.heat.applied := by
  unfold madeReady
  dsimp only
  generalize hs1 : (if s.stableMaster = true ∧ ¬(r = .master ∧ x = .stable) then abandonWalks s else s) = s1
  have h1 : s1.heat.applied ≤ s.heat.applied := by
    rw [← hs1]
    split_ifs <;> exact le_rfl
  generalize hs2 : (if x.closesDoors = true then localClose s1 else s1) = s2
  have h2 : s2.heat.applied ≤ s1.heat.applied := by
    rw [← hs2]
    split_ifs
    · exact localClose_le s1
    · exact le_rfl
  split_ifs
  · exact h2.trans h1
  · exact (heatUnsettled_le s2).trans (h2.trans h1)

theorem enterState_heat (r : Role) (x : ConsistState) (s : State) :
    (enterState r x s).heat = (madeReady r x s).heat := by
  rw [enterState_eq]
  rfl

theorem enterState_door_of_open {r : Role} {x : ConsistState} {s : State} (hx : x.closesDoors = false)
    (hm : s.stableMaster = false) : (enterState r x s).door = s.door := by
  rw [enterState_eq, madeReady]
  simp only [hm, hx, Bool.false_eq_true, false_and, if_false, State.setConsist_door]
  split_ifs
  · rfl
  · exact heatUnsettled_door s

/-- R131: no side is left RELEASED. -/
theorem enterState_side {x : ConsistState} (hx : x.closesDoors = true) (r : Role) (d : Side) (s : State) :
    ((enterState r x s).side d).state ≠ .released := by
  rw [enterState_eq]
  exact madeReady_side hx r d s

/-- R166, R168: outside STABLE and SUSPECT the heating is in fallback without a walk record. -/
theorem enterState_unsettled {x : ConsistState} (hx : x.settled = false) (r : Role) (s : State) :
    (enterState r x s).heat.walkRecord = none ∧ (enterState r x s).heat.fallback = true
      ∧ (enterState r x s).heat.applied ≤ s.heat.applied := by
  obtain ⟨hfall, hrec⟩ := madeReady_heat hx r s
  rw [enterState_heat]
  exact ⟨hrec, hfall, madeReady_le r x s⟩

theorem enterBlocked_side (why : BlockedReason) (d : Side) (s : State) :
    ((enterBlocked why s).side d).state ≠ .released := enterState_side rfl _ d _

theorem enterBlocked_heat (why : BlockedReason) (s : State) : (enterBlocked why s).heat.walkRecord = none
    ∧ (enterBlocked why s).heat.fallback = true ∧ (enterBlocked why s).heat.applied ≤ s.heat.applied := by
  obtain ⟨hrec, hfall, hle⟩ := enterState_unsettled (x := .blocked) rfl s.consist.role
    ((stopTimers consistTimers (clearConsist s)).setConsist
      { (stopTimers consistTimers (clearConsist s)).consist with blocked := why })
  exact ⟨hrec, hfall, hle.trans (by simp)⟩

/-! ### ROLL CALL (R49 to R52) -/

theorem exec_rollCall_of_takes {p : Port} {h : Header} {x : RollBody} {s : State} (ht : s.takesFrame p)
    (hf : (⟨inPhase false h, .roll x⟩ : Frame).formOk = true) :
    exec (.rollCall p h x) s = .next (takeRollCall p (inPhase false h) x (s.afterFrame p)) :=
  congrArg Host.Outcome.next (frameArrives_of_takesFrame ht hf)

theorem afterFrame_link (p q : Port) (s : State) : ((s.afterFrame p).port q).link = (s.port q).link := by
  cases p <;> cases q <;> rfl

section JoinAttempt

variable (j : Joined) (s : State)

theorem joinAttempt_consist : (joinAttempt j s).consist
    = { s.consist with role := .member, state := .inaugurating, joined := some j, blocked := .none } := by
  simp [joinAttempt]

theorem sameClock_joinAttempt : s.SameClock (joinAttempt j s) := by
  let s1 : State := s.setConsist { s.consist with joined := some j, blocked := .none }
  have h1 : s.SameClock (stopTimers [.t6, .t9] s1) :=
    State.SameClock.trans (.of_timers rfl) (sameClock_stopTimers [.t6, .t9] s1)
  exact (h1.trans (sameClock_enterState ..)).trans (sameClock_startTimer .t5 _)

theorem count_joinAttempt_t5 : (joinAttempt j s).count .t5 = some (s.period .t5) := by
  rw [← (sameClock_joinAttempt j s).period]
  exact count_startTimer .t5 _

theorem count_joinAttempt_stopped {u : TimerId} (hu : u = .t6 ∨ u = .t9) : (joinAttempt j s).count u = none := by
  have hm : u ∈ [TimerId.t6, .t9] := by simpa using hu
  have ha : u.apart = true := by rcases hu with rfl | rfl <;> rfl
  have h5 : u ≠ .t5 := by rcases hu with rfl | rfl <;> simp
  rw [joinAttempt, count_startTimer_ne h5, count_enterState ha]
  exact count_stopTimers_mem hm _

theorem joinAttempt_heat : (joinAttempt j s).heat.walkRecord = none ∧ (joinAttempt j s).heat.fallback = true
    ∧ (joinAttempt j s).heat.applied ≤ s.heat.applied := by
  let s1 : State := stopTimers [.t6, .t9] (s.setConsist { s.consist with joined := some j, blocked := .none })
  have hh : (joinAttempt j s).heat = (madeReady .member .inaugurating s1).heat := enterState_heat ..
  obtain ⟨hfall, hrec⟩ := madeReady_heat (x := .inaugurating) rfl .member s1
  rw [hh]
  exact ⟨hrec, hfall, (madeReady_le .member .inaugurating s1).trans (by simp [s1])⟩

theorem joinAttempt_door (hm : s.consist.role = .member) : (joinAttempt j s).door = s.door := by
  let s1 : State := stopTimers [.t6, .t9] (s.setConsist { s.consist with joined := some j, blocked := .none })
  have hs1 : s1.stableMaster = false := stableMaster_of_member (by simp [s1, hm])
  have hd : (joinAttempt j s).door = (enterState .member .inaugurating s1).door := rfl
  rw [hd, enterState_door_of_open rfl hs1]
  simp [s1]

@[simp] theorem joinAttempt_ports : (joinAttempt j s).ports = s.ports := by simp [joinAttempt]

@[simp] theorem joinAttempt_relay : (joinAttempt j s).relay = s.relay := by simp [joinAttempt]

@[simp] theorem joinAttempt_faults : (joinAttempt j s).faults = s.faults := by simp [joinAttempt]

@[simp] theorem joinAttempt_lines : (joinAttempt j s).lines = s.lines := by simp [joinAttempt]

@[simp] theorem joinAttempt_bypass : (joinAttempt j s).bypass = s.bypass := by simp [joinAttempt]

@[simp] theorem joinAttempt_mgmt : (joinAttempt j s).mgmt = s.mgmt := by simp [joinAttempt]

@[simp] theorem joinAttempt_identity : (joinAttempt j s).identity = s.identity := by simp [joinAttempt]

end JoinAttempt

/-- Settles O30: the roll turned back at a master or a full list, or the member that joins. -/
theorem rollCallTaken : Obligations.RollCallTaken := by
  intro p h x s ht hf u o far m own longer full n
  rw [exec_rollCall_of_takes ht hf]
  have ho : orientationBy p = o := by cases p <;> rfl
  have hfar : (u.port p.other).link.farPort = far := by
    rw [show (u.port p.other).link = (s.port p.other).link from afterFrame_link ..]
    simp only [far]
    cases (s.port p.other).link <;> rfl
  have hmd : s.isMaster = decide m := by
    rw [← Bool.coe_iff_coe, isMaster_iff, decide_eq_true_iff]
  have hown : u.ownEntry (orientationBy p) p.other = own := by
    have hcab : u.isMaster = decide m := hmd
    have hid : u.identity = s.identity := rfl
    have hc : u.cab = s.cab := rfl
    simp only [State.ownEntry, ho, hfar, hcab, hid, hc, own, decide_not]
    rfl
  have happ : u.appended p x = { x with entries := x.entries ++ [own] } := by
    rw [State.appended, hown]
  have hmember : ¬m → ¬u.isMaster = true := fun hm => by
    rw [show u.isMaster = decide m from hmd, decide_eq_true_iff]
    exact hm
  refine ⟨fun hm => ?_, fun hm hn => ?_, fun hm hn => ?_⟩
  · refine congrArg Host.Outcome.next ((if_pos (hmd.trans (decide_eq_true hm))).trans ?_)
    show (if x.master = s.identity then recordFault .rollMismatch (.port p) u
      else if n < 32 then sendFrame p ⟨inPhase true h, .roll (u.appended p x)⟩ u
      else sendFrame p ⟨inPhase true h, full⟩ u) = _
    rw [happ]
    split_ifs <;> rfl
  · exact congrArg Host.Outcome.next ((if_neg (hmember hm)).trans (if_neg (Nat.not_lt.mpr hn)))
  · intro sent
    have hrole : s.consist.role = .member := (isMaster_eq_false_iff s).mp (by rw [hmd]; exact decide_eq_false hm)
    let j : Joined := joinedBy p (inPhase false h) x
    let v : State := joinAttempt j u
    let t : State := if v.isUp p.other = true then sendFrame p.other ⟨inPhase false h, .roll (u.appended p x)⟩ v
      else sendFrame p ⟨inPhase true h, .roll (u.appended p x)⟩ v
    have hports : v.ports = u.ports := joinAttempt_ports ..
    have hrelay : v.relay = u.relay := joinAttempt_relay ..
    have hfaults : v.faults = u.faults := joinAttempt_faults ..
    have hclock : v.timers.timebase = u.timers.timebase := (sameClock_joinAttempt j u).1
    have hconsist := joinAttempt_consist j u
    have hepoch : v.consist.epoch = u.consist.epoch := by rw [show v.consist = _ from hconsist]
    have hup : v.isUp p.other = s.isUp p.other := (isUp_of_ports hports _).trans (afterFrame_isUp ..)
    obtain ⟨hrec, hfall, happlied⟩ := joinAttempt_heat j u
    obtain ⟨q, f, htq, hsent⟩ : ∃ q f, t = sendFrame q f v ∧ sent = sendFrame q f u := by
      by_cases hu : s.isUp p.other = true
      · refine ⟨p.other, _, if_pos (hup.trans hu), (if_pos hu).trans ?_⟩
        rw [happ]
      · refine ⟨p, _, if_neg (by rw [hup]; exact hu), (if_neg hu).trans ?_⟩
        rw [happ]
    refine ⟨t, congrArg Host.Outcome.next ((if_neg (hmember hm)).trans (if_pos hn)), ?_⟩
    rw [htq, hsent]
    refine ⟨?_, ?_, ?_, ?_, sendFrame_relay_of hports hrelay q f,
      sendFrame_faults_of hports hrelay hfaults hclock hepoch q f, ?_, ?_, ?_, ?_, ?_, ?_, ?_, ?_, ?_⟩
    · rw [sendFrame_consist]
      refine hconsist.trans ?_
      rw [← hrole, show j = _ from congrArg (Joined.mk h.epoch x.master h.tag (n + 1)) ho]
      rfl
    · rw [count_sendFrame]
      exact count_joinAttempt_t5 j u
    · rw [count_sendFrame]
      exact count_joinAttempt_stopped j u (.inl rfl)
    · rw [count_sendFrame]
      exact count_joinAttempt_stopped j u (.inr rfl)
    · rw [sendFrame_ports, hports]
    · rw [sendFrame_door]
      exact joinAttempt_door j u hrole
    · rw [sendFrame_heat]
      exact hrec
    · rw [sendFrame_heat]
      exact hfall
    · rw [sendFrame_heat]
      exact happlied
    all_goals simp [v, u]

end Sys2Proof.Machine
end

section
/-! SUPPORT. The consist unit's frames: the returned roll, and the confirmation. -/

namespace Sys2Proof.Machine

open Sys2Proof

/-! ### ROLL BACK (R53 to R55) -/

theorem exec_rollBack_of_takes {p : Port} {h : Header} {x : RollBody} {s : State} (ht : s.takesFrame p)
    (hf : (⟨inPhase true h, .roll x⟩ : Frame).formOk = true) :
    exec (.rollBack p h x) s = .next (takeRollBack p (inPhase true h) x (s.afterFrame p)) :=
  congrArg Host.Outcome.next (frameArrives_of_takesFrame ht hf)

theorem entryAt_eq_some {l : List Entry} {k : Nat} {e : Entry} :
    entryAt l k = some e ↔ k ≠ 0 ∧ l[k - 1]? = some e := by
  unfold entryAt
  split_ifs with h <;> simp [h]

theorem le_length_of_entryAt {l : List Entry} {k : Nat} {e : Entry} (h : entryAt l k = some e) : k ≤ l.length := by
  obtain ⟨-, he⟩ := entryAt_eq_some.mp h
  have := (List.getElem?_eq_some_iff.mp he).1
  omega

theorem namesAt_iff (l : List Entry) (k : Nat) (i : Identity) :
    namesAt l k i = true ↔ k ≠ 0 ∧ ∃ e, l[k - 1]? = some e ∧ e.identity = i := by
  have hx : (∃ e, entryAt l k = some e ∧ e.identity = i) ↔ k ≠ 0 ∧ ∃ e, l[k - 1]? = some e ∧ e.identity = i := by
    simp only [entryAt_eq_some]
    tauto
  rw [← hx, namesAt]
  cases entryAt l k with
  | none => simp
  | some e => simp

theorem backMatches_iff (s : State) (p : Port) (h : Header) (x : RollBody) (j : Joined) :
    s.backMatches p h x j = true ↔ h.epoch = j.epoch ∧ x.master = j.master ∧ h.tag = j.attempt
      ∧ p = (forwardOf j.orientation).other ∧ j.position ≠ 0
      ∧ ∃ e, x.entries[j.position - 1]? = some e ∧ e.identity = s.identity := by
  have hlen : (∃ e, x.entries[j.position - 1]? = some e ∧ e.identity = s.identity) → j.position ≠ 0 →
      j.position ≤ x.entries.length := fun ⟨e, he, _⟩ h0 => by
    have := (List.getElem?_eq_some_iff.mp he).1
    omega
  simp only [State.backMatches, Bool.and_eq_true, beq_iff_eq, decide_eq_true_eq, namesAt_iff, rearwardOf]
  constructor
  · rintro ⟨⟨⟨⟨⟨h1, h2⟩, h3⟩, h4⟩, -⟩, h5, h6⟩
    exact ⟨h1, h2, h3, h4, h5, h6⟩
  · rintro ⟨h1, h2, h3, h4, h5, h6⟩
    exact ⟨⟨⟨⟨⟨h1, h2⟩, h3⟩, h4⟩, hlen h6 h5⟩, h5, h6⟩

/-- R45: in an attempt the rearward port is that of its record. -/
theorem rearwardPort_of_attempt {s : State} {a : Attempt} (hr : s.consist.role = .master)
    (hs : s.consist.state = .calling ∨ s.consist.state = .confirming) (ha : s.consist.attempt = some a) :
    s.rearwardPort = (forwardOf a.orientation).other := by
  rw [State.rearwardPort, State.direction, if_pos ⟨hr, hs⟩, ha]
  rfl

theorem callReturned_iff {s : State} {a : Attempt} (hr : s.consist.role = .master) (ha : s.consist.attempt = some a)
    (p : Port) (h : Header) (x : RollBody) : s.callReturned p h x a = true ↔
      s.consist.state = .calling ∧ p = (forwardOf a.orientation).other ∧ h.epoch = a.epoch
        ∧ x.master = s.identity ∧ h.tag = a.attempt ∧ x.entries[0]? = some a.own := by
  by_cases hs : s.consist.state = .calling
  · have hp := rearwardPort_of_attempt hr (.inl hs) ha
    simp only [State.callReturned, Bool.and_eq_true, beq_iff_eq, hp, and_assoc, entryAt, Nat.one_ne_zero, if_false,
      Nat.sub_self]
  · simp [State.callReturned, hs]

theorem rollResult_eq (x : RollBody) : rollResult x =
    if x.overflow = true then .overlong
    else if ∃ e ∈ x.entries.drop 1, e.cabActive = true ∨ e.cabMid = true then .conflict
    else if ¬(x.entries.map Entry.identity).Nodup then .duplicate
    else .ok := by
  unfold rollResult
  simp only [ite_not, List.drop_one, List.any_eq_true, Bool.or_eq_true]

/-- Settles O31: the relay at a member, and the list the calling master takes. -/
theorem rollBackTaken : Obligations.RollBackTaken := by
  intro p h x s ht hf u wrong names
  rw [exec_rollBack_of_takes ht hf]
  have hmas : s.consist.role = .master → u.isMaster = true := (isMaster_iff u).mpr
  have hmem : s.consist.role = .member → ¬u.isMaster = true := fun hr hm => by
    have hx : s.consist.role = .master := (isMaster_iff u).mp hm
    rw [hr] at hx
    cases hx
  refine ⟨fun hr => ⟨fun j hj hmatch => ?_, fun hno => ?_⟩, fun hr ha => ?_, fun hr a ha => ?_⟩
  · refine congrArg Host.Outcome.next ((if_neg (hmem hr)).trans ?_)
    have hju : u.consist.joined = some j := hj
    rw [hju]
    exact if_pos ((backMatches_iff u p _ x j).mpr hmatch)
  · refine congrArg Host.Outcome.next ((if_neg (hmem hr)).trans ?_)
    cases hj : s.consist.joined with
    | none =>
      have hju : u.consist.joined = none := hj
      rw [hju]
      rfl
    | some j =>
      have hju : u.consist.joined = some j := hj
      rw [hju]
      exact if_neg (mt (backMatches_iff u p _ x j).mp (hno j hj))
  · refine congrArg Host.Outcome.next ((if_pos (hmas hr)).trans ?_)
    have hau : u.consist.attempt = none := ha
    rw [hau]
    rfl
  · intro mine
    have hau : u.consist.attempt = some a := ha
    have hiff : u.callReturned p (inPhase true h) x a = true ↔ mine := callReturned_iff (s := u) hr ha p _ x
    refine ⟨fun hno => congrArg Host.Outcome.next ((if_pos (hmas hr)).trans ?_), fun hm => ?_⟩
    · rw [hau]
      exact if_neg (mt hiff.mp hno)
    · intro result sent
      have hres : rollResult x = result := rollResult_eq x
      let s1 : State := stopTimer .t3 (u.setConsist { s.consist with attempt := some { a with returned := x.entries } })
      let f : Frame := ⟨attemptHeader a.epoch a.attempt, .confirmOut ⟨result, s.identity, x.entries⟩⟩
      have hport : s1.rearwardPort = p := by
        rw [rearwardPort_of_attempt (s := s1) (a := { a with returned := x.entries }) hr (.inl hm.1) rfl]
        exact hm.2.1.symm
      let s2 : State := sendFrame p f s1
      have hacc : acceptBack a x u = if result = .ok then startTimer .t4 (enterState .master .confirming s2)
          else enterBlocked (blockReason result) s2 := by
        show (if rollResult x = .ok then startTimer .t4 (enterState .master .confirming
            (sendFrame s1.rearwardPort ⟨attemptHeader a.epoch a.attempt, .confirmOut ⟨rollResult x, s.identity, x.entries⟩⟩ s1))
          else enterBlocked (blockReason (rollResult x)) (sendFrame s1.rearwardPort ⟨attemptHeader a.epoch a.attempt,
            .confirmOut ⟨rollResult x, s.identity, x.entries⟩⟩ s1)) = _
        rw [hres, hport]
      have hgo : takeRollBack p (inPhase true h) x u = acceptBack a x u := by
        refine (if_pos (hmas hr)).trans ?_
        rw [hau]
        exact if_pos (hiff.mpr hm)
      refine ⟨_, rfl, ?_⟩
      rw [hgo, hacc]
      have hrel : s2.relay = sent.relay := sendFrame_relay_of (s := u) (t := s1) rfl rfl p f
      have hflt : s2.faults = sent.faults := sendFrame_faults_of (s := u) (t := s1) rfl rfl rfl rfl rfl p f
      have hc2 : s2.consist = { s.consist with attempt := some { a with returned := x.entries } } := sendFrame_consist ..
      have hd2 : s2.door = s.door := sendFrame_door ..
      have h3 : s2.count .t3 = none := (count_sendFrame ..).trans (count_stopTimer ..)
      by_cases hok : result = .ok
      · have hsm : s2.stableMaster = false := by
          simp only [State.stableMaster, hc2, hm.1]
          exact Bool.and_false _
        rw [if_pos hok]
        refine ⟨by simpa using hrel, by simpa using hflt, by simp [s2, s1], ?_, by simp [s2, s1, u], by simp [s2, s1, u],
          by simp [s2, s1, u], fun _ => ⟨?_, ?_, ?_⟩, fun hne => absurd hok hne⟩
        · rw [count_startTimer_ne (by simp), count_enterState rfl]
          exact h3
        · rw [startTimer_consist, enterState_consist, hc2, ← hr]
        · rw [count_startTimer, (sameClock_enterState ..).period]
          have hper : s2.period .t4 = s1.period .t4 := (State.SameClock.of_timers (sendFrame_timers ..)).period .t4
          rw [hper]
          rfl
        · rw [startTimer_door, enterState_door_of_open rfl hsm, hd2]
      · rw [if_neg hok]
        refine ⟨by simpa using hrel, by simpa using hflt, by simp [s2, s1], ?_, by simp [s2, s1, u], by simp [s2, s1, u],
          by simp [s2, s1, u], fun hx => absurd hx hok, fun _ => ⟨?_, fun k hk => count_enterBlocked_none hk _ _, fun d => ?_⟩⟩
        · exact count_enterBlocked_none (by decide) _ _
        · rw [enterBlocked_consist, hc2]
        · exact enterBlocked_side _ d _

/-! ### CONFIRM OUT (R56 to R59) -/

theorem exec_confirmOut_of_takes {p : Port} {h : Header} {x : ConfirmBody} {s : State} (ht : s.takesFrame p)
    (hf : (⟨inPhase false h, .confirmOut x⟩ : Frame).formOk = true) :
    exec (.confirmOut p h x) s = .next (takeConfirmOut p (inPhase false h) x (s.afterFrame p)) :=
  congrArg Host.Outcome.next (frameArrives_of_takesFrame ht hf)

theorem confirmMatches_iff (s : State) (p : Port) (h : Header) (x : ConfirmBody) (j : Joined) :
    s.confirmMatches p h x j = true ↔ h.epoch = j.epoch ∧ x.master = j.master ∧ h.tag = j.attempt
      ∧ p = forwardOf j.orientation ∧ j.position ≠ 0
      ∧ ∃ e, x.entries[j.position - 1]? = some e ∧ e.identity = s.identity ∧ e.orientation = j.orientation := by
  have hx : (∃ e, entryAt x.entries j.position = some e ∧ e.identity = s.identity ∧ e.orientation = j.orientation)
      ↔ j.position ≠ 0
        ∧ ∃ e, x.entries[j.position - 1]? = some e ∧ e.identity = s.identity ∧ e.orientation = j.orientation := by
    simp only [entryAt_eq_some]
    tauto
  rw [← hx, State.confirmMatches]
  simp only [Bool.and_eq_true, beq_iff_eq, decide_eq_true_eq]
  cases he : entryAt x.entries j.position with
  | none => simp
  | some e =>
    have hle := le_length_of_entryAt he
    simp only [Bool.and_eq_true, beq_iff_eq, Option.some.injEq, exists_eq_left']
    tauto

/-- R56: the state of a member that has installed the consist of its pending record. -/
theorem installMember_eq {j : Joined} {l : List Entry} {s : State} (hr : s.consist.role = .member) :
    installMember j l s = ((((clearConsistGroups s).setConsist { s.consist with
      state := .stable, table := l, epoch := j.epoch, position := j.position, orientation := j.orientation
      joined := none, blocked := .none }).setCount .t5 none).setCount .t9 (some (s.period .t9))) := by
  let s1 : State := s.setConsist { s.consist with
    table := l, epoch := j.epoch, position := j.position, orientation := j.orientation, joined := none, blocked := .none }
  have hm : (startTimer .t9 (stopTimer .t5 s1)).stableMaster = false := stableMaster_of_member hr
  show clearConsistGroups (enterState .member .stable (startTimer .t9 (stopTimer .t5 s1))) = _
  rw [enterState_of_settled rfl (.inl hm), ← hr]
  rfl

theorem sendFrame_slots_length (p : Port) (f : Frame) (s : State) :
    (sendFrame p f s).faults.slots.length = s.faults.slots.length := by
  rcases enqueue_cases p (bodyLevel f.body) (plain f) s with ⟨-, he⟩ | ⟨-, -, he⟩ | ⟨-, -, he⟩ <;> rw [sendFrame, he]
  · rfl
  · exact length_record_slots ..

theorem sendFrame_faults_of_room {p : Port} {f : Frame} {s : State}
    (h : s.isUp p = false ∨ s.hasRoom p (bodyLevel f.body) = true) : (sendFrame p f s).faults = s.faults := by
  rcases enqueue_cases p (bodyLevel f.body) (plain f) s with ⟨-, he⟩ | ⟨-, -, he⟩ | ⟨hup, hfull, -⟩
  · rw [sendFrame, he]
  · rw [sendFrame, he]
    rfl
  · rw [hup, hfull] at h
    simp at h

/-- Settles O32: the consist installed, the refusal passed on, or the frame of no attempt of this node. -/
theorem confirmOutTaken : Obligations.ConfirmOutTaken := by
  intro p h x s ht hf u f wrong blockedBy matched
  rw [exec_confirmOut_of_takes ht hf]
  have hmas : s.consist.role = .master → u.isMaster = true := (isMaster_iff u).mpr
  have hmem : s.consist.role = .member → ¬u.isMaster = true := fun hr hm => by
    have hx : s.consist.role = .master := (isMaster_iff u).mp hm
    rw [hr] at hx
    cases hx
  let b : State := enterBlocked (blockReason x.result) u
  have hblocked : ∀ t : State, t.consist = b.consist → t.timers = b.timers → t.door = b.door → t.heat = b.heat →
      t.ports = u.ports → t.lines = s.lines → t.bypass = s.bypass → t.mgmt = s.mgmt → blockedBy t := by
    intro t hc hti hd hh hp hl hb hm
    obtain ⟨hrec, hfall, hle⟩ := enterBlocked_heat (blockReason x.result) u
    refine ⟨?_, fun k hk => ?_, fun d => ?_, hp, ?_, ?_, ?_, hl, hb, hm⟩
    · rw [hc]
      exact enterBlocked_consist ..
    · rw [count_of_timers hti]
      exact count_enterBlocked_none hk _ _
    · rw [State.side, hd]
      exact enterBlocked_side _ d _
    all_goals rw [hh]
    · exact hrec
    · exact hfall
    · exact hle
  refine ⟨fun hr => ⟨fun hres hid => ?_, fun hno => ?_⟩, fun hr => ⟨fun hres => ?_, fun hok j => ?_⟩⟩
  · refine ⟨b, congrArg Host.Outcome.next ((if_pos (hmas hr)).trans (if_pos ⟨hres, hid⟩)), ?_, ?_, ?_⟩
    · refine hblocked b rfl rfl rfl rfl ?_ ?_ ?_ ?_ <;> simp [b, u]
    · simp [b, u]
    · simp [b, u]
  · exact congrArg Host.Outcome.next ((if_pos (hmas hr)).trans (if_neg fun ⟨h1, h2⟩ => hno.elim h1 h2))
  · let t : State := sendFrame p.other f b
    refine ⟨t, congrArg Host.Outcome.next ((if_neg (hmem hr)).trans (if_neg hres)), ?_, ?_, ?_, ?_⟩
    · refine hblocked t (sendFrame_consist ..) (sendFrame_timers ..) (sendFrame_door ..) (sendFrame_heat ..) ?_ ?_ ?_ ?_
        <;> simp [t, b, u]
    · exact sendFrame_relay_of (enterBlocked_ports ..) (enterBlocked_relay ..) _ f
    · exact (sendFrame_slots_length ..).trans (congrArg (fun z : FaultTable => z.slots.length) (enterBlocked_faults ..))
    · intro hroom
      have hb : b.isUp p.other = false ∨ b.hasRoom p.other .control = true := by
        have hup : b.isUp p.other = s.isUp p.other := (isUp_of_ports (enterBlocked_ports ..) _).trans (afterFrame_isUp ..)
        have hrel : b.relay = s.relay := enterBlocked_relay ..
        have hr : b.hasRoom p.other .control = s.hasRoom p.other .control := by
          simp only [State.hasRoom, State.queues, hrel]
          rfl
        rwa [hup, hr]
      exact (sendFrame_faults_of_room hb).trans (enterBlocked_faults ..)
  · have hgo : takeConfirmOut p (inPhase false h) x u = match (generalizing := false) u.consist.joined with
        | some j => if u.confirmMatches p (inPhase false h) x j then
            passConfirm (inPhase false h) x (installMember j x.entries u) else mismatch p u
        | none => mismatch p u := (if_neg (hmem hr)).trans (if_pos hok)
    rw [hgo]
    refine ⟨fun hno hj => ?_, fun hj => ?_, fun ⟨hj, hm⟩ => ?_⟩
    · rw [show u.consist.joined = some j from hj]
      exact congrArg Host.Outcome.next (if_neg fun hc => hno ⟨hj, (confirmMatches_iff u p _ x j).mp hc⟩)
    · rw [show u.consist.joined = none from hj]
      rfl
    · intro rear groups sent
      let v : State := installMember j x.entries u
      have hv : v = _ := installMember_eq (j := j) (l := x.entries) (s := u) hr
      have hport : p = forwardOf j.orientation := hm.2.2.2.1
      have hvr : v.consist.role = .member := by rw [hv]; exact hr
      have hdir : v.direction = j.orientation := by
        rw [State.direction, if_neg (fun hx => by rw [hvr] at hx; cases hx.1), hv]
        rfl
      have hup : v.isUp rear = s.isUp rear := by
        rw [← afterFrame_isUp p rear s, hv]
        rfl
      have hpos : v.consist.position = j.position := by rw [hv]; rfl
      have hdone : v.doneFrame h.tag x.master
          = ⟨⟨true, ⟨.all, 0⟩, false, j.epoch, j.position, h.tag⟩, .confirmDone x.master⟩ := by
        rw [hv]
        rfl
      let t : State := passConfirm (inPhase false h) x v
      have ht : t = if s.isUp rear = true then sendFrame rear f v
          else if j.position = x.entries.length then
            sendFrame p ⟨⟨true, ⟨.all, 0⟩, false, j.epoch, j.position, h.tag⟩, .confirmDone x.master⟩ v
          else v := by
        show (if v.isUp (rearwardOf v.direction) = true then sendFrame (rearwardOf v.direction) f v
          else if v.consist.position = x.entries.length then
            sendFrame (forwardOf v.direction) (v.doneFrame h.tag x.master) v else v) = _
        rw [hdir, hpos, hdone, ← hport, ← hup]
        rfl
      have hju : u.consist.joined = some j := hj
      have hmatch : u.confirmMatches p (inPhase false h) x j = true := (confirmMatches_iff u p _ x j).mpr hm
      refine ⟨t, ?_, ?_⟩
      · rw [hju]
        exact congrArg Host.Outcome.next (if_pos hmatch)
      have hpair : t = v ∧ sent = groups ∨ ∃ q g, t = sendFrame q g v ∧ sent = sendFrame q g groups := by
        rw [ht]
        by_cases h1 : s.isUp rear = true
        · exact .inr ⟨rear, f, if_pos h1, if_pos h1⟩
        · by_cases h2 : j.position = x.entries.length
          · exact .inr ⟨p, _, (if_neg h1).trans (if_pos h2), (if_neg h1).trans (if_pos h2)⟩
          · exact .inl ⟨(if_neg h1).trans (if_neg h2), (if_neg h1).trans (if_neg h2)⟩
      have hkeep : t.consist = v.consist ∧ t.timers = v.timers ∧ t.ports = v.ports ∧ t.door = v.door ∧ t.heat = v.heat
          ∧ t.lines = v.lines ∧ t.bypass = v.bypass ∧ t.mgmt = v.mgmt := by
        rcases hpair with ⟨he, -⟩ | ⟨q, g, he, -⟩ <;> rw [he] <;> simp
      have hrel : t.relay = sent.relay := by
        rcases hpair with ⟨he, hs⟩ | ⟨q, g, he, hs⟩ <;> rw [he, hs]
        · rw [hv]
          rfl
        · exact sendFrame_relay_of (by rw [hv]; rfl) (by rw [hv]; rfl) q g
      obtain ⟨h1, h2, h3, h4, h5, h6, h7, h8⟩ := hkeep
      refine ⟨?_, ?_, ?_, hrel, ?_, ?_, ?_, ?_, ?_, ?_⟩
      · rw [h1, hv]
        rfl
      · rw [count_of_timers h2, hv]
        exact (State.count_setCount_ne _ (by simp) _).trans (State.count_setCount ..)
      · rw [count_of_timers h2, hv]
        exact State.count_setCount ..
      · rw [h3, hv]; rfl
      · rw [h4, hv]; rfl
      · rw [h5, hv]; rfl
      · rw [h6, hv]; rfl
      · rw [h7, hv]; rfl
      · rw [h8, hv]; rfl

end Sys2Proof.Machine
end

section
/-! SUPPORT. The end of an inauguration and its triggers. -/

namespace Sys2Proof.Machine

open Sys2Proof

/-! ### The first walks where a port is UP (R141, R157) -/

theorem count_outboundStep {u : TimerId} (h13 : u ≠ .t13) (h14 : u ≠ .t14) (walk : Nat) (x : HeatBody) (s : State) :
    (outboundStep walk x s).count u = s.count u := by
  rw [outboundStep_eq]
  refine (State.count_setCount_ne _ h13 _).trans ?_
  rw [count_setHeat, count_setApplied h14]
  split_ifs
  · exact count_recordFault ..
  · rfl

/-- What a walk that a port takes leaves as it was. -/
structure State.SameUnits (s t : State) : Prop where
  consist : t.consist = s.consist
  ports : t.ports = s.ports
  lines : t.lines = s.lines
  bypass : t.bypass = s.bypass
  mgmt : t.mgmt = s.mgmt
  relay : t.relay = { s.relay with queues := t.relay.queues }
  clock : s.SameClock t

namespace State.SameUnits

theorem trans {s t u : State} (h : s.SameUnits t) (k : t.SameUnits u) : s.SameUnits u where
  consist := k.consist.trans h.consist
  ports := k.ports.trans h.ports
  lines := k.lines.trans h.lines
  bypass := k.bypass.trans h.bypass
  mgmt := k.mgmt.trans h.mgmt
  relay := by rw [k.relay, h.relay]
  clock := h.clock.trans k.clock

theorem startTimer (u : TimerId) (s : State) : s.SameUnits (startTimer u s) :=
  ⟨rfl, rfl, rfl, rfl, rfl, rfl, sameClock_startTimer u s⟩

theorem sendFrame (p : Port) (f : Frame) (s : State) : s.SameUnits (sendFrame p f s) where
  consist := sendFrame_consist ..
  ports := sendFrame_ports ..
  lines := sendFrame_lines ..
  bypass := sendFrame_bypass ..
  mgmt := sendFrame_mgmt ..
  relay := sendFrame_relay ..
  clock := .of_timers (sendFrame_timers ..)

theorem outboundStep (walk : Nat) (x : HeatBody) (s : State) : s.SameUnits (outboundStep walk x s) where
  consist := outboundStep_consist ..
  ports := outboundStep_ports ..
  lines := outboundStep_lines ..
  bypass := outboundStep_bypass ..
  mgmt := outboundStep_mgmt ..
  relay := by rw [outboundStep_relay]
  clock := sameClock_outboundStep ..

end State.SameUnits

section SentWalks

variable {s : State} (hup : s.upPorts ≠ [])

include hup

theorem sameUnits_startSummaryWalk : s.SameUnits (startSummaryWalk s) := by
  rw [startSummaryWalk_sent hup]
  have hn : s.SameUnits s.summaryNumbered := ⟨rfl, rfl, rfl, rfl, rfl, rfl, ⟨rfl, rfl⟩⟩
  exact hn.trans (.sendFrame ..)

theorem startSummaryWalk_sent_door : (startSummaryWalk s).door
    = { s.door with walk := next256 s.door.walk, outstanding := some (next256 s.door.walk), alert := false } := by
  rw [startSummaryWalk_sent hup, sendFrame_door]
  rfl

theorem startSummaryWalk_sent_heat : (startSummaryWalk s).heat = s.heat := by
  rw [startSummaryWalk_sent hup, sendFrame_heat]
  rfl

theorem count_startSummaryWalk {u : TimerId} (h8 : u ≠ .t8) : (startSummaryWalk s).count u = s.count u := by
  rw [startSummaryWalk_sent hup, count_sendFrame]
  exact count_startTimer_ne h8 (numberSummaryWalk s)

theorem sameUnits_startHeatWalk : s.SameUnits (startHeatWalk s) := by
  rw [startHeatWalk_sent hup]
  have hnum : s.SameUnits (numberHeatWalk s) := ⟨rfl, rfl, rfl, rfl, rfl, rfl, ⟨rfl, rfl⟩⟩
  have hn : s.SameUnits s.heatStepped := hnum.trans (.outboundStep ..)
  have ht : s.heatStepped.SameUnits (s.heatStepped.setCount .t12 (some (s.period .t12))) :=
    ⟨rfl, rfl, rfl, rfl, rfl, rfl, ⟨rfl, rfl⟩⟩
  exact (hn.trans ht).trans (.sendFrame ..)

theorem startHeatWalk_sent_door : (startHeatWalk s).door = s.door := by
  rw [startHeatWalk_sent hup, sendFrame_door]
  exact outboundStep_door ..

theorem startHeatWalk_sent_outstanding : (startHeatWalk s).heat.outstanding = some (next256 s.heat.walk) := by
  rw [startHeatWalk_sent hup, sendFrame_heat, State.setCount_heat, State.heatStepped, outboundStep_heat]
  rfl

theorem count_startHeatWalk {u : TimerId} (h12 : u ≠ .t12) (h13 : u ≠ .t13) (h14 : u ≠ .t14) :
    (startHeatWalk s).count u = s.count u := by
  rw [startHeatWalk_sent hup, count_sendFrame, State.count_setCount_ne _ h12]
  exact count_outboundStep h13 h14 _ _ _

/-- R141, R157: a master with an UP port that has entered STABLE has both its walks on their way. -/
theorem startWalks_of_stable (hm : s.stableMaster = true) : ∃ a, s.SameUnits a ∧ a.upPorts ≠ []
    ∧ startWalks s = startHeatWalk a
    ∧ a.door = { s.door with walk := next256 s.door.walk, outstanding := some (next256 s.door.walk), alert := false }
    ∧ a.heat = s.heat ∧ a.count .t7 = some (s.period .t7) ∧ a.count .t11 = some (s.period .t11)
    ∧ ∀ u, u ≠ .t7 → u ≠ .t8 → u ≠ .t11 → a.count u = s.count u := by
  have hup7 : (startTimer .t7 s).upPorts ≠ [] := hup
  let b : State := startSummaryWalk (startTimer .t7 s)
  have hb : s.SameUnits b := (State.SameUnits.startTimer .t7 s).trans (sameUnits_startSummaryWalk hup7)
  have hstable : b.stableMaster = true := by
    rw [stableMaster_iff, hb.consist]
    exact (stableMaster_iff s).mp hm
  refine ⟨startTimer .t11 b, hb.trans (.startTimer .t11 b), ?_, if_pos hstable, ?_, ?_, ?_, ?_, fun u h7 h8 h11 => ?_⟩
  · rw [show (startTimer .t11 b).upPorts = s.upPorts from upPorts_congr hb.ports]
    exact hup
  · exact startSummaryWalk_sent_door hup7
  · exact startSummaryWalk_sent_heat hup7
  · rw [count_startTimer_ne (by simp), count_startSummaryWalk hup7 (by simp), count_startTimer]
  · rw [count_startTimer, hb.clock.period]
  · rw [count_startTimer_ne h11, count_startSummaryWalk hup7 h8, count_startTimer_ne h7]

end SentWalks

/-! ### CONFIRM DONE (R60, R61) -/

theorem exec_confirmDone_of_takes {p : Port} {h : Header} {i : Identity} {s : State} (ht : s.takesFrame p)
    (hf : (⟨inPhase true h, .confirmDone i⟩ : Frame).formOk = true) :
    exec (.confirmDone p h i) s = .next (takeConfirmDone p (inPhase true h) i (s.afterFrame p)) :=
  congrArg Host.Outcome.next (frameArrives_of_takesFrame ht hf)

theorem doneAccepted_iff {s : State} {a : Attempt} (hr : s.consist.role = .master) (ha : s.consist.attempt = some a)
    (p : Port) (h : Header) (i : Identity) : s.doneAccepted p h i a = true ↔
      s.consist.state = .confirming ∧ p = (forwardOf a.orientation).other ∧ h.epoch = a.epoch ∧ h.tag = a.attempt
        ∧ i = s.identity := by
  by_cases hs : s.consist.state = .confirming
  · have hp := rearwardPort_of_attempt hr (.inr hs) ha
    simp only [State.doneAccepted, Bool.and_eq_true, beq_iff_eq, hp, and_assoc]
  · simp [State.doneAccepted, hs]

/-- Settles O33: the relay at a member, and the consist the confirming master installs. -/
theorem confirmDoneTaken : Obligations.ConfirmDoneTaken := by
  intro p h i s ht hf u wrong
  rw [exec_confirmDone_of_takes ht hf]
  have hmas : s.consist.role = .master → u.isMaster = true := (isMaster_iff u).mpr
  have hmem : s.consist.role = .member → ¬u.isMaster = true := fun hr hm => by
    have hx : s.consist.role = .master := (isMaster_iff u).mp hm
    rw [hr] at hx
    cases hx
  refine ⟨fun hr => ?_, fun hr => ⟨fun ha => ?_, fun a ha => ?_⟩⟩
  · refine congrArg Host.Outcome.next ((if_neg (hmem hr)).trans ?_)
    have hrel : u.doneRelayed p (inPhase true h) = true ↔
        s.consist.state = .stable ∧ s.consist.epoch = h.epoch ∧ p = s.rearwardPort := by
      simp only [State.doneRelayed, Bool.and_eq_true, beq_iff_eq, and_assoc]
      rfl
    by_cases hc : s.consist.state = .stable ∧ s.consist.epoch = h.epoch ∧ p = s.rearwardPort
    · exact (if_pos (hrel.mpr hc)).trans (if_pos hc).symm
    · exact (if_neg (mt hrel.mp hc)).trans (if_neg hc).symm
  · refine congrArg Host.Outcome.next ((if_pos (hmas hr)).trans ?_)
    rw [show u.consist.attempt = none from ha]
    rfl
  · intro mine
    have hau : u.consist.attempt = some a := ha
    have hiff : u.doneAccepted p (inPhase true h) i a = true ↔ mine := doneAccepted_iff (s := u) hr ha p _ i
    refine ⟨fun hno => congrArg Host.Outcome.next ((if_pos (hmas hr)).trans ?_), fun hm => ?_⟩
    · rw [hau]
      exact if_neg (mt hiff.mp hno)
    · let w : State := installed a.epoch a.orientation a.returned (stopTimer .t4 u)
      have hgo : takeConfirmDone p (inPhase true h) i u = startWalks w := by
        refine (if_pos (hmas hr)).trans ?_
        rw [hau]
        exact (if_pos (hiff.mpr hm)).trans (installMaster_eq ..)
      have hup : w.upPorts ≠ [] := afterFrame_up_ne_nil ht.2
      obtain ⟨b, hu, hbup, hwalks, hd, hh, h7, h11, hcount⟩ := startWalks_of_stable (s := w) hup
        ((stableMaster_iff w).mpr ⟨rfl, rfl⟩)
      have hkeep := hu.trans (sameUnits_startHeatWalk hbup)
      have hdoor : (startHeatWalk b).door = b.door := startHeatWalk_sent_door hbup
      have hidle : s.InterlockSafe → s.door.doorsClosed = false := fun hsafe => by
        rcases hsafe with hstable | ⟨hclosed, -⟩
        · have hst := ((stableMaster_iff s).mp hstable).2
          rw [hm.1] at hst
          cases hst
        · exact hclosed
      rw [hgo, hwalks]
      refine ⟨_, rfl, ?_, ?_, ?_, ?_, ?_, ?_, ?_, ?_, ?_, ?_, fun hsafe => ?_, ?_, hkeep.ports, hkeep.lines, hkeep.bypass,
        hkeep.mgmt⟩
      · have hc : w.consist = { s.consist with
            role := .master, state := .stable, epoch := a.epoch, position := 1, orientation := a.orientation
            table := a.returned, attempt := none } := rfl
        rw [hkeep.consist, hc]
        exact congrArg (fun r => ({ s.consist with
          role := r, state := .stable, epoch := a.epoch, position := 1, orientation := a.orientation
          table := a.returned, attempt := none } : ConsistUnit)) hr.symm
      · rw [count_startHeatWalk hbup (by simp) (by simp) (by simp), hcount _ (by simp) (by simp) (by simp)]
        exact count_stopTimer .t4 u
      · rw [count_startHeatWalk hbup (by simp) (by simp) (by simp), h7]
        rfl
      · rw [count_startHeatWalk hbup (by simp) (by simp) (by simp), h11]
        rfl
      · rw [hkeep.relay]
        rfl
      · rw [hkeep.relay]
        rfl
      · rw [hkeep.relay]
        rfl
      · rw [hkeep.relay]
        rfl
      · rw [hdoor, hd]
        rfl
      · rw [startHeatWalk_sent_outstanding hbup, hh]
        rfl
      · rw [hdoor, hd]
        exact hidle hsafe
      · rw [hdoor, hd]
        rfl

/-! ### Triggers (R46) -/

theorem enterState_sides_of_open {r : Role} {x : ConsistState} (hx : x.closesDoors = false) (s : State) :
    (enterState r x s).door.sides = s.door.sides := by
  rw [enterState_eq, madeReady]
  dsimp only [State.setConsist_door]
  simp only [hx, Bool.false_eq_true, if_false]
  split_ifs <;> simp [abandonWalks]

theorem AtRest.of_same {s t : State} (h : AtRest s) (hd : t.door = s.door) (hh : t.heat = s.heat)
    (hc : ∀ u ∈ [TimerId.t7, .t8, .t11, .t12], t.count u = s.count u) : AtRest t where
  closed := by rw [hd]; exact h.closed
  summary := by rw [hd]; exact h.summary
  heat := by rw [hh]; exact h.heat
  counts := by
    obtain ⟨h7, h8, h11, h12⟩ := h.counts
    exact ⟨(hc _ (by simp)).trans h7, (hc _ (by simp)).trans h8, (hc _ (by simp)).trans h11, (hc _ (by simp)).trans h12⟩

/-- R46, R141, R157: a master that leaves STABLE for SETTLING has its walks at rest. -/
theorem enterSettling_atRest {s : State} (h : s.stableMaster = true) : AtRest (enterSettling s) := by
  refine (madeReady_atRest (r := .master) (x := .settling) h (by simp)).of_same ?_ ?_ fun u hu => ?_
  · rw [enterSettling, startTimer_door, enterState_eq]
    rfl
  · rw [enterSettling, startTimer_heat, enterState_eq]
    rfl
  · have h2 : u ≠ .t2 := by
      rintro rfl
      simp at hu
    rw [enterSettling, count_startTimer_ne h2, enterState_eq]
    rfl

/-- R46: the record and the blocked reason with which a trigger enters SETTLING. -/
theorem trigger_consist {s : State} (hr : s.consist.role = .master) : (trigger s).consist = { s.consist with
    state := .settling
    attempt := if s.consist.state = .calling ∨ s.consist.state = .confirming then none else s.consist.attempt
    blocked := if s.consist.state = .blocked then .none else s.consist.blocked } := by
  unfold trigger
  cases hx : s.consist.state <;> simp [abandonAttempt, ← hr]
  rw [← hx]

theorem count_trigger_t2 (s : State) : (trigger s).count .t2 = some (s.period .t2) := by
  unfold trigger
  split
  · exact count_startTimer ..
  all_goals exact count_enterSettling_t2 ..

theorem trigger_sides (s : State) : (trigger s).door.sides = s.door.sides := by
  have he : ∀ t : State, (enterSettling t).door.sides = t.door.sides := fun t => by
    rw [enterSettling, startTimer_door, enterState_sides_of_open rfl]
  unfold trigger
  split
  · rfl
  all_goals exact he _

/-- R46: the timer of the attempt in flight stops. -/
theorem count_trigger_attempt (s : State) : (s.consist.state = .calling → (trigger s).count .t3 = none)
    ∧ (s.consist.state = .confirming → (trigger s).count .t4 = none) := by
  refine ⟨fun hx => ?_, fun hx => ?_⟩
  all_goals
    rw [trigger, hx]
    dsimp only
    rw [count_enterSettling rfl (by simp), abandonAttempt, count_stopTimer]

end Sys2Proof.Machine
end

section
/-! SUPPORT. Management requests: the way in, the checks, and the answer. -/

namespace Sys2Proof.Machine

open Sys2Proof

/-! ### What a request carries out (R185) -/

/-- What the management unit carries out for a request of a code. -/
def carryOf (levels : Levels) (q : Req) : ReqCode → Access → Nat → State → State × Answer
  | .read => carryRead q
  | .write => carryWrite q
  | .commit => carryCommit q
  | .clearFaults => carryClear q
  | .reinaugurate => carryReinaugurate
  | .restart => carryRestart levels q
  | .withdraw => carryWithdraw q
  | .clearLockout => carryClearLockout

theorem readRequest_of_names {q : Req} {n : Nat} (h : q.names n = true) (v : Via) (s : State) :
    readRequest v (forObject n q) s = readRequest v q s := by
  rw [forObject_self (beq_iff_eq.mp h)]

theorem writeRequest_of_names {q : Req} {n : Nat} (h : q.names n = true) (v : Via) (s : State) :
    writeRequest v (forObject n q) s = writeRequest v q s := by
  rw [forObject_self (beq_iff_eq.mp h)]

/-- R39: a well-formed request command is the request it names, with its own code. -/
theorem exec_of_requestOf {i : Instr} {v : Via} {c : ReqCode} {q : Req} (hw : i.wf = true)
    (hi : requestOf i = some (v, c, q)) :
    v.wf c q = true ∧ ∃ levels, ∀ s, exec i s = .next (request v c q (serve c q (carryOf levels q c)) s) := by
  cases i <;> simp only [requestOf, Option.some.injEq, Prod.mk.injEq, reduceCtorEq] at hi
  all_goals
    obtain ⟨rfl, rfl, rfl⟩ := hi
    simp only [Instr.wf, Bool.and_eq_true] at hw
  case restart v q levels => exact ⟨hw, levels, fun _ => rfl⟩
  case commitWithDrain v q =>
    refine ⟨hw.1, 0, fun s => ?_⟩
    have hq : withDrain q = q := withDrain_self (beq_iff_eq.mp hw.2)
    show Host.Outcome.next (request v .commit (withDrain q) (serve .commit (withDrain q) (carryCommit (withDrain q))) s) = _
    rw [hq]
    rfl
  case commit v q => exact ⟨hw.1, 0, fun _ => rfl⟩
  case read v q => exact ⟨hw.1.1, 0, fun _ => rfl⟩
  case write v q => exact ⟨hw.1, 0, fun _ => rfl⟩
  case readLineReport v q => exact ⟨hw.1, 0, fun s => congrArg Host.Outcome.next (readRequest_of_names hw.2 v s)⟩
  case readFaults v q => exact ⟨hw.1, 0, fun s => congrArg Host.Outcome.next (readRequest_of_names hw.2 v s)⟩
  case clearFaults v q => exact ⟨hw, 0, fun _ => rfl⟩
  case reinaugurate v q => exact ⟨hw, 0, fun _ => rfl⟩
  case withdraw v q => exact ⟨hw, 0, fun _ => rfl⟩
  case clearLockout v q => exact ⟨hw, 0, fun _ => rfl⟩
  all_goals exact ⟨hw.1, 0, fun s => congrArg Host.Outcome.next (writeRequest_of_names hw.2 _ s)⟩

/-! ### The state in which the management unit takes a request (R82, R94, R184) -/

/-- R39: the request number. -/
def numberOf : Via → Nat
  | .tap _ tag => tag
  | .train _ h => h.tag

/-- R95: what follows the answer to a request: the intake result of the exchange that brought it. -/
def finish : Via → State → State
  | .tap _ _, s => setIntake .accepted s
  | .train _ _, s => s

theorem replied_eq (v : Via) (c : ReqCode) (q : Req) (st : Status) (data : List Byte) (s : State) :
    s.replied v c q st data = finish v (place (accessOf v) (numberOf v) (responseTo c q st data) s) := by
  cases v <;> rfl

section WhenTaken

variable (v : Via) (c : ReqCode) (q : Req) (s : State)

/-- R82, R94, R184: on its way in a request reaches the ports, the queues and the fault table alone. -/
theorem whenTaken_units : (s.whenTaken v c q).bypass = s.bypass ∧ (s.whenTaken v c q).mgmt = s.mgmt
    ∧ (s.whenTaken v c q).consist = s.consist ∧ (s.whenTaken v c q).door = s.door ∧ (s.whenTaken v c q).heat = s.heat
    ∧ (s.whenTaken v c q).lines = s.lines ∧ (s.whenTaken v c q).identity = s.identity
    ∧ s.SameClock (s.whenTaken v c q) := by
  cases v with
  | tap done tag =>
    obtain ⟨r, head, he⟩ := nodePart_cases done s
    simp only [State.whenTaken, he]
    exact ⟨rfl, rfl, rfl, rfl, rfl, rfl, rfl, rfl, rfl⟩
  | train p h =>
    have hclock : s.SameClock (s.afterFrame p) := ⟨rfl, rfl⟩
    simp only [State.whenTaken]
    split_ifs
    · exact ⟨rfl, rfl, rfl, rfl, rfl, rfl, rfl, hclock⟩
    · exact ⟨sendFrame_bypass .., sendFrame_mgmt .., sendFrame_consist .., sendFrame_door .., sendFrame_heat ..,
        sendFrame_lines .., sendFrame_identity .., hclock.trans (.of_timers (sendFrame_timers ..))⟩

@[simp] theorem whenTaken_bypass : (s.whenTaken v c q).bypass = s.bypass := (whenTaken_units v c q s).1

@[simp] theorem whenTaken_mgmt : (s.whenTaken v c q).mgmt = s.mgmt := (whenTaken_units v c q s).2.1

@[simp] theorem whenTaken_consist : (s.whenTaken v c q).consist = s.consist := (whenTaken_units v c q s).2.2.1

@[simp] theorem whenTaken_door : (s.whenTaken v c q).door = s.door := (whenTaken_units v c q s).2.2.2.1

@[simp] theorem whenTaken_heat : (s.whenTaken v c q).heat = s.heat := (whenTaken_units v c q s).2.2.2.2.1

@[simp] theorem whenTaken_lines : (s.whenTaken v c q).lines = s.lines := (whenTaken_units v c q s).2.2.2.2.2.1

@[simp] theorem whenTaken_identity : (s.whenTaken v c q).identity = s.identity := (whenTaken_units v c q s).2.2.2.2.2.2.1

theorem sameClock_whenTaken : s.SameClock (s.whenTaken v c q) := (whenTaken_units v c q s).2.2.2.2.2.2.2

/-- R94: an exchange leaves the timers as they are. -/
theorem whenTaken_timers (h : accessOf v = .ownTap) : (s.whenTaken v c q).timers = s.timers := by
  cases v with
  | tap done tag =>
    obtain ⟨r, head, he⟩ := nodePart_cases done s
    exact (congrArg State.timers he).trans rfl
  | train p hd => cases h

/-- R82, R94: no part of the relay unit that a request or its answer reads changes on the way in. -/
theorem whenTaken_relay : ∃ queues tapQueue report select, (s.whenTaken v c q).relay
    = { s.relay with queues := queues, tapQueue := tapQueue, report := report, select := select } := by
  cases v with
  | tap done tag =>
    obtain ⟨r, head, he⟩ := nodePart_cases done s
    exact ⟨s.relay.queues, _, r, .idle, congrArg State.relay he⟩
  | train p h =>
    simp only [State.whenTaken]
    split_ifs
    · exact ⟨_, _, _, _, rfl⟩
    · exact ⟨_, _, _, _, sendFrame_relay ..⟩

end WhenTaken

/-! ### The checks and the answer (R185, R192) -/

section Answers

variable {v : Via} {c : ReqCode} {q : Req} {s : State}

theorem request_eq (hr : s.reaches v c q) (take : Access → Nat → State → State) :
    request v c q take s = finish v (take (accessOf v) (numberOf v) (s.whenTaken v c q)) := by
  cases v with
  | tap done tag => exact request_tap done tag c q take s hr
  | train p h => exact request_train p h c q take s hr

theorem request_refused (hr : s.reaches v c q) {act : Access → Nat → State → State × Answer} {st : Status}
    (hg : (s.whenTaken v c q).requestGate (accessOf v) c = some st) :
    request v c q (serve c q act) s = (s.whenTaken v c q).replied v c q st [] := by
  rw [request_eq hr, replied_eq, serve, hg]

theorem request_answered (hr : s.reaches v c q) {act : Access → Nat → State → State × Answer} {st : Status}
    {data : List Byte} {t : State} (hg : (s.whenTaken v c q).requestGate (accessOf v) c = none)
    (ha : act (accessOf v) (numberOf v) (s.whenTaken v c q) = (t, some (st, data))) :
    request v c q (serve c q act) s = t.replied v c q st data := by
  rw [request_eq hr, replied_eq, serve_of_gate c q act (accessOf v) (numberOf v) _ hg t st data ha]

theorem request_unanswered (hr : s.reaches v c q) {act : Access → Nat → State → State × Answer} {t : State}
    (hg : (s.whenTaken v c q).requestGate (accessOf v) c = none)
    (ha : act (accessOf v) (numberOf v) (s.whenTaken v c q) = (t, none)) :
    request v c q (serve c q act) s = finish v t := by
  rw [request_eq hr, serve, hg]
  dsimp only
  rw [ha]

theorem node_of_operating (h : s.operating = true) : s.bypass.node = .operating := by
  simpa [State.operating] using h

theorem gate_of_open (hn : s.bypass.node = .operating) (hm : s.mgmt.restart = .none) :
    (s.whenTaken v c q).requestGate (accessOf v) c = if requestAllowed (accessOf v) c then none else some .denied := by
  rcases requestGate_cases (accessOf v) c (s.whenTaken v c q) with ⟨hx, -⟩ | ⟨hx, -⟩ | ⟨-, he⟩
  · rw [whenTaken_bypass] at hx
    exact absurd hn hx
  · rw [whenTaken_mgmt] at hx
    exact absurd hm hx
  · exact he

theorem gate_of_judges (hj : s.judges v c q) (ha : requestAllowed (accessOf v) c = true) :
    (s.whenTaken v c q).requestGate (accessOf v) c = none := by
  rw [gate_of_open (node_of_operating hj.2.1) hj.2.2, if_pos ha]

end Answers

/-- Settles O34: the consist unit at a trigger, and the request that is one. -/
theorem triggerRestartsSettling : Obligations.TriggerRestartsSettling := by
  refine ⟨fun s hr => ?_, fun v q s hj hv => ?_⟩
  · intro x
    refine ⟨trigger_consist hr, count_trigger_t2 s, (count_trigger_attempt s).1, (count_trigger_attempt s).2,
      trigger_relay s, trigger_ports s, trigger_faults s, trigger_lines s, trigger_sides s, fun hx => ?_⟩
    have htr : trigger s = enterSettling s := by
      rw [trigger, show s.consist.state = .stable from hx]
    obtain ⟨hclosed, hout, -, h7, h8, h11, h12⟩ := enterSettling_atRest ((stableMaster_iff s).mpr ⟨hr, hx⟩)
    rw [htr]
    exact ⟨hclosed, hout, h7, h8, h11, h12⟩
  · intro u
    have hg := gate_of_judges hj (by rw [hv]; rfl)
    have hm : u.isMaster = s.isMaster := by simp only [State.isMaster, u, whenTaken_consist]
    have hx : exec (.reinaugurate v q) s = .next (request v .reinaugurate q (serve .reinaugurate q carryReinaugurate) s) := rfl
    rw [hx]
    by_cases hr : s.consist.role = .master
    · rw [if_pos hr, request_answered hj.1 hg (t := trigger u) (st := .ok) (data := [])]
      exact if_pos (hm.trans ((isMaster_iff s).mpr hr))
    · rw [if_neg hr, request_answered hj.1 hg (t := u) (st := .denied) (data := [])]
      exact if_neg fun h => hr ((isMaster_iff s).mp (hm.symm.trans h))

/-! ### Every request (R82, R99, R184, R185) -/

theorem request_full {done : Bool} {tag : Nat} {c : ReqCode} {q : Req} {s : State} (hs : s.tapServes)
    (hf : (selfRecord tag c q).tapFormOk = true) (hfull : 12 ≤ s.relay.tapQueue.length)
    (take : Access → Nat → State → State) :
    request (.tap done tag) c q take s = setIntake (.refused .queueFull) (nodePart done s) := by
  have hpart : selfPart tag c q (take .ownTap tag) s = refusedPart .queueFull := by
    rw [selfPart, hf]
    exact if_pos hfull
  rw [request, exchange_eq _ _ _ hs, hpart]
  rfl

theorem trainClass_iff (s : State) (h : Header) : s.trainClass h = true ↔ h.origin = 1 ∧ h.epoch = s.consist.epoch
    ∧ h.epoch ≠ 0 ∧ (s.consist.state = .stable ∨ s.consist.state = .suspect) ∧ s.consist.position ≠ 1 := by
  simp only [State.trainClass, Bool.and_eq_true, beq_iff_eq, epochMatches_iff, settled_iff, bne_iff_ne, and_assoc]

/-- Settles O44: the gate of the request, and the two ways in. -/
theorem requestsJudged : Obligations.RequestsJudged := by
  intro i v c q s hw hi
  obtain ⟨hvw, levels, hx⟩ := exec_of_requestOf hw hi
  rw [hx]
  refine ⟨fun hr => ?_, fun done tag hv hs hfull => ?_, fun p h hv ht => ?_⟩
  · intro u
    refine ⟨fun hn hc => ?_, fun hn hm hc => ?_, fun hn hm hno => ?_⟩
    · refine congrArg Host.Outcome.next (request_refused hr ?_)
      rcases requestGate_cases (accessOf v) c u with ⟨-, -, he⟩ | ⟨-, -, hop, -⟩ | ⟨hor, -⟩
      · exact he
      · rw [whenTaken_bypass] at hop
        exact absurd hop hn
      · rw [whenTaken_bypass] at hor
        exact hor.elim (absurd · hc) fun hx => absurd hx.1 hn
    · refine congrArg Host.Outcome.next (request_refused hr ?_)
      rcases requestGate_cases (accessOf v) c u with ⟨hno, -⟩ | ⟨-, -, -, he⟩ | ⟨hor, -⟩
      · rw [whenTaken_bypass] at hno
        exact absurd hn hno
      · exact he
      · rw [whenTaken_mgmt] at hor
        exact hor.elim (absurd · hc) fun hx => absurd hx.2 hm
    · refine congrArg Host.Outcome.next (request_refused hr ((gate_of_open hn hm).trans (if_neg ?_)))
      rcases hno with ⟨ha, rfl⟩ | ⟨ha, rfl | rfl | rfl⟩ <;> rw [ha] <;> decide
  · subst hv
    exact congrArg Host.Outcome.next (request_full hs hvw hfull _)
  · subst hv
    intro f u away here scope train routed'
    have hsel := sel_of_formOk hvw
    obtain ⟨-, rhere, rmis⟩ := route_cases u p h.sel
    let take : State → State := takeTrainRequest p h (serve c q (carryOf levels q c) .train h.tag)
    have hgo : request (.train p h) c q (serve c q (carryOf levels q c)) s = routed p f take u :=
      frameArrives_of_takesFrame ht hvw
    rw [hgo]
    have hthere : (if u.route p h.sel = .here then u else sendFrame p.other f u) = routed' := by
      by_cases hh : here
      · exact (if_pos (rhere.mpr hh)).trans (if_pos hh).symm
      · exact (if_neg (mt rhere.mp hh)).trans (if_neg hh).symm
    have hreach : ¬away → routed p f take u = take routed' := fun ha => by
      rw [routed_of_not_away (fun h0 => ha (rmis.mp h0)), ← hthere]
    have hc : routed'.consist = s.consist := by
      rw [← hthere]
      split_ifs
      · rfl
      · exact sendFrame_consist ..
    have hgr : routed'.relay.groupsActive = s.relay.groupsActive := by
      rw [← hthere]
      split_ifs
      · rfl
      · rw [sendFrame_relay]
        rfl
    have hscope : routed'.inScope h.sel routed'.consist.position = true ↔ scope := by
      rw [inScope_iff _ hsel, hc, hgr]
      exact or_congr ⟨fun ⟨ht, hk, h0⟩ => ⟨ht, h0, hk⟩, fun ⟨ht, h0, hk⟩ => ⟨ht, hk, h0⟩⟩ Iff.rfl
    have htrain : routed'.trainClass h = true ↔ train := by
      rw [trainClass_iff, hc]
    refine ⟨fun ha => ?_, fun ha hs => ?_, fun ha hs hnt => ?_⟩
    · refine congrArg Host.Outcome.next ?_
      rcases routed_cases p f take u with ⟨hr, -⟩ | ⟨hr, -⟩ | ⟨-, he⟩
      · rw [rmis.mpr ha] at hr
        cases hr
      · rw [rmis.mpr ha] at hr
        cases hr
      · exact he
    · rw [hreach ha]
      exact congrArg Host.Outcome.next (if_neg (mt hscope.mp hs))
    · rw [hreach ha]
      exact congrArg Host.Outcome.next ((if_pos (hscope.mpr hs)).trans (if_neg (mt htrain.mp hnt)))

end Sys2Proof.Machine
end

section
/-! SUPPORT. The writes: what every write is judged by, and the writes of the heat objects. -/

namespace Sys2Proof.Machine

open Sys2Proof

/-! ### Every write (R186, R188) -/

/-- R40: the code of an object. -/
def Object.code : Object → Nat
  | .identity => 1
  | .status => 2
  | .consist => 3
  | .service => 4
  | .groups => 5
  | .lines => 6
  | .lineLevels => 7
  | .lineReport => 8
  | .generalOut => 9
  | .doorInhibit => 10
  | .coachDescriptor => 11
  | .heatProfile => 12
  | .heatSettings => 13
  | .heatDemand => 14
  | .supplyLimit => 15
  | .timers => 16
  | .faults => 17

theorem objectCode_of_objectOf {b : Byte} {o : Object} (h : objectOf b = some o) : objectCode b = o.code := by
  have hall : ∀ n < 32, ∀ x ∈ decodeCode 1 [Object.identity, .status, .consist, .service, .groups, .lines, .lineLevels,
      .lineReport, .generalOut, .doorInhibit, .coachDescriptor, .heatProfile, .heatSettings, .heatDemand, .supplyLimit,
      .timers, .faults] n, n = x.code := by decide
  exact hall (objectCode b) (Nat.mod_lt _ (by decide)) o h

theorem writeRequest_of_object {b : Req} {o : Object} (h : objectOf b.object = some o) (v : Via) (s : State) :
    writeRequest v (forObject o.code b) s = writeRequest v b s := by
  rw [forObject_self (objectCode_of_objectOf h)]

theorem requestAllowed_write (a : Access) : requestAllowed a .write = true := rfl

section Writes

variable {v : Via} {q : Req} {o : Object} {s : State}

/-- R188: a write that every check admits is what the object's own rule makes of it. -/
theorem writeObject_of_admits (ha : s.admits v o q) : writeObject (accessOf v) q (s.whenTaken v .write q)
    = ((writeValues o q (s.whenTaken v .write q)).1, answered (writeValues o q (s.whenTaken v .write q)).2) := by
  obtain ⟨hobj, hw, hbank, hshape, hindex⟩ := ha
  have hb : ¬(o.banked && !stagedBank q.object) = true := by
    cases hk : o.banked
    · simp
    · simp [hbank hk]
  have hi : (s.whenTaken v .write q).indexOk o q.index q.count = true := by
    have hrange : (s.whenTaken v .write q).indexRange o = s.indexRange o := by
      cases o <;> simp only [State.indexRange, whenTaken_consist]
    rw [State.indexOk, hrange]
    exact hindex
  rw [writeObject, hobj]
  dsimp only
  rw [if_neg (not_not.mpr hw), if_neg hb, hshape, hi]
  rfl

theorem writeRequest_admitted (hj : s.judges v .write q) (ha : s.admits v o q) {t : State} {st : Status}
    (hw : writeValues o q (s.whenTaken v .write q) = (t, st)) :
    writeRequest v q s = t.replied v .write q st [] := by
  refine request_answered hj.1 (gate_of_judges hj (requestAllowed_write _)) ?_
  show writeObject (accessOf v) q (s.whenTaken v .write q) = _
  rw [writeObject_of_admits ha, hw]
  rfl

end Writes

theorem stored_eq (b : Prop) [Decidable b] : stored (decide b) = if b then .okClamped else .ok := by
  by_cases h : b <;> simp [stored, h]

/-- Settles O45: the checks in their order, and the command whose write has a row of its own. -/
theorem writesJudged : Obligations.WritesJudged := by
  refine ⟨fun i v q o s hwf hi hj hobj => ?_, fun v q s => ?_, fun v q w s hj ha hw => ?_⟩
  · intro u answers
    obtain ⟨-, levels, hx⟩ := exec_of_requestOf hwf hi
    have hg := gate_of_judges hj (requestAllowed_write _)
    have hans : ∀ st, writeObject (accessOf v) q u = (u, answered st) → answers st := fun st he => by
      show exec i s = _
      rw [hx]
      exact congrArg Host.Outcome.next (request_answered hj.1 hg he)
    have hrange : u.indexRange o = s.indexRange o := by
      cases o <;> simp only [State.indexRange, u, whenTaken_consist]
    have hbank : (o.banked && !stagedBank q.object) = true ↔ (o = .service ∨ o = .groups) ∧ q.object.getLsbD 7 = false := by
      rw [Bool.and_eq_true, Bool.not_eq_true', stagedBank]
      cases o <;> simp [Object.banked]
    have hshape : (!o.shapeOk q) = true ↔ q.count = 0 ∨ q.data.length ≠ q.count * o.size
        ∨ o = .heatProfile ∧ (q.index ≠ 0 ∨ q.count ≠ 8) := by
      rw [Bool.not_eq_true', ← Bool.not_eq_true, Object.shapeOk]
      simp only [Bool.and_eq_true, Bool.or_eq_true, bne_iff_ne, beq_iff_eq, not_and_or, not_or, not_not, or_assoc]
    have hindex : (!u.indexOk o q.index q.count) = true ↔
        q.index < (s.indexRange o).1 ∨ (s.indexRange o).2 < q.index + q.count := by
      rw [Bool.not_eq_true', ← Bool.not_eq_true, indexOk_iff, hrange]
      omega
    have hobject : writeObject (accessOf v) q u = if o.writer ≠ some (accessOf v) then (u, answered .denied)
        else if (o.banked && !stagedBank q.object) = true then (u, answered .denied)
        else if (!o.shapeOk q) = true then (u, answered .invalid)
        else if (!u.indexOk o q.index q.count) = true then (u, answered .absent)
        else ((writeValues o q u).1, answered (writeValues o q u).2) := by
      rw [writeObject, hobj]
    rw [hobject] at hans
    split_ifs with h1 h2 h3 h4
    · exact hans _ (if_pos h1)
    · exact hans _ ((if_neg h1).trans (if_pos (hbank.mpr h2)))
    · exact hans _ ((if_neg h1).trans ((if_neg (mt hbank.mp h2)).trans (if_pos (hshape.mpr h3))))
    · exact hans _ ((if_neg h1).trans ((if_neg (mt hbank.mp h2)).trans ((if_neg (mt hshape.mp h3)).trans
        (if_pos (hindex.mpr h4)))))
  · exact (exec_writeCommand v q s).symm
  · intro u
    have hval : writeValues .supplyLimit q u
        = (u.setHeat { s.heat with supplyLimit := min 4095 w }, stored (decide (4095 < w))) := by
      rw [writeValues, writeLimit, hw]
      dsimp only
      rw [show u.heat = s.heat from whenTaken_heat ..]
    rw [← stored_eq]
    exact congrArg Host.Outcome.next (writeRequest_admitted hj ha hval)

end Sys2Proof.Machine
end

section
/-! SUPPORT. The writes of the heat objects, and the requests that clear. -/

namespace Sys2Proof.Machine

open Sys2Proof

/-! ### CLEAR_FAULTS and CLEAR_LOCKOUT (R171, R194) -/

theorem present_of_asserted {s : State} {f : LineFunction} (h : s.asserted f = true) : s.present f = true := by
  obtain ⟨l, hl, hf⟩ := List.any_eq_true.mp h
  exact List.any_eq_true.mpr ⟨l, hl, (Bool.and_eq_true _ _ ▸ hf).1⟩

/-- R171: T14 after the lockout is cleared at stage 0. -/
theorem judgedT14_of_idle {s : State} (ha : s.heat.applied = 0) (hl : s.heat.lockedOut = false) : s.judgedT14
    = if s.asserted .heatFeedback = true then some ((s.count .t14).getD (s.period .t14)) else none := by
  have hc : (s.present .heatFeedback = true ∧ s.heat.lockedOut = false
      ∧ s.asserted .heatFeedback ≠ decide (0 < s.heat.applied)) ↔ s.asserted .heatFeedback = true := by
    rw [ha]
    simp only [lt_irrefl, decide_false, ne_eq, Bool.not_eq_false]
    exact ⟨fun h => h.2.2, fun h => ⟨present_of_asserted h, hl, h⟩⟩
  unfold State.judgedT14
  by_cases h : s.asserted .heatFeedback = true
  · rw [if_pos h, if_pos (hc.mpr h)]
    cases s.count .t14 <;> rfl
  · rw [if_neg h, if_neg (mt hc.mp h)]

/-- Settles O55: the slots freed, and the lockout cleared with the feedback judged. -/
theorem faultsAndLockoutCleared : Obligations.FaultsAndLockoutCleared := by
  refine ⟨fun v q s hj => ?_, fun v q s hj hv hsafe => ?_⟩
  · intro u
    have hx : exec (.clearFaults v q) s = .next (request v .clearFaults q (serve .clearFaults q (carryClear q)) s) := rfl
    have hg := gate_of_judges hj (by cases accessOf v <;> rfl)
    rw [hx]
    refine congrArg Host.Outcome.next ?_
    split_ifs with h255 h8
    · refine request_answered hj.1 hg ((if_pos (.inr h255)).trans ?_)
      rw [clearTable, if_pos h255]
      rfl
    · refine request_answered hj.1 hg ((if_pos (.inl (Nat.le_of_lt_succ h8))).trans ?_)
      rw [clearTable, if_neg h255]
      rfl
    · exact request_answered hj.1 hg (if_neg fun h => h.elim (fun h7 => h8 (Nat.lt_succ_of_le h7)) h255)
  · intro u shown
    have hx : exec (.clearLockout v q) s = .next (request v .clearLockout q (serve .clearLockout q carryClearLockout) s) := rfl
    have hg := gate_of_judges hj (by rw [hv]; rfl)
    rw [hx]
    refine congrArg Host.Outcome.next (request_answered hj.1 hg ?_)
    have hheat : u.heat = s.heat := whenTaken_heat ..
    show (clearLockedOut u, answered .ok) = _
    rw [clearLockedOut, hheat]
    by_cases hl : s.heat.lockedOut = true
    · have hcount : u.count .t14 = s.count .t14 := count_of_timers (whenTaken_timers v _ q s hv)
      have hper : u.period .t14 = (s.setting 14).period := (sameClock_whenTaken v _ q s).period .t14
      have has : u.asserted .heatFeedback = s.asserted .heatFeedback := by
        simp only [State.asserted, u, whenTaken_lines]
      have hjudged := judgedT14_of_idle (s := u.setHeat { s.heat with lockedOut := false }) (hsafe.2.2 hl) rfl
      rw [if_pos hl, if_pos hl, judgeFeedback_eq, hjudged]
      have hif : (if u.asserted .heatFeedback = true then some ((u.count .t14).getD (u.period .t14)) else none)
          = if shown then some ((s.count .t14).getD (s.setting 14).period) else none := by
        rw [has, hcount, hper]
      exact congrArg (fun n => ((u.setHeat { s.heat with lockedOut := false }).setCount .t14 n, answered .ok)) hif
    · rw [if_neg hl, if_neg hl]
      rfl

/-! ### The heat objects (R152 to R155, R169) -/

/-- R155, R156: the applied stage falls to d_eff. -/
theorem heatRefresh_min (s : State) : ∃ c, ((s.heat.applied = 0 ↔ min s.heat.applied s.effectiveDemand = 0) →
    c = s.count .t14) ∧ heatRefresh s
      = (s.setHeat { s.heat with applied := min s.heat.applied s.effectiveDemand }).setCount .t14 c := by
  unfold heatRefresh
  split_ifs with h
  · rw [Nat.min_eq_right h.le]
    exact ⟨s.t14After s.effectiveDemand, t14After_of_same, setApplied_eq _ s⟩
  · rw [Nat.min_eq_left (Nat.not_lt.mp h)]
    exact ⟨s.count .t14, fun _ => rfl, (setCount_count s _).symm⟩

theorem count_replied (v : Via) (c : ReqCode) (q : Req) (st : Status) (data : List Byte) (s : State) (u : TimerId) :
    (s.replied v c q st data).count u = s.count u := by
  cases v with
  | tap done tag => exact count_of_timers (deliver_timers ..)
  | train p h => exact count_of_timers (sendFrame_timers ..)

theorem replied_heat (v : Via) (c : ReqCode) (q : Req) (st : Status) (data : List Byte) (s : State) :
    (s.replied v c q st data).heat = s.heat := by
  cases v with
  | tap done tag => exact deliver_heat ..
  | train p h => exact sendFrame_heat ..

theorem profileOk_iff (l : List Nat) :
    profileOk l = true ↔ l.head? = some 0 ∧ (∀ x ∈ l, x ≤ 1023) ∧ l.Pairwise (· ≤ ·) := by
  simp [profileOk, and_assoc]

/-- R155: the effective demand at the request's own rule is that of the state it arrived in. -/
theorem effectiveDemand_whenTaken (v : Via) (c : ReqCode) (q : Req) (s : State) (y : HeatUnit) :
    ((s.whenTaken v c q).setHeat y).effectiveDemand = (s.setHeat y).effectiveDemand := by
  have hside : ∀ d, (s.whenTaken v c q).side d = s.side d := fun d => by rw [State.side, whenTaken_door]; rfl
  refine effectiveDemand_congr (whenTaken_lines ..) (by rw [State.setHeat_consist, whenTaken_consist]; rfl)
    (fun d => ?_) rfl rfl rfl
  exact ⟨congrArg SideRecord.state (hside d), congrArg SideRecord.proof (hside d)⟩

section HeatWrites

variable {v : Via} {q : Req} {s : State}

theorem exec_writeHeatProfile (ha : s.admits v .heatProfile q) :
    exec (.writeHeatProfile v q) s = .next (writeRequest v q s) :=
  congrArg Host.Outcome.next (writeRequest_of_object ha.1 v s)

theorem exec_writeSupplyLimit (ha : s.admits v .supplyLimit q) :
    exec (.writeSupplyLimit v q) s = .next (writeRequest v q s) :=
  congrArg Host.Outcome.next (writeRequest_of_object ha.1 v s)

theorem exec_writeHeatDemand (ha : s.admits v .heatDemand q) :
    exec (.writeHeatDemand v q) s = .next (writeRequest v q s) :=
  congrArg Host.Outcome.next (writeRequest_of_object ha.1 v s)

theorem exec_writeHeatSettings (ha : s.admits v .heatSettings q) :
    exec (.writeHeatSettings v q) s = .next (writeRequest v q s) :=
  congrArg Host.Outcome.next (writeRequest_of_object ha.1 v s)

end HeatWrites

/-- R155, R169: the applied stage falls to d_eff, and in fallback to the fallback stage. -/
theorem heatSettingsTaken_eq (s : State) :
    let n := min s.heat.applied (if s.heat.fallback = true then min s.heat.fallbackStage s.effectiveDemand
      else s.effectiveDemand)
    ∃ c, ((s.heat.applied = 0 ↔ n = 0) → c = s.count .t14)
      ∧ heatSettingsTaken s = (s.setHeat { s.heat with applied := n }).setCount .t14 c := by
  intro n
  obtain ⟨c, hc, he⟩ := heatRefresh_min s
  unfold heatSettingsTaken
  dsimp only
  rw [he]
  by_cases hf : s.heat.fallback = true
  · let t : State := (s.setHeat { s.heat with applied := min s.heat.applied s.effectiveDemand }).setCount .t14 c
    have hd : t.effectiveDemand = s.effectiveDemand := effectiveDemand_congr rfl rfl (fun _ => ⟨rfl, rfl⟩) rfl rfl rfl
    have hn : t.fallbackCeiling = n := by
      rw [State.fallbackCeiling, hd]
      show min (min s.heat.applied s.effectiveDemand) (min s.heat.fallbackStage s.effectiveDemand) = n
      simp only [n, if_pos hf]
      omega
    refine ⟨t.t14After n, fun h => ?_, ?_⟩
    · have hmid : s.heat.applied = 0 ↔ min s.heat.applied s.effectiveDemand = 0 := by
        simp only [n, if_pos hf] at h
        omega
      have hlow : t.heat.applied = 0 ↔ n = 0 := hmid.symm.trans h
      rw [t14After_of_same hlow, ← hc hmid]
      exact State.count_setCount ..
    · rw [if_pos (show t.heat.fallback = true from hf), hn, setApplied_eq]
      exact setCount_setCount (s.setHeat { s.heat with applied := n }) _ _ _
  · have hn : n = min s.heat.applied s.effectiveDemand := by simp only [n, if_neg hf]
    exact ⟨c, fun h => hc (hn ▸ h), (if_neg hf).trans (by rw [hn])⟩

/-- R154: the settings that a write of one or two elements stores. -/
theorem foldl_setHeatSetting {i : Nat} {l : List Byte} (hl : l ≠ []) (hi : i + l.length ≤ 2) (s : State) :
    let pick (k old : Nat) : Nat := if i ≤ k ∧ k < i + l.length then min 7 (l.getD (k - i) 0).toNat else old
    (l.zipIdx i).foldl (fun s x => setHeatSetting x.2 x.1.toNat s) s
      = s.setHeat { s.heat with doorCap := pick 0 s.heat.doorCap, fallbackStage := pick 1 s.heat.fallbackStage } := by
  rcases l with _ | ⟨a, _ | ⟨b, _ | ⟨c, l⟩⟩⟩
  · exact absurd rfl hl
  · have h01 : i = 0 ∨ i = 1 := by
      simp only [List.length_cons, List.length_nil] at hi
      omega
    rcases h01 with rfl | rfl <;> rfl
  · obtain rfl : i = 0 := by
      simp only [List.length_cons, List.length_nil] at hi
      omega
    rfl
  · simp only [List.length_cons] at hi
    omega

/-- Settles O53: what each of the four writes stores, and the stage that follows. -/
theorem heatObjectsWritten : Obligations.HeatObjectsWritten := by
  intro v q s u clamped
  have hheat : u.heat = s.heat := whenTaken_heat ..
  refine ⟨fun hj ha => ?_, fun w hj ha hw => ?_, fun b hj ha hb => ?_, fun hj ha => ?_⟩
  · intro fit
    rw [exec_writeHeatProfile ha]
    have hfit : profileOk (words q.data) = true ↔ fit := profileOk_iff _
    refine ⟨fun h => ?_, fun h => ?_⟩ <;> refine congrArg Host.Outcome.next (writeRequest_admitted hj ha ?_)
    · refine (if_pos (hfit.mpr h)).trans ?_
      rw [← hheat]
    · exact if_neg (mt hfit.mp h)
  · rw [exec_writeSupplyLimit ha]
    refine congrArg Host.Outcome.next (writeRequest_admitted hj ha ?_)
    show writeLimit q u = _
    rw [writeLimit, hw]
    dsimp only
    rw [hheat, stored_eq]
  · intro x w
    rw [exec_writeHeatDemand ha]
    have hd : (u.setHeat x).effectiveDemand = (s.setHeat x).effectiveDemand := effectiveDemand_whenTaken ..
    obtain ⟨c, hc, he⟩ := heatRefresh_min (u.setHeat x)
    rw [hd] at hc he
    have hval : writeValues .heatDemand q u = (w.setCount .t14 c, clamped (7 < b.toNat)) := by
      show writeDemand q u = _
      rw [writeDemand, hb]
      dsimp only
      rw [hheat, stored_eq]
      exact congrArg (Prod.mk · (clamped (7 < b.toNat))) he
    refine ⟨_, congrArg Host.Outcome.next (writeRequest_admitted hj ha hval), ?_, fun h => ?_⟩
    · rw [count_replied, State.count_setCount]
    · rw [replied_heat] at h
      rw [count_replied, State.count_setCount, hc h]
      exact count_of_timers (whenTaken_timers v _ q s (Option.some.inj ha.2.1).symm)
  · intro pick x d w
    rw [exec_writeHeatSettings ha]
    obtain ⟨hcount, hlen, -⟩ := shapeOk_iff ha.2.2.2.1
    have hlen1 : q.data.length = q.count := hlen.trans (Nat.mul_one _)
    have hidx : q.index + q.data.length ≤ 2 := by
      rw [hlen1]
      exact ((indexOk_iff ..).mp ha.2.2.2.2).2
    have hne : q.data ≠ [] := fun h => hcount (by rw [← hlen1, h]; rfl)
    have hset : (q.data.zipIdx q.index).foldl (fun s x => setHeatSetting x.2 x.1.toNat s) u = u.setHeat x := by
      rw [foldl_setHeatSetting hne hidx, hheat]
    have hd : (u.setHeat x).effectiveDemand = d := effectiveDemand_whenTaken ..
    obtain ⟨c, hc, he⟩ := heatSettingsTaken_eq (u.setHeat x)
    rw [hd] at hc he
    have hval : writeValues .heatSettings q u = (w.setCount .t14 c, clamped (∃ b ∈ q.data, 7 < b.toNat)) := by
      show writeSettings q u = _
      rw [writeSettings, hset]
      refine Prod.ext he ?_
      show stored (q.data.any fun b => decide (7 < b.toNat)) = _
      have hany : (q.data.any fun b => decide (7 < b.toNat)) = decide (∃ b ∈ q.data, 7 < b.toNat) := by
        rw [← Bool.coe_iff_coe, List.any_eq_true, decide_eq_true_iff]
        simp only [decide_eq_true_eq]
      rw [hany]
      exact stored_eq _
    refine ⟨_, congrArg Host.Outcome.next (writeRequest_admitted hj ha hval), ?_, fun h => ?_⟩
    · rw [count_replied, State.count_setCount]
    · rw [replied_heat] at h
      rw [count_replied, State.count_setCount, hc h]
      exact count_of_timers (whenTaken_timers v _ q s (Option.some.inj ha.2.1).symm)

end Sys2Proof.Machine
end

section
/-! SUPPORT. The writes of the timer settings and of the staged banks, and COMMIT. -/

namespace Sys2Proof.Machine

open Sys2Proof

/-! ### Elements that a write replaces -/

theorem getD_replaceAt {α : Type} {l new : List α} {i : Nat} (h : i + new.length ≤ l.length) (k : Nat) (d : α) :
    (replaceAt l i new).getD k d = if i ≤ k ∧ k < i + new.length then new.getD (k - i) d else l.getD k d := by
  have hi : (l.take i).length = i := by
    rw [List.length_take]
    omega
  simp only [replaceAt, List.append_assoc, List.getD_eq_getElem?_getD]
  rcases Nat.lt_or_ge k i with hk | hk
  · rw [if_neg (by omega), List.getElem?_append_left (by omega), List.getElem?_take_of_lt hk]
  · rw [List.getElem?_append_right (by omega), hi]
    rcases Nat.lt_or_ge k (i + new.length) with hn | hn
    · rw [if_pos ⟨hk, hn⟩, List.getElem?_append_left (by omega)]
    · rw [if_neg (by omega), List.getElem?_append_right (by omega), List.getElem?_drop]
      congr 2
      omega

/-! ### Timer settings (R177, R180) -/

theorem mem_timerCounts (u : TimerId) (n : Nat) : u ∈ timerCounts n ↔ u.number = n := by
  constructor
  · intro h
    unfold timerCounts at h
    split at h <;> simp only [List.mem_cons, List.not_mem_nil, or_false] at h
    all_goals
      rcases h with rfl | rfl <;> rfl
  · rintro rfl
    cases u with
    | t0 p => cases p <;> decide
    | t1 p => cases p <;> decide
    | t10 d => cases d <;> decide
    | _ => decide

theorem mem_written_counts (u : TimerId) (i c : Nat) :
    u ∈ (List.range c).flatMap (fun k => timerCounts (i + k)) ↔ i ≤ u.number ∧ u.number < i + c := by
  simp only [List.mem_flatMap, List.mem_range, mem_timerCounts]
  constructor
  · rintro ⟨k, hk, he⟩
    omega
  · rintro ⟨h1, h2⟩
    exact ⟨u.number - i, by omega, by omega⟩

/-- R180: the counts that are running start again; nothing else changes. -/
theorem foldl_rerun (l : List TimerId) (s : State) : ∃ c, l.foldl (fun s t => rerun t s) s
    = s.setTimers { s.timers with counts := c }
      ∧ ∀ u, c.get u = if u ∈ l ∧ s.count u ≠ none then some (s.period u) else s.count u := by
  induction l generalizing s with
  | nil => exact ⟨s.timers.counts, rfl, fun u => by simp; rfl⟩
  | cons t l ih =>
    obtain ⟨c, he, hc⟩ := ih (rerun t s)
    have hstep : ∃ k, rerun t s = s.setTimers { s.timers with counts := k }
        ∧ ∀ u, k.get u = if u = t ∧ s.count u ≠ none then some (s.period u) else s.count u := by
      unfold rerun
      split_ifs with hr
      · refine ⟨s.timers.counts.set t (some (s.period t)), rfl, fun u => ?_⟩
        by_cases hu : u = t
        · subst hu
          rw [if_pos ⟨rfl, Option.isSome_iff_ne_none.mp hr⟩, Counts.get_set]
        · rw [if_neg fun h => hu h.1, Counts.get_set_ne _ hu]
          rfl
      · refine ⟨s.timers.counts, rfl, fun u => ?_⟩
        rw [if_neg fun ⟨hu, hn⟩ => hr (Option.isSome_iff_ne_none.mpr (hu ▸ hn))]
        rfl
    obtain ⟨k, hk, hget⟩ := hstep
    refine ⟨c, ?_, fun u => ?_⟩
    · rw [List.foldl_cons, he, hk]
      rfl
    · have hper : (rerun t s).period u = s.period u := by rw [hk]; rfl
      have hcount : (rerun t s).count u = k.get u := by rw [hk]; rfl
      rw [hc u, hper, hcount, hget u]
      by_cases hu : u = t
      · by_cases hn : s.count u = none
        · simp [hn]
        · subst hu
          simp [hn]
      · simp [hu]

theorem word16_lt (a b : Byte) : word16 a b < 65536 := by
  have ha := a.isLt
  have hb := b.isLt
  unfold word16
  omega

theorem words_lt {l : List Byte} {w : Nat} (h : w ∈ words l) : w < 65536 := by
  obtain ⟨x, -, rfl⟩ := List.mem_map.mp h
  exact word16_lt ..

/-- R177: a setting as it is stored. -/
theorem settingOf_eq {w : Nat} (h : w < 65536) : settingOf w
    = ⟨if w % 32768 = 0 then 1 else if 1023 < w % 32768 then 1023 else w % 32768,
      if 32768 ≤ w then .coarse else .fine⟩ := by
  have hvalue : max 1 (min 1023 (w % 32768))
      = if w % 32768 = 0 then 1 else if 1023 < w % 32768 then 1023 else w % 32768 := by
    split_ifs <;> omega
  have hscale : w / 32768 % 2 = 1 ↔ 32768 ≤ w := by omega
  rw [settingOf, hvalue]
  congr 1
  exact if_congr hscale rfl rfl

/-- R192: the answer to a LOCAL request commutes with a change of the settings and counts. -/
theorem replied_setTimers {v : Via} (hv : accessOf v = .ownTap) {x : TimerUnit} {s : State}
    (hx : x.timebase = s.timers.timebase) (c : ReqCode) (q : Req) (st : Status) (data : List Byte) :
    (s.setTimers x).replied v c q st data = (s.replied v c q st data).setTimers x := by
  cases v with
  | train p h => cases hv
  | tap done tag =>
    have hd : ∀ f, deliver f (s.setTimers x) = (deliver f s).setTimers x := fun f => by
      have hrec : recordFault .tapOverrun .tap (s.setTimers x) = (recordFault .tapOverrun .tap s).setTimers x := by
        simp only [recordFault, State.setTimers_timers, hx]
        rfl
      unfold deliver
      rw [hrec]
      split_ifs with h1 h2 h2
      · rfl
      · exact absurd h1 h2
      · exact absurd h2 h1
      · rfl
    exact congrArg (setIntake .accepted) (hd _)

/-- Settles O54: the settings stored, and the counts that start again. -/
theorem timerSettingsWritten : Obligations.TimerSettingsWritten := by
  intro v q s hj ha hlen u stored' written r
  have hv : accessOf v = .ownTap := (Option.some.inj ha.2.1).symm
  have htimers : u.timers = s.timers := whenTaken_timers v _ q s hv
  obtain ⟨-, hdata, -⟩ := shapeOk_iff ha.2.2.2.1
  have hcount : (words q.data).length = q.count := by
    rw [length_words, hdata]
    exact Nat.mul_div_cancel _ (by decide)
  have hidx : q.index + q.count ≤ 16 := ((indexOk_iff ..).mp ha.2.2.2.2).2
  let new : List Setting := (words q.data).map settingOf
  have hnew : new.length = q.count := by rw [List.length_map, hcount]
  let x : TimerUnit := { s.timers with settings := replaceAt s.timers.settings q.index new }
  let w : State := u.setTimers x
  obtain ⟨c, hfold, hget⟩ := foldl_rerun ((List.range new.length).flatMap fun k => timerCounts (q.index + k)) w
  have hval : writeValues .timers q u = (w.setTimers { x with counts := c },
      if ∃ w ∈ words q.data, w % 32768 = 0 ∨ 1023 < w % 32768 then .okClamped else .ok) := by
    have hany : ((words q.data).any fun w => w % 32768 == 0 || decide (1023 < w % 32768))
        = decide (∃ w ∈ words q.data, w % 32768 = 0 ∨ 1023 < w % 32768) := by
      rw [← Bool.coe_iff_coe, List.any_eq_true, decide_eq_true_iff]
      simp only [Bool.or_eq_true, beq_iff_eq, decide_eq_true_eq]
    show writeTimerSettings q u = _
    rw [writeTimerSettings, hany, htimers]
    exact Prod.ext hfold (stored_eq _)
  have hx : exec (.writeTimers v q) s = .next (writeRequest v q s) :=
    congrArg Host.Outcome.next (writeRequest_of_object ha.1 v s)
  let t : State := r.setTimers { x with counts := c }
  have hrun : exec (.writeTimers v q) s = .next t := by
    rw [hx, writeRequest_admitted hj ha hval]
    have hbase : ({ x with counts := c } : TimerUnit).timebase = u.timers.timebase := by rw [htimers]
    exact congrArg Host.Outcome.next (replied_setTimers (s := u) hv hbase _ q _ _)
  have hset : ∀ k, t.setting k = if written k then stored' ((words q.data).getD (k - q.index) 0) else s.setting k := by
    intro k
    have hrep := getD_replaceAt (l := s.timers.settings) (new := new) (i := q.index) (by rw [hnew, hlen]; exact hidx) k
      ⟨1, .fine⟩
    refine hrep.trans ?_
    rw [hnew]
    by_cases hk : written k
    · rw [if_pos hk, if_pos hk]
      have hlt : k - q.index < (words q.data).length := by
        obtain ⟨h1, h2⟩ := hk
        omega
      simp only [new, List.getD_eq_getElem?_getD, List.getElem?_map, List.getElem?_eq_getElem hlt, Option.map_some,
        Option.getD_some]
      exact settingOf_eq (words_lt (List.getElem_mem hlt))
    · rw [if_neg hk, if_neg hk]
      rfl
  refine ⟨t, hrun, rfl, rfl, ?_, fun k _ => hset k, fun id => ?_⟩
  · exact (length_replaceAt (by rw [hnew, hlen]; exact hidx)).trans hlen
  · have hwc : w.count id = s.count id := rfl
    have hper : w.period id = (t.setting id.number).period := rfl
    refine (hget id).trans ?_
    rw [hwc, hper]
    refine if_congr (and_congr_left fun _ => ?_) rfl rfl
    rw [mem_written_counts, hnew]

end Sys2Proof.Machine
end

section
/-! SUPPORT. The writes of the staged banks, and COMMIT. -/

namespace Sys2Proof.Machine

open Sys2Proof

/-! ### The staged banks (R40, R75 to R77) -/

/-- R40: a SERVICE element written. -/
theorem serviceOf_eq (a b : Byte) : serviceOf a b =
    if a.toNat / 32 % 4 = 3 ∨ 240 < b.toNat then none
    else some ⟨if a.getLsbD 7 = true then .stop else .pass,
      [TapDelivery.never, .addressed, .copy].getD (a.toNat / 32 % 4) .never, a.getLsbD 4, a.getLsbD 3, b.toNat⟩ := by
  have hcode : a.toNat / 32 % 4 = 3 ∧ tapDeliveryOf (a.toNat / 32 % 4) = none
      ∨ a.toNat / 32 % 4 ≠ 3 ∧ tapDeliveryOf (a.toNat / 32 % 4)
        = some ([TapDelivery.never, .addressed, .copy].getD (a.toNat / 32 % 4) .never) := by
    have hlt : a.toNat / 32 % 4 < 4 := Nat.mod_lt _ (by decide)
    generalize a.toNat / 32 % 4 = n at hlt ⊢
    revert n
    decide
  unfold serviceOf
  rcases hcode with ⟨h3, hnone⟩ | ⟨h3, hsome⟩
  · rw [hnone]
    exact (if_pos (.inl h3)).symm
  · rw [hsome]
    by_cases hb : b.toNat ≤ 240
    · exact (if_pos hb).trans (if_neg fun h => h.elim h3 (Nat.not_lt.mpr hb)).symm
    · exact (if_neg hb).trans (if_pos (.inr (Nat.lt_of_not_le hb))).symm

theorem getLsbD_setFlag (bank : BitVec 16) (i : Nat) (b : Bool) {g : Nat} (hg : g < 16) :
    (if b then bank ||| (1#16 <<< i) else bank &&& ~~~(1#16 <<< i)).getLsbD g = if g = i then b else bank.getLsbD g := by
  have hbit : (1#16 <<< i).getLsbD g = decide (g = i) := by
    rw [BitVec.getLsbD_shiftLeft, BitVec.getLsbD_one]
    by_cases h : g = i
    · simp [h]
      omega
    · by_cases hlt : g < i
      · simp [h, hlt]
      · have : g - i ≠ 0 := by omega
        simp [h, this]
  cases b
  · simp only [Bool.false_eq_true, if_false, BitVec.getLsbD_and, BitVec.getLsbD_not, hbit, hg, decide_true, Bool.true_and]
    by_cases h : g = i <;> simp [h]
  · simp only [if_true, BitVec.getLsbD_or, hbit]
    by_cases h : g = i <;> simp [h]

/-- R76: the flags that a write of a bank stores. -/
theorem getLsbD_setFlags (bank : BitVec 16) (i : Nat) (l : List Bool) {g : Nat} (hg : g < 16) :
    (setFlags bank i l).getLsbD g
      = if i ≤ g ∧ g < i + l.length then l.getD (g - i) false else bank.getLsbD g := by
  unfold setFlags
  induction l generalizing bank i with
  | nil =>
    rw [if_neg (by simp)]
    rfl
  | cons b l ih =>
    rw [List.zipIdx_cons, List.foldl_cons, ih, getLsbD_setFlag bank i b hg, List.length_cons]
    rcases Nat.lt_trichotomy g i with h | h | h
    · rw [if_neg (by omega), if_neg (by omega), if_neg (by omega)]
    · subst h
      rw [if_neg (by omega), if_pos rfl, if_pos (by omega), Nat.sub_self]
      rfl
    · have hs : g - i = (g - (i + 1)) + 1 := by omega
      rw [if_neg (show ¬g = i by omega), hs, List.getD_cons_succ]
      exact if_congr (by omega) rfl rfl

theorem allFlags_iff (l : List Byte) : allFlags l = true ↔ ∀ b ∈ l, b = 0 ∨ b = 1 := by
  have hb : ∀ b : Byte, b.toNat ≤ 1 ↔ b = 0 ∨ b = 1 := by decide
  simp [allFlags, hb]

theorem replied_groupsStaged (v : Via) (c : ReqCode) (q : Req) (st : Status) (data : List Byte) (s : State) :
    (s.replied v c q st data).relay.groupsStaged = s.relay.groupsStaged := by
  cases v with
  | tap done tag =>
    show (deliver (s.answer ⟨.self, 0⟩ tag (responseTo c q st data)) s).relay.groupsStaged = _
    unfold deliver
    split_ifs <;> rfl
  | train p h =>
    show (sendFrame s.answerPort _ s).relay.groupsStaged = _
    rw [sendFrame_relay]

/-! ### COMMIT (R86, R88, R190) -/

theorem olderCount_eq_zero (s : State) : s.olderCount = 0 ↔ ¬∃ x ∈ (s.queues .e1).frames ++ (s.queues .e2).frames,
    ∃ k, x.gen = some k ∧ k ≠ s.relay.generation := by
  have hold : ∀ x : Queued, s.older x = true ↔ ∃ k, x.gen = some k ∧ k ≠ s.relay.generation := fun x => by
    unfold State.older
    cases x.gen <;> simp
  rw [State.olderCount, List.countP_eq_zero]
  simp only [hold, not_exists, not_and]

/-- Settles O47: the banks written, and what a COMMIT copies. -/
theorem banksWrittenAndCommitted : Obligations.BanksWrittenAndCommitted := by
  refine ⟨⟨fun v q s hj ha => ?_, fun v q s hj ha => ?_⟩, fun i p h q s hw hi hj => ?_⟩
  · intro u entry
    have hx : exec (.writeService v q) s = .next (writeRequest v q s) :=
      congrArg Host.Outcome.next (writeRequest_of_object ha.1 v s)
    have hentry : (fun x : Byte × Byte => serviceOf x.1 x.2) = entry := funext fun x => serviceOf_eq x.1 x.2
    have hval : writeValues .service q u = writeServiceTable q u := rfl
    rw [writeServiceTable, hentry] at hval
    rw [hx]
    refine ⟨fun l hl => ?_, fun hn => ?_⟩ <;> refine congrArg Host.Outcome.next (writeRequest_admitted hj ha ?_)
    · rw [hl] at hval
      exact hval
    · rw [hn] at hval
      exact hval
  · intro u
    have hx : exec (.writeGroups v q) s = .next (writeRequest v q s) :=
      congrArg Host.Outcome.next (writeRequest_of_object ha.1 v s)
    rw [hx]
    refine ⟨fun hall => ?_, fun ⟨b, hb, hno⟩ => ?_⟩
    · let bank : BitVec 16 := setFlags u.relay.groupsStaged q.index (q.data.map isOne)
      have hval : writeValues .groups q u = (u.setRelay { u.relay with groupsStaged := bank }, .ok) :=
        if_pos ((allFlags_iff _).mpr hall)
      let t : State := (u.setRelay { u.relay with groupsStaged := bank }).replied v .write q .ok []
      have ht : t.relay.groupsStaged = bank := replied_groupsStaged ..
      refine ⟨t, congrArg Host.Outcome.next (writeRequest_admitted hj ha hval), fun g => ?_, ?_⟩
      · rw [ht, getLsbD_setFlags _ _ _ g.isLt, List.length_map]
        have hold : u.relay.groupsStaged = s.relay.groupsStaged := by
          obtain ⟨x, y, z, w, hr⟩ := whenTaken_relay v .write q s
          rw [show u.relay = _ from hr]
        have hbit : (q.data.map isOne).getD (g.val - q.index) false = decide (q.data.getD (g.val - q.index) 0 = 1) :=
          List.getD_map (f := isOne) (d := (0 : Byte)) ..
        rw [hold, hbit]
      · rw [ht]
    · exact congrArg Host.Outcome.next (writeRequest_admitted hj ha
        (if_neg fun hall => (allFlags_iff _).mp hall b hb |>.elim hno.1 hno.2))
  · intro v u g done older
    obtain ⟨-, levels, hx⟩ := exec_of_requestOf hw hi
    have hg := gate_of_judges hj rfl
    rw [hx]
    obtain ⟨queues, tapQueue, report, select, hrel⟩ := whenTaken_relay v .commit q s
    have hdrain : u.relay.draining = s.relay.draining := by rw [show u.relay = _ from hrel]
    have hbanks : commitBanks u = done := by
      have hgen : u.relay.generation = s.relay.generation := by rw [show u.relay = _ from hrel]
      have hser : u.relay.serviceStaged = s.relay.serviceStaged := by rw [show u.relay = _ from hrel]
      have hgr : u.relay.groupsStaged = s.relay.groupsStaged := by rw [show u.relay = _ from hrel]
      rw [commitBanks, hgen, hser, hgr]
      rfl
    have holder : done.olderCount = 0 ↔ ¬older := olderCount_eq_zero done
    have hans : ∀ t st data, carryCommit q .train h.tag u = (t, some (st, data)) →
        request v .commit q (serve .commit q (carryOf levels q .commit)) s = t.replied v .commit q st data :=
      fun t st data he => request_answered hj.1 hg he
    have hcarry : carryCommit q .train h.tag u = if 1 < q.index then (u, answered .invalid)
        else if s.relay.draining = true then (u, answered .busy)
        else if q.index = 0 then (done, answered .ok)
        else if done.olderCount = 0 then (done, some (.ok, [0]))
        else (beginDrain h.tag done, none) := by
      rw [← hbanks, ← hdrain]
      rfl
    rw [hcarry] at hans
    split_ifs with h1 h2 h3 h4
    · exact congrArg Host.Outcome.next (hans u .invalid [] (if_pos h1))
    · exact congrArg Host.Outcome.next (hans u .busy [] ((if_neg h1).trans (if_pos h2)))
    · exact congrArg Host.Outcome.next (hans done .ok [] ((if_neg h1).trans ((if_neg h2).trans (if_pos h3))))
    · have hwait : carryCommit q .train h.tag u = (beginDrain h.tag done, none) :=
        hcarry.trans ((if_neg h1).trans ((if_neg h2).trans ((if_neg h3).trans (if_neg fun h0 => holder.mp h0 h4))))
      refine congrArg Host.Outcome.next ((request_unanswered hj.1 hg hwait).trans ?_)
      have hper : u.period .t15 = (s.setting 15).period := (sameClock_whenTaken v .commit q s).period .t15
      have hm : u.mgmt = s.mgmt := whenTaken_mgmt ..
      rw [← hper, ← hm]
      rfl
    · refine congrArg Host.Outcome.next (hans done .ok [0] ((if_neg h1).trans ((if_neg h2).trans ((if_neg h3).trans ?_))))
      exact if_pos (holder.mpr h4)

end Sys2Proof.Machine
end

section
/-! SUPPORT. The reads: the checks, what collecting changes, and the layouts of R40. -/

namespace Sys2Proof.Machine

open Sys2Proof

/-! ### Codes of element fields (R40) -/

theorem nodeState_code (x : NodeState) : x.code = [NodeState.starting, .operating, .withdrawing, .withdrawn].idxOf x := by
  cases x <;> rfl

theorem withdrawCause_code (x : WithdrawCause) :
    x.code = [WithdrawCause.none, .requested, .startCheck].idxOf x := by cases x <;> rfl

theorem role_code (x : Role) : x.code = [Role.member, .master].idxOf x := by cases x <;> rfl

theorem consistState_code (x : ConsistState) : x.code = [ConsistState.uninaugurated, .inaugurating, .stable, .suspect,
    .blocked, .settling, .calling, .confirming].idxOf x := by cases x <;> rfl

theorem blockedReason_code (x : BlockedReason) :
    x.code = [BlockedReason.none, .overlong, .conflict, .duplicate, .noReturn].idxOf x := by cases x <;> rfl

theorem linkState_code (x : LinkState) : x.code = [LinkState.down, .arriving, .up, .faulted].idxOf x := by
  cases x <;> rfl

theorem orientation_code (x : Orientation) : x.code = [Orientation.normal, .reversed].idxOf x := by cases x <;> rfl

theorem farPort_code (x : FarPort) : x.code = [FarPort.down, .up, .faulted].idxOf x := by cases x <;> rfl

theorem doorState_code (x : DoorState) : x.code = [DoorState.closed, .released, .closing, .stuck].idxOf x := by
  cases x <;> rfl

theorem proof_code (x : Proof) : x.code = [Proof.proved, .notProved, .absent].idxOf x := by cases x <;> rfl

theorem tapDelivery_code (x : TapDelivery) : x.code = [TapDelivery.never, .addressed, .copy].idxOf x := by
  cases x <;> rfl

theorem arming_code (x : Arming) : x.code = [Arming.off, .assertion, .release, .both].idxOf x := by cases x <;> rfl

theorem lineFunction_code (x : LineFunction) : x.code = [LineFunction.none, .cabActive, .zeroSpeed, .doorProof .a,
    .doorProof .b, .doorInhibit .a, .doorInhibit .b, .heatFeedback, .heatDemand0, .heatDemand1, .heatDemand2, .generalIn,
    .none, .none, .none, .none, .doorRelease .a, .doorRelease .b, .doorClose .a, .doorClose .b, .trainDoorsClosed,
    .heatStage0, .heatStage1, .heatStage2, .generalOut].idxOf x := by
  cases x with
  | doorProof d => cases d <;> rfl
  | doorInhibit d => cases d <;> rfl
  | doorRelease d => cases d <;> rfl
  | doorClose d => cases d <;> rfl
  | _ => rfl

theorem faultKind_code (x : FaultKind) : x.code = [FaultKind.portFaulted, .portLost, .badKind, .queueFull, .tapOverrun,
    .staleEpoch, .misroute, .oversize, .rollMismatch, .cabMid, .inaugurationFailed, .summaryLost, .heatLost, .heatCount,
    .heatFeedback, .doorStuck, .doorAlertRaised, .drainDiscard, .denied].idxOf x + 1 := by cases x <;> rfl

/-! ### READ (R187, R203) -/

theorem gate_of_read (a : Access) (s : State) : s.requestGate a .read = none := by
  rcases requestGate_cases a .read s with ⟨-, h, -⟩ | ⟨-, h, -⟩ | ⟨-, he⟩
  · exact absurd rfl h
  · exact absurd rfl h
  · rw [he]
    rfl

/-- R187: the checks on a READ, in their order. -/
theorem readObject_eq {a : Access} {q : Req} {o : Object} (h : objectOf q.object = some o) (s : State) :
    readObject a q s = if o = .lineReport ∧ a = .train then (s, answered .denied)
      else if q.count = 0 ∨ 236 < q.count * o.size then (s, answered .invalid)
      else if q.index < (s.indexRange o).1 ∨ (s.indexRange o).2 < q.index + q.count then (s, answered .absent)
      else (readEffect o q.index q.count s, some (.ok, s.elements (stagedBank q.object) o q.index q.count)) := by
  have hread : (!o.readable a) = true ↔ o = .lineReport ∧ a = .train := by
    cases a <;> simp [Object.readable]
  have hindex : (!s.indexOk o q.index q.count) = true ↔
      q.index < (s.indexRange o).1 ∨ (s.indexRange o).2 < q.index + q.count := by
    rw [Bool.not_eq_true', ← Bool.not_eq_true, indexOk_iff]
    omega
  have hobject : readObject a q s = if (!o.readable a) = true then (s, answered .denied)
      else if q.count = 0 ∨ 236 < q.count * o.size then (s, answered .invalid)
      else if (!s.indexOk o q.index q.count) = true then (s, answered .absent)
      else (readEffect o q.index q.count s, some (.ok, s.elements (stagedBank q.object) o q.index q.count)) := by
    rw [readObject, h]
  rw [hobject]
  exact if_congr hread rfl (if_congr Iff.rfl rfl (if_congr hindex rfl rfl))

/-! ### Elements of a list of lines (R40) -/

theorem sum_mapIdx {α : Type} (f : Nat → α → Nat) (d : α) (l : List α) :
    (l.mapIdx f).sum = ((List.range l.length).map fun n => f n (l.getD n d)).sum := by
  congr 1
  refine List.ext_getElem (by simp) fun n h1 h2 => ?_
  have hn : n < l.length := by simpa using h1
  simp [List.getD, hn]

theorem lineAt_of_getElem? {s : State} {n : Nat} {l : LineRecord} (h : s.lines.line[n]? = some l) : s.lineAt n = l := by
  rw [State.lineAt, List.getD_eq_getElem?_getD, h]
  rfl

/-- Settles O46: the checks, what collecting changes, and every layout. -/
theorem readsAnswered : Obligations.ReadsAnswered := by
  refine ⟨fun i v q o s hw hi hr hobj => ?_, fun staged i s => ?_⟩
  · intro u answers taken collected read
    obtain ⟨-, levels, hx⟩ := exec_of_requestOf hw hi
    have hans : ∀ t st data, readObject (accessOf v) q u = (t, some (st, data)) →
        exec i s = .next (t.replied v .read q st data) := fun t st data he => by
      rw [hx]
      exact congrArg Host.Outcome.next (request_answered hr (gate_of_read _ _) he)
    have hrange : u.indexRange o = s.indexRange o := by
      cases o <;> simp only [State.indexRange, u, whenTaken_consist]
    have hobject := readObject_eq (a := accessOf v) hobj u
    rw [hrange] at hobject
    rw [hobject] at hans
    have hcollected : LineRecord.collected = collected := funext fun l => by
      have hcond : l.conditionAfter = if l.entry.arming = .assertion ∧ l.qualified = true
          ∨ l.entry.arming = .release ∧ l.qualified = false then .held else .ready := by
        unfold LineRecord.conditionAfter
        cases l.entry.arming <;> cases l.qualified <;> rfl
      simp only [LineRecord.collected, hcond, collected]
    have hread : readEffect o q.index q.count u = read := by
      cases o with
      | lineReport =>
        show u.setLines { u.lines with line := u.lines.line.map LineRecord.collected } = _
        rw [hcollected]
      | _ => rfl
    split_ifs with h1 h2 h3
    · exact hans u .denied [] (if_pos h1)
    · exact hans u .invalid [] ((if_neg h1).trans (if_pos h2))
    · exact hans u .absent [] ((if_neg h1).trans ((if_neg h2).trans (if_pos h3)))
    · rw [← hread]
      exact hans _ .ok _ ((if_neg h1).trans ((if_neg h2).trans (if_neg h3)))
  · intro num one two four side link source kinds functions
    have hnum : ∀ b, num b = flag b := fun b => rfl
    refine ⟨rfl, ?_, fun e he => ?_, fun e he => ?_, rfl, fun l hl => ⟨?_, ?_, ?_⟩, fun hlen => ?_, rfl, ?_, fun x hx => ?_,
      rfl, rfl, rfl, fun x hx => ?_, fun hf => ?_, fun r hf => ?_⟩
    · simp only [State.element, State.statusBytes, State.sideByte, nodeState_code, withdrawCause_code, role_code,
        consistState_code, blockedReason_code, linkState_code, orientation_code, doorState_code, proof_code, Nat.mul_comm _ 16, Nat.mul_comm _ 4,
        Nat.mul_comm _ 64, Nat.mul_comm _ 128]
      rfl
    · simp only [State.element, Nat.add_sub_cancel, he, Entry.bytes, orientation_code, farPort_code, Nat.mul_comm _ 128,
        Nat.mul_comm _ 64, Nat.mul_comm _ 32, Nat.mul_comm _ 8, Nat.mul_comm _ 16]
      rfl
    · simp only [State.element, List.getD_eq_getElem?_getD, he, Option.getD_some, ServiceEntry.bytes, tapDelivery_code,
        Nat.mul_comm _ 128, Nat.mul_comm _ 32, Nat.mul_comm _ 16, Nat.mul_comm _ 8]
      rfl
    · simp only [State.element, lineAt_of_getElem? hl, LineEntry.bytes, lineFunction_code, arming_code, Nat.mul_comm _ 128]
      rfl
    · simp only [State.element, lineAt_of_getElem? hl, State.levelByte, State.readback, State.commanded, Nat.mul_comm _ 2]
      rfl
    · simp only [State.element, lineAt_of_getElem? hl]
      rfl
    · have hmask : ∀ f : LineRecord → Bool, s.lineMask f = ((List.range 16).map fun n => num (f (s.lineAt n)) * 2 ^ n).sum :=
        fun f => by
          rw [State.lineMask, sum_mapIdx _ false, List.length_map, hlen]
          refine congrArg List.sum (List.map_congr_left fun n hn => ?_)
          have hlt : n < s.lines.line.length := by
            rw [hlen]
            exact List.mem_range.mp hn
          have hget : (s.lines.line.map f).getD n false = f (s.lineAt n) := by
            simp [State.lineAt, List.getD, hlt]
          rw [hget, hnum]
      simp only [State.element, State.reportBytes, hmask]
      rfl
    · simp only [State.element, State.descriptorByte, Nat.mul_comm _ 16]
      rfl
    · simp only [State.element, State.profileAt, List.getD_eq_getElem?_getD, hx, Option.getD_some]
      rfl
    · simp only [State.element, State.setting, List.getD_eq_getElem?_getD, hx, Option.getD_some, Setting.bytes,
        Nat.mul_comm _ 32768]
      rfl
    · simp only [State.element, List.getD_eq_getElem?_getD, hf, Option.getD_some]
      rfl
    · have hsource : r.source.code = source r.source := by
        rcases r.source with p | _ | d | _ | n
        · cases p <;> rfl
        · rfl
        · cases d <;> rfl
        · rfl
        · rfl
      simp only [State.element, List.getD_eq_getElem?_getD, hf, Option.getD_some, State.faultBytes, faultKind_code, hsource,
        Nat.mul_comm _ 64]
      rfl

end Sys2Proof.Machine
end

section
/-! SUPPORT. The writes of the inhibit flags and of the coach descriptor. -/

namespace Sys2Proof.Machine

open Sys2Proof

/-! ### Changes of the sides, the stage and the counts alone -/

/-- From the one state to the other the sides, the heat unit and the counts alone may change. -/
def State.ActedTo (s t : State) : Prop := ∃ y h c, t = s.acted { s.door with sides := y } h c

namespace State.ActedTo

theorem refl (s : State) : s.ActedTo s := ⟨s.door.sides, s.heat, s.timers.counts, rfl⟩

theorem trans {s t u : State} (h : s.ActedTo t) (k : t.ActedTo u) : s.ActedTo u := by
  obtain ⟨y, x, c, rfl⟩ := h
  obtain ⟨y', x', c', rfl⟩ := k
  exact ⟨y', x', c', rfl⟩

theorem setSide (d : Side) (x : SideRecord) (s : State) : s.ActedTo (s.setSide d x) :=
  ⟨s.door.sides.set d x, s.heat, s.timers.counts, rfl⟩

theorem setCount (u : TimerId) (n : Option Nat) (s : State) : s.ActedTo (s.setCount u n) :=
  ⟨s.door.sides, s.heat, s.timers.counts.set u n, rfl⟩

theorem heatRefresh (s : State) : s.ActedTo (heatRefresh s) := by
  obtain ⟨n, c, -, -, he⟩ := heatRefresh_eq s
  exact ⟨s.door.sides, _, _, he⟩

theorem closeReleased (d : Side) (s : State) : s.ActedTo (closeReleased d s) := by
  unfold Machine.closeReleased closeSide
  split_ifs
  · exact ((setSide d _ s).trans (setCount ..)).trans (heatRefresh _)
  · exact ((setSide d _ s).trans (setCount ..)).trans (heatRefresh _)
  · exact .refl s

section Fields

variable {s t : State} (h : s.ActedTo t)

include h

theorem door : t.door = { s.door with sides := t.door.sides } := by obtain ⟨y, x, c, rfl⟩ := h; rfl

theorem relay : t.relay = s.relay := by obtain ⟨y, x, c, rfl⟩ := h; rfl

theorem faults : t.faults = s.faults := by obtain ⟨y, x, c, rfl⟩ := h; rfl

theorem consist : t.consist = s.consist := by obtain ⟨y, x, c, rfl⟩ := h; rfl

theorem lines : t.lines = s.lines := by obtain ⟨y, x, c, rfl⟩ := h; rfl

theorem ports : t.ports = s.ports := by obtain ⟨y, x, c, rfl⟩ := h; rfl

theorem bypass : t.bypass = s.bypass := by obtain ⟨y, x, c, rfl⟩ := h; rfl

theorem mgmt : t.mgmt = s.mgmt := by obtain ⟨y, x, c, rfl⟩ := h; rfl

theorem timebase : t.timers.timebase = s.timers.timebase := by obtain ⟨y, x, c, rfl⟩ := h; rfl

end Fields

end State.ActedTo

/-! ### The answer to a LOCAL request (R95, R192) -/

section Replied

variable (v : Via) (c : ReqCode) (q : Req) (st : Status) (data : List Byte)

theorem replied_door (s : State) : (s.replied v c q st data).door = s.door := by
  cases v with
  | tap done tag => exact deliver_door ..
  | train p h => exact sendFrame_door ..

theorem replied_consist (s : State) : (s.replied v c q st data).consist = s.consist := by
  cases v with
  | tap done tag => exact deliver_consist ..
  | train p h => exact sendFrame_consist ..

theorem replied_lines (s : State) : (s.replied v c q st data).lines = s.lines := by
  cases v with
  | tap done tag => exact deliver_lines ..
  | train p h => exact sendFrame_lines ..

theorem replied_ports (s : State) : (s.replied v c q st data).ports = s.ports := by
  cases v with
  | tap done tag => exact deliver_ports ..
  | train p h => exact sendFrame_ports ..

theorem replied_bypass (s : State) : (s.replied v c q st data).bypass = s.bypass := by
  cases v with
  | tap done tag => exact deliver_bypass ..
  | train p h => exact sendFrame_bypass ..

theorem replied_mgmt (s : State) : (s.replied v c q st data).mgmt = s.mgmt := by
  cases v with
  | tap done tag => exact deliver_mgmt ..
  | train p h => exact sendFrame_mgmt ..

variable {v}

/-- R192, R199: the answer in the tap queue depends on the relay unit, the faults, the time and the own address. -/
theorem replied_of_same (hv : accessOf v = .ownTap) {s t : State} (hr : t.relay = s.relay) (hf : t.faults = s.faults)
    (ht : t.timers.timebase = s.timers.timebase) (he : t.consist.epoch = s.consist.epoch)
    (hp : t.consist.position = s.consist.position) : (t.replied v c q st data).relay = (s.replied v c q st data).relay
      ∧ (t.replied v c q st data).faults = (s.replied v c q st data).faults := by
  cases v with
  | train p h => cases hv
  | tap done tag =>
    have ha : t.answer ⟨.self, 0⟩ tag (responseTo c q st data) = s.answer ⟨.self, 0⟩ tag (responseTo c q st data) := by
      simp only [State.answer, State.ownHeader, he, hp]
    have hd : ∀ f, (deliver f t).relay = (deliver f s).relay ∧ (deliver f t).faults = (deliver f s).faults := fun f => by
      unfold deliver
      rw [hr]
      split_ifs
      · exact ⟨by simp only [State.setTapQueue, State.setRelay_relay, hr], hf⟩
      · exact ⟨hr, by simp only [recordFault, State.setFaults_faults, hf, ht, he]⟩
    obtain ⟨h1, h2⟩ := hd (s.answer ⟨.self, 0⟩ tag (responseTo c q st data))
    simp only [State.replied, ha, setIntake, State.setRelay_relay, h1]
    exact ⟨trivial, h2⟩

end Replied

/-! ### The inhibit flags (R123, R130) -/

/-- R130: a side after a local close. -/
def locallyClosed (x : SideRecord) : SideRecord :=
  if x.state = .released then { x with state := if x.proof = .proved then .closed else .closing } else x

theorem closeReleased_side_eq (d e : Side) (s : State) :
    (closeReleased d s).side e = if e = d then locallyClosed (s.side e) else s.side e := by
  by_cases he : e = d
  · subst he
    rw [if_pos rfl]
    unfold closeReleased locallyClosed
    by_cases hr : (s.side e).state = .released
    · rw [if_pos hr, if_pos hr, closeSide, heatRefresh_side]
      split_ifs
      · exact State.side_setSide s e _
      · exact State.side_setSide s e _
    · rw [if_neg hr, if_neg hr]
  · rw [if_neg he, closeReleased_side_ne he]

theorem setInhibit_actedTo (d : Side) (b : Bool) (s : State) : s.ActedTo (setInhibit d b s) := by
  unfold setInhibit
  dsimp only
  split_ifs
  · exact (State.ActedTo.setSide d _ s).trans (.closeReleased ..)
  · exact .setSide d _ s

/-- R123, R130: a side whose inhibit flag is written. -/
def inhibitWritten (b : Bool) (x : SideRecord) : SideRecord :=
  if b then locallyClosed { x with localInhibit := b } else { x with localInhibit := b }

theorem setInhibit_side (d e : Side) (b : Bool) (s : State) :
    (setInhibit d b s).side e = if e = d then inhibitWritten b (s.side e) else s.side e := by
  unfold setInhibit inhibitWritten
  dsimp only
  by_cases he : e = d
  · subst he
    cases b
    · simp
    · simp [closeReleased_side_eq]
  · cases b
    · simp [he, State.side_setSide_ne]
    · simp [he, closeReleased_side_eq, State.side_setSide_ne]

/-- R123, R130: the sides after a write of one or two flags. -/
theorem foldl_setInhibit {i : Nat} {l : List Byte} (hl : l ≠ []) (hi : i + l.length ≤ 2) (s : State) :
    let t := (l.zipIdx i).foldl (fun s x => setInhibit (sideAt x.2) (isOne x.1) s) s
    s.ActedTo t ∧ ∀ d : Side, let n := if d = .a then 0 else 1
      t.side d = if i ≤ n ∧ n < i + l.length then inhibitWritten (isOne (l.getD (n - i) 0)) (s.side d) else s.side d := by
  rcases l with _ | ⟨a, _ | ⟨b, _ | ⟨c, l⟩⟩⟩
  · exact absurd rfl hl
  · have h01 : i = 0 ∨ i = 1 := by
      simp only [List.length_cons, List.length_nil] at hi
      omega
    rcases h01 with rfl | rfl
    all_goals
      refine ⟨setInhibit_actedTo _ _ s, fun d => ?_⟩
      cases d <;> simp [setInhibit_side, sideAt]
  · obtain rfl : i = 0 := by
      simp only [List.length_cons, List.length_nil] at hi
      omega
    refine ⟨(setInhibit_actedTo _ _ s).trans (setInhibit_actedTo ..), fun d => ?_⟩
    cases d <;> simp [setInhibit_side, sideAt]
  · simp only [List.length_cons] at hi
    omega

theorem inhibitWritten_eq (b : Byte) (x : SideRecord) (hb : b = 0 ∨ b = 1) : inhibitWritten (isOne b) x
    = { x with
        localInhibit := decide (b = 1)
        state := if b = 1 ∧ x.state = .released then (if x.proof = .proved then .closed else .closing) else x.state } := by
  rcases hb with rfl | rfl
  · rfl
  · by_cases hr : x.state = .released <;> simp [inhibitWritten, isOne, locallyClosed, hr]

/-! ### The coach descriptor (R73, R132) -/

theorem closeDoorless_actedTo (d : Side) (s : State) : s.ActedTo (closeDoorless d s) := by
  unfold closeDoorless
  split_ifs
  · exact .refl s
  · exact (State.ActedTo.setSide d _ s).trans (.setCount ..)

theorem closeDoorless_heat (d : Side) (s : State) : (closeDoorless d s).heat = s.heat := by
  unfold closeDoorless
  split_ifs <;> rfl

theorem closeDoorless_side (d e : Side) (s : State) :
    (closeDoorless d s).side e = if e = d then { s.side e with state := .closed } else s.side e := by
  unfold closeDoorless
  by_cases he : e = d
  · subst he
    rw [if_pos rfl]
    split_ifs with hc
    · rw [← hc]
    · exact State.side_setSide s e _
  · rw [if_neg he]
    split_ifs
    · rfl
    · exact State.side_setSide_ne s he _

theorem count_closeDoorless (d e : Side) (s : State) : (closeDoorless d s).count (.t10 e)
    = if e = d ∧ (s.side d).state ≠ .closed then none else s.count (.t10 e) := by
  unfold closeDoorless
  by_cases hc : (s.side d).state = .closed
  · rw [if_pos hc, if_neg fun h => h.2 hc]
  · rw [if_neg hc]
    by_cases he : e = d
    · subst he
      rw [if_pos ⟨rfl, hc⟩]
      exact count_stopTimer ..
    · rw [if_neg fun h => he h.1]
      exact count_stopTimer_ne (fun h => he (TimerId.t10.inj h)) (setDoorState d .closed s)

/-- R132: a coach that has no doors any more. -/
def doorless (s : State) : State := closeDoorless .b (closeDoorless .a s)

theorem doorless_actedTo (s : State) : s.ActedTo (doorless s) :=
  (closeDoorless_actedTo .a s).trans (closeDoorless_actedTo .b _)

theorem doorless_heat (s : State) : (doorless s).heat = s.heat := by rw [doorless, closeDoorless_heat, closeDoorless_heat]

theorem doorless_side (d : Side) (s : State) : (doorless s).side d = { s.side d with state := .closed } := by
  rw [doorless, closeDoorless_side, closeDoorless_side]
  cases d <;> rfl

theorem count_doorless (d : Side) (s : State) :
    (doorless s).count (.t10 d) = if (s.side d).state ≠ .closed then none else s.count (.t10 d) := by
  rw [doorless, count_closeDoorless, count_closeDoorless, closeDoorless_side]
  cases d <;> simp

/-- Settles O29: the flags with the sides they close, and the descriptor. -/
theorem doorObjectsWritten : Obligations.DoorObjectsWritten := by
  refine ⟨fun v q s hj ha => ?_, fun v q b s hj ha hb => ?_⟩
  · intro u
    have hv : accessOf v = .ownTap := (Option.some.inj ha.2.1).symm
    have hx : exec (.writeDoorInhibit v q) s = .next (writeRequest v q s) :=
      congrArg Host.Outcome.next (writeRequest_of_object ha.1 v s)
    rw [hx]
    refine ⟨fun hall => ?_, fun ⟨b, hb, hno⟩ => ?_⟩
    · obtain ⟨hcount, hlen, -⟩ := shapeOk_iff ha.2.2.2.1
      have hlen1 : q.data.length = q.count := hlen.trans (Nat.mul_one _)
      have hidx : q.index + q.data.length ≤ 2 := by
        rw [hlen1]
        exact ((indexOk_iff ..).mp ha.2.2.2.2).2
      have hne : q.data ≠ [] := fun h => hcount (by rw [← hlen1, h]; rfl)
      let w : State := (q.data.zipIdx q.index).foldl (fun s x => setInhibit (sideAt x.2) (isOne x.1) s) u
      obtain ⟨hact, hside⟩ : u.ActedTo w ∧ _ := foldl_setInhibit hne hidx u
      have hval : writeValues .doorInhibit q u = (w, .ok) := if_pos ((allFlags_iff _).mpr hall)
      refine ⟨w.replied v .write q .ok [], congrArg Host.Outcome.next (writeRequest_admitted hj ha hval), ?_⟩
      obtain ⟨hrel, hflt⟩ := replied_of_same .write q .ok [] hv hact.relay hact.faults hact.timebase
        (congrArg ConsistUnit.epoch hact.consist) (congrArg ConsistUnit.position hact.consist)
      refine ⟨fun d => ?_, ?_, hrel, hflt, ?_, ?_, ?_, ?_, ?_⟩
      · intro n b
        have hd : (w.replied v .write q .ok []).side d = w.side d := by rw [State.side, replied_door]; rfl
        have hu : u.side d = s.side d := by rw [State.side, whenTaken_door]; rfl
        rw [hd]
        refine (hside d).trans ?_
        rw [hu]
        by_cases hn : q.index ≤ n ∧ n < q.index + q.data.length
        · refine (if_pos hn).trans ((inhibitWritten_eq b (s.side d) (hall b ?_)).trans (if_pos hn).symm)
          have hlt : n - q.index < q.data.length := by omega
          simp only [b, List.getD_eq_getElem?_getD, List.getElem?_eq_getElem hlt, Option.getD_some]
          exact List.getElem_mem hlt
        · exact (if_neg hn).trans (if_neg hn).symm
      · rw [replied_door, hact.door, whenTaken_door]
      · rw [replied_consist, hact.consist, whenTaken_consist]
      · rw [replied_lines, hact.lines, whenTaken_lines]
      · rw [replied_ports, hact.ports]
      · rw [replied_bypass, hact.bypass, whenTaken_bypass]
      · rw [replied_mgmt, hact.mgmt, whenTaken_mgmt]
    · exact congrArg Host.Outcome.next (writeRequest_admitted hj ha
        (if_neg fun hall => (allFlags_iff _).mp hall b hb |>.elim hno.1 hno.2))
  · intro u gone
    have hv : accessOf v = .ownTap := (Option.some.inj ha.2.1).symm
    have hx : exec (.writeCoachDescriptor v q) s = .next (writeRequest v q s) :=
      congrArg Host.Outcome.next (writeRequest_of_object ha.1 v s)
    rw [hx]
    let s1 : State := u.setConsist { s.consist with coachClass := b.toNat / 16, doors := b.toNat % 8 }
    let w : State := if gone then doorless s1 else s1
    have hval : writeValues .coachDescriptor q u = (heatRefresh w, .ok) := by
      have hc : u.consist = s.consist := whenTaken_consist ..
      show writeDescriptor q u = _
      rw [writeDescriptor, hb]
      dsimp only
      rw [setDescriptor, hc]
      rfl
    have hact : s1.ActedTo (heatRefresh w) := by
      refine State.ActedTo.trans ?_ (.heatRefresh w)
      by_cases hg : gone
      · rw [show w = _ from if_pos hg]
        exact doorless_actedTo s1
      · rw [show w = _ from if_neg hg]
        exact .refl s1
    have hheat : w.heat = s.heat := by
      rw [← show u.heat = s.heat from whenTaken_heat ..]
      by_cases hg : gone
      · rw [show w = _ from if_pos hg]
        exact doorless_heat s1
      · rw [show w = _ from if_neg hg]
        rfl
    obtain ⟨hrel, hflt⟩ := replied_of_same .write q .ok [] hv (s := u) (t := heatRefresh w) hact.relay hact.faults hact.timebase
      (by rw [hact.consist, whenTaken_consist]; rfl) (by rw [hact.consist, whenTaken_consist]; rfl)
    have hus : ∀ d, s1.side d = s.side d := fun d => by
      rw [State.side, State.setConsist_door, whenTaken_door]
      rfl
    have huc : ∀ d, s1.count (.t10 d) = s.count (.t10 d) := fun d => count_of_timers (whenTaken_timers v _ q s hv)
    refine ⟨_, congrArg Host.Outcome.next (writeRequest_admitted hj ha hval), ?_, fun d => ⟨?_, ?_⟩, ?_, ?_, hrel, hflt,
      ?_, ?_, ?_, ?_⟩
    · rw [replied_consist, hact.consist]
      rfl
    · rw [State.side, replied_door]
      show (heatRefresh w).side d = _
      rw [heatRefresh_side]
      by_cases hg : gone
      · rw [if_pos hg, show w = _ from if_pos hg, doorless_side, hus]
      · rw [if_neg hg, show w = _ from if_neg hg, hus]
    · rw [count_replied, count_heatRefresh (by simp)]
      by_cases hg : gone
      · rw [show w = _ from if_pos hg, count_doorless, hus, huc]
        exact if_congr ⟨fun h => ⟨hg, h⟩, fun h => h.2⟩ rfl rfl
      · rw [show w = _ from if_neg hg, if_neg fun h => hg h.1, huc]
    · rw [replied_door, hact.door, State.setConsist_door, whenTaken_door]
    · rw [replied_heat, ← hheat]
      exact heatRefresh_le w
    · rw [replied_lines, hact.lines, State.setConsist_lines, whenTaken_lines]
    · rw [replied_ports, hact.ports]
      rfl
    · rw [replied_bypass, hact.bypass, State.setConsist_bypass, whenTaken_bypass]
    · rw [replied_mgmt, hact.mgmt, State.setConsist_mgmt, whenTaken_mgmt]

end Sys2Proof.Machine
end

section
/-! SUPPORT. The entry to UNINAUGURATED, and the timers of a member. -/

namespace Sys2Proof.Machine

open Sys2Proof

/-! ### The entry to UNINAUGURATED (R69, R131, R166, R168) -/

theorem localClose_side_eq (d : Side) (s : State) : (localClose s).side d = locallyClosed (s.side d) := by
  rw [localClose, closeReleased_side_eq, closeReleased_side_eq]
  cases d <;> rfl

theorem abandonWalks_side (d : Side) (s : State) : (abandonWalks s).side d = s.side d := by
  simp [State.side, abandonWalks]

/-- R131: what becomes of the sides at a state that closes them. -/
theorem enterState_side_eq {x : ConsistState} (hx : x.closesDoors = true) (r : Role) (d : Side) (s : State) :
    (enterState r x s).side d = locallyClosed (s.side d) := by
  rw [enterState_eq, madeReady]
  dsimp only
  rw [if_pos hx]
  generalize hs1 : (if s.stableMaster = true ∧ ¬(r = .master ∧ x = .stable) then abandonWalks s else s) = s1
  have h1 : s1.side d = s.side d := by
    rw [← hs1]
    split_ifs
    · exact abandonWalks_side d s
    · rfl
  rw [State.side_setConsist]
  split_ifs
  · rw [localClose_side_eq, h1]
  · rw [heatUnsettled_side, localClose_side_eq, h1]

theorem enterUninaugurated_side (d : Side) (s : State) :
    (enterUninaugurated s).side d = locallyClosed (s.side d) := by
  rw [enterUninaugurated, enterState_side_eq rfl]
  simp only [State.side, State.setConsist_door, stopTimers_door, clearConsist_door]

theorem locallyClosed_state (x : SideRecord) : (locallyClosed x).state
    = if x.state = .released then (if x.proof = .proved then .closed else .closing) else x.state := by
  unfold locallyClosed
  split_ifs <;> rfl

/-- R166, R168: the heating at the entry to UNINAUGURATED. -/
theorem enterUninaugurated_heat (s : State) : (enterUninaugurated s).heat.walkRecord = none
    ∧ (enterUninaugurated s).heat.fallback = true ∧ (enterUninaugurated s).heat.applied ≤ s.heat.applied := by
  unfold enterUninaugurated
  dsimp only
  generalize hv : (stopTimers consistTimers (clearConsist s)).setConsist _ = v
  have hle : v.heat.applied = s.heat.applied := by simp [← hv]
  rw [← hle]
  exact enterState_unsettled rfl .member v

/-! ### The timers of a member (R66 to R69) -/

/-- Settles O37: T5 and T6 end in UNINAUGURATED, T9 in SUSPECT. -/
theorem memberTimers : Obligations.MemberTimers := by
  intro s hn hm outside
  have hlost : ∀ k : TimerId, outside (enterUninaugurated (s.setCount k none)) := fun k => by
    obtain ⟨hrec, hfall, hle⟩ := enterUninaugurated_heat (s.setCount k none)
    refine ⟨?_, fun u hu => count_enterUninaugurated_none hu _, fun d => ?_, hrec, hfall, hle, ?_⟩
    · simp [enterUninaugurated_consist, hm]
    · rw [enterUninaugurated_side, locallyClosed_state]
      rfl
    · simp
  refine ⟨fun hs hc => ⟨_, ?_, hlost .t5⟩, fun hs hc => ⟨_, ?_, hlost .t6⟩, fun hs hc => ?_⟩
  · exact congrArg Host.Outcome.next ((if_pos (ranOut_of (operating_of_node hn) hc)).trans (if_pos hs))
  · exact congrArg Host.Outcome.next ((if_pos (ranOut_of (operating_of_node hn) hc)).trans (if_pos hs))
  · have hmem : (!(s.setCount .t9 none).isMaster) = true ∧ (s.setCount .t9 none).consist.state = .stable :=
      ⟨by simp [State.isMaster, hm], hs⟩
    refine congrArg Host.Outcome.next
      ((if_pos (ranOut_of (operating_of_node hn) hc)).trans ((if_pos hmem).trans ?_))
    exact (enterSuspect_of_member (s := s.setCount .t9 none) hm).trans 
      (congrArg (fun c => State.setCount c .t6 _) (setCount_setCount (s.setConsist _) .t9 none none))

end Sys2Proof.Machine
end

section
/-! SUPPORT. A qualified edge. -/

namespace Sys2Proof.Machine

open Sys2Proof

/-! ### The line at its edge (R106, R113, R114) -/

theorem due_iff (now : Stamp) (l : LineRecord) :
    l.due now = true ↔ ∃ b, l.change = .since b ∧ l.entry.debounce ≤ (now - b).toNat := by
  unfold LineRecord.due
  cases hc : l.change with
  | since b => simp
  | none => simp
  | afresh => simp

theorem takes_iff (a : Arming) (level : Bool) : a.takes level = true ↔ a = .both
    ∨ a = .assertion ∧ level = true ∨ a = .release ∧ level = false := by
  cases a <;> simp [Arming.takes]

theorem armedFor_iff (e : LineEntry) (level : Bool) : e.armedFor level = true ↔ e.function ≠ .none ∧ (e.arming = .both
    ∨ e.arming = .assertion ∧ level = true ∨ e.arming = .release ∧ level = false) := by
  rw [LineEntry.armedFor, Bool.and_eq_true, takes_iff, bne_iff_ne]

theorem reportEdge_eq (level : Bool) (l : LineRecord) : l.reportEdge level
    = if l.condition = .ready ∧ l.entry.armedFor level = true then
        { l with reported := true, recorded := level, condition := .latched }
      else if l.condition = .held ∧ ¬l.entry.armedFor level = true then { l with condition := .ready }
      else l := by
  unfold LineRecord.reportEdge
  cases hc : l.condition <;> cases ha : l.entry.armedFor level <;> simp

/-! ### What the owner does (R109) -/

theorem exec_qualifiedEdge_of_due {n : Fin 16} {s : State} (ho : s.operating = true)
    (hd : (s.lineAt n.val).due s.timers.timebase = true) :
    exec (.qualifiedEdge n) s = .next (ownerEdge (s.lineAt n.val).entry.function (!(s.lineAt n.val).qualified)
      (s.setLine n.val (s.lineAt n.val).edged)) :=
  congrArg Host.Outcome.next (if_pos (by rw [ho, hd]; rfl))

theorem ownerEdge_of_unowned {f : LineFunction} (h : f = .none ∨ f = .zeroSpeed ∨ f = .generalIn ∨ f.isOutput = true)
    (level : Bool) (s : State) : ownerEdge f level s = s := by
  rcases h with rfl | rfl | rfl | h
  · rfl
  · rfl
  · rfl
  · cases f <;> first | rfl | cases h

theorem ownerEdge_of_demand {f : LineFunction} (h : f = .heatDemand0 ∨ f = .heatDemand1 ∨ f = .heatDemand2)
    (level : Bool) (s : State) : ownerEdge f level s = heatRefresh s := by
  rcases h with rfl | rfl | rfl <;> rfl

theorem closeReleased_eq_applyClose (d : Side) (s : State) :
    closeReleased d s = if (s.side d).state = .released then applyClose d s else s := by
  unfold closeReleased applyClose
  split_ifs with hr
  · rw [hr]
  · rfl

theorem ownerEdge_of_inhibit (d : Side) (level : Bool) (s : State) : ownerEdge (.doorInhibit d) level s
    = if level = true ∧ (s.side d).state = .released then applyClose d s else s := by
  cases level
  · simp [ownerEdge]
  · simp [ownerEdge, closeReleased_eq_applyClose]

/-- Settles O49: the edge of a line that is due, by the line's function. -/
theorem edgeQualified : Obligations.EdgeQualified := by
  intro n s l due level armed turned after u
  have hafter : l.edged = after := by
    have ha : l.turned.entry.armedFor level = true ↔ armed := armedFor_iff ..
    have hc : l.turned.condition = l.condition := rfl
    rw [LineRecord.edged, show l.turned.qualified = level from rfl, reportEdge_eq]
    simp only [hc, ha]
    rfl
  have hdue : due ↔ (s.operating && l.due s.timers.timebase) = true := by
    rw [Bool.and_eq_true, due_iff, State.operating, beq_iff_eq]
  have hexec : due → ∀ f, l.entry.function = f → exec (.qualifiedEdge n) s = .next (ownerEdge f level u) := fun hd f hf => by
    obtain ⟨ho, hl⟩ := Bool.and_eq_true_iff.mp (hdue.mp hd)
    rw [exec_qualifiedEdge_of_due ho hl]
    subst hf
    exact congrArg (fun x => Host.Outcome.next (ownerEdge l.entry.function level (s.setLine n.val x))) hafter
  refine ⟨fun hd => ?_, fun hd => ⟨fun d hf => ?_, fun d hf => ?_, fun hf => ?_, fun hf => ?_, fun hf => ?_,
    fun hf => ?_⟩⟩
  · exact congrArg Host.Outcome.next (if_neg (mt hdue.mpr hd))
  · exact hexec hd _ hf
  · exact (hexec hd _ hf).trans (congrArg Host.Outcome.next (ownerEdge_of_inhibit d level u))
  · exact hexec hd _ hf
  · exact (hexec hd _ rfl).trans (congrArg Host.Outcome.next (ownerEdge_of_demand hf level u))
  · exact (hexec hd _ rfl).trans (congrArg Host.Outcome.next (ownerEdge_of_unowned hf level u))
  · exact ⟨_, hexec hd _ hf, cabEdge_lines u, cabEdge_ports u, cabEdge_relay u⟩

end Sys2Proof.Machine
end

section
/-! SUPPORT. A step of the timebase. -/

namespace Sys2Proof.Machine

open Sys2Proof

/-! ### A port at the step (R4, R15) -/

/-- R4: the port's receive condition after a step of the timebase. -/
def State.portAtStep (s : State) (p : Port) (r : Reception) : PortState :=
  if r = .underWay ∧ s.hears p then { s.port p with rx := .inFrame }
  else if r = .bitsOver ∧ s.hears p then { s.port p with rx := .bitsOver }
  else s.port p

/-- R15: the port's T1 as the timebase steps. -/
def State.t1AtStep (s : State) (p : Port) (r : Reception) : Option Nat :=
  if (r = .ended ∧ s.receives p = true ∨ (r = .underWay ∨ r = .bitsOver) ∧ s.hears p) ∧ (s.port p).link ≠ .down then
    some (s.period (.t1 p))
  else s.count (.t1 p)

theorem hears_iff (s : State) (p : Port) : s.hears p ↔ s.receives p = true ∧ (s.port p).rx.open = true := by
  simp [State.hears, State.receives, and_assoc]

theorem keepAlive_eq (p : Port) (s : State) : keepAlive p s = s.setCount (.t1 p)
    (if (s.port p).link ≠ .down then some (s.period (.t1 p)) else s.count (.t1 p)) := by
  unfold keepAlive
  by_cases hl : (s.port p).link = .down
  · rw [if_pos hl, if_neg (not_not.mpr hl), setCount_count]
  · rw [if_neg hl, if_pos hl]
    rfl

theorem hearAtStep_of_open {p : Port} {s : State} (h : (s.port p).rx.open = true) (x : RxCondition) :
    hearAtStep p x s = (s.setPort p { s.port p with rx := x }).setCount (.t1 p)
      (if (s.port p).link ≠ .down then some (s.period (.t1 p)) else s.count (.t1 p)) := by
  unfold hearAtStep
  rw [if_pos h, keepAlive_eq]
  cases p <;> rfl

theorem midFrame_eq (p : Port) (r : Reception) (s : State) :
    midFrame p r s = (s.setPort p (s.portAtStep p r)).setCount (.t1 p) (s.t1AtStep p r) := by
  have hkept : (s.setPort p (s.port p)).setCount (.t1 p) (s.count (.t1 p)) = s := by
    rw [setPort_port, setCount_count]
  unfold midFrame State.portAtStep State.t1AtStep
  simp only [hears_iff]
  by_cases hr : s.receives p = true
  · rw [if_pos hr]
    cases r with
    | none => simp [hkept]
    | ended => simp [hr, keepAlive_eq, setPort_port]
    | underWay =>
      by_cases ho : (s.port p).rx.open = true
      · simp [hr, ho, hearAtStep_of_open ho]
      · simp [ho, hearAtStep, hkept]
    | bitsOver =>
      by_cases ho : (s.port p).rx.open = true
      · simp [hr, ho, hearAtStep_of_open ho]
      · simp [ho, hearAtStep, hkept]
  · simp [hr, hkept]

/-- R4, R15: both ports at the step. -/
theorem receiveAtStep_eq (now : Instant) (s : State) : receiveAtStep now s = { s with
    ports := ⟨s.portAtStep .e1 now.onE1, s.portAtStep .e2 now.onE2⟩
    timers := { s.timers with counts := { s.timers.counts with
      t1 := ⟨s.t1AtStep .e1 now.onE1, s.t1AtStep .e2 now.onE2⟩ } } } := by
  rw [receiveAtStep, midFrame_eq .e1, midFrame_eq .e2]
  rfl

theorem receiveAtStep_of_idle {s : State} (h : s.operating = false) (now : Instant) : receiveAtStep now s = s := by
  have hr : ∀ p, s.receives p = false := fun p => by simp [State.receives, State.portsRun, h]
  have hm : ∀ p r, midFrame p r s = s := fun p r => by
    unfold midFrame
    rw [if_neg (by simp [hr])]
  rw [receiveAtStep, hm, hm]

/-! ### The lines at the step (R103, R106, R117, R119) -/

theorem logic_eq (l : LineRecord) (raw : Bool) : l.logic raw = if l.entry.polarity = .activeHigh then raw else !raw := by
  unfold LineRecord.logic Polarity.turn
  cases l.entry.polarity <;> rfl

section Sampling

variable (levels : Levels) {s : State}

theorem sampleLines_of_starting (h : s.bypass.node = .starting) : sampleLines levels s = s := by
  rw [sampleLines, h]

theorem sampleLines_of_withdrawn (h : s.bypass.node = .withdrawing ∨ s.bypass.node = .withdrawn) :
    sampleLines levels s = s.setLines { s.lines with line := sampleAll LineRecord.rawTaken levels s.lines.line } := by
  rcases h with h | h <;> rw [sampleLines, h]

theorem sampleLines_of_later (h : s.bypass.node = .operating) (hf : s.lines.firstSample = false) : sampleLines levels s
    = s.setLines { s.lines with line := sampleAll (LineRecord.sampled s.timers.timebase) levels s.lines.line } := by
  rw [sampleLines, h]
  exact if_neg (by simp [hf])

theorem sampleLines_of_first (h : s.bypass.node = .operating) (hf : s.lines.firstSample = true) : sampleLines levels s
    = rereadOwners (s.setLines ⟨sampleAll LineRecord.taken levels s.lines.line, false⟩) := by
  rw [sampleLines, h]
  exact if_pos hf

end Sampling

/-- R117: the owners that read the first sample change the sides, the stage and the counts alone. -/
theorem rereadSide_actedTo (d : Side) (s : State) : s.ActedTo (rereadSide d s) := by
  have h1 : s.ActedTo (proofReread d s) := by
    unfold proofReread
    dsimp only
    split_ifs
    · exact ((State.ActedTo.setSide d _ s).trans (.setSide ..)).trans (.setCount ..)
    · exact .setSide d _ s
  rw [rereadSide_eq]
  refine State.ActedTo.trans ?_ (.heatRefresh _)
  split_ifs
  · exact h1.trans (.closeReleased ..)
  · exact h1

theorem rereadOwners_actedTo (s : State) : s.ActedTo (rereadOwners s) :=
  ((rereadSide_actedTo .a s).trans (rereadSide_actedTo ..)).trans (.heatRefresh _)

theorem count_rereadSide {u : TimerId} {d : Side} (h : u ≠ .t10 d ∧ u ≠ .t14) (s : State) :
    (rereadSide d s).count u = s.count u := by
  have h1 : (proofReread d s).count u = s.count u := by
    unfold proofReread
    dsimp only
    split_ifs
    · exact State.count_setCount_ne _ h.1 _
    · rfl
  rw [rereadSide_eq, count_heatRefresh h.2]
  split_ifs
  · rw [count_closeReleased d h, h1]
  · exact h1

theorem count_rereadOwners_t1 (p : Port) (s : State) : (rereadOwners s).count (.t1 p) = s.count (.t1 p) := by
  rw [rereadOwners, count_heatRefresh (by simp), count_rereadSide (by simp), count_rereadSide (by simp)]

theorem rereadSide_le (d : Side) (s : State) : (rereadSide d s).heat.applied ≤ s.heat.applied := by
  have h1 : (proofReread d s).heat = s.heat := by
    unfold proofReread
    dsimp only
    split_ifs <;> rfl
  rw [rereadSide_eq, ← h1]
  refine (heatRefresh_le _).trans ?_
  split_ifs
  · exact closeReleased_le d _
  · exact le_rfl

theorem rereadOwners_le (s : State) : (rereadOwners s).heat.applied ≤ s.heat.applied := by
  have ha := rereadSide_le .a s
  unfold rereadOwners
  generalize rereadSide .a s = t at ha
  have hb := rereadSide_le .b t
  generalize rereadSide .b t = u at hb
  exact (heatRefresh_le u).trans (hb.trans ha)

/-! ### The command -/

/-- Settles O51: the step by the node state. -/
theorem timebaseStep : Obligations.TimebaseStep := by
  intro now s low c timers logic sampled port alive ports t1
  have hstep : exec (.timebaseStep now) s = .next (sampleLines now.levels (advanceTimers (receiveAtStep now s))) := rfl
  let idle : State := { s with timers := timers c.t1 }
  let run : State := { s with ports := ports, timers := timers t1 }
  have hidle : s.bypass.node ≠ .operating → advanceTimers (receiveAtStep now s) = idle :=
    fun hn => by
      rw [receiveAtStep_of_idle (by simp [State.operating, hn])]
      rfl
  have hrun : advanceTimers (receiveAtStep now s) = run := by
    rw [receiveAtStep_eq]
    rfl
  have hlogic : ∀ (k : Nat) (l : LineRecord), l.logic (now.levels.getLsbD k) = logic k l := fun k l => logic_eq ..
  refine ⟨fun hn => ?_, fun hn => ?_, fun hn hf => ?_, fun hn hf => ?_⟩
  · rw [hstep, hidle (by simp [hn]), sampleLines_of_starting (s := idle) _ hn]
  · rw [hstep, hidle (by rcases hn with hn | hn <;> simp [hn]), sampleLines_of_withdrawn (s := idle) _ hn]
    rfl
  · rw [hstep, hrun, sampleLines_of_later (s := run) _ hn hf]
    refine congrArg (fun l => Host.Outcome.next (run.setLines { s.lines with line := l })) ?_
    refine congrArg (fun f => s.lines.line.mapIdx f) (funext fun k => funext fun l => ?_)
    simp only [LineRecord.sampled, hlogic, sampled]
    rfl
  · rw [hstep, hrun, sampleLines_of_first (s := run) _ hn hf]
    generalize hu : State.setLines _ _ = u
    have ha := rereadOwners_actedTo u
    have hc := fun p => count_rereadOwners_t1 p u
    have hp := proofSafe_rereadOwners u
    have hle := rereadOwners_le u
    have hlines : u.lines = ⟨s.lines.line.mapIdx fun k l =>
        { l with raw := now.levels.getLsbD k, qualified := logic k l, change := .none }, false⟩ := by
      rw [← hu]
      refine congrArg (fun f => LineUnit.mk (s.lines.line.mapIdx f) false) (funext fun k => funext fun l => ?_)
      simp only [LineRecord.taken, hlogic]
    refine ⟨_, rfl, ?_, fun p => ?_, ha.lines.trans hlines, hp, ?_, ?_, ?_, ?_, ?_, ?_, ?_⟩
    · rw [ha.timebase, ← hu]
      rfl
    · rw [hc, ← hu]
      rfl
    · rwa [← hu] at hle ⊢
    · rw [ha.consist, ← hu]
      rfl
    · rw [ha.relay, ← hu]
      rfl
    · rw [ha.ports, ← hu]
      rfl
    · rw [ha.faults, ← hu]
      rfl
    · rw [ha.bypass, ← hu]
      rfl
    · rw [ha.mgmt, ← hu]
      rfl

end Sys2Proof.Machine
end

section
/-! SUPPORT. The BREAKs a node begins, and WITHDRAW. -/

namespace Sys2Proof.Machine

open Sys2Proof

/-! ### BREAKs on several ports (R17, R19) -/

/-- R17: the port as it begins a BREAK. -/
def State.brokenPort (s : State) (p : Port) : PortState :=
  { s.port p with tx := .brk, rx := .betweenFrames, assembly := [] }

/-- From the one state to the other the bypass block, the ports and the counts alone may change. -/
def State.DrivenTo (s t : State) : Prop :=
  ∃ b x c, t = { s with bypass := b, ports := x, timers := { s.timers with counts := c } }

theorem State.DrivenTo.trans {s t u : State} (h : s.DrivenTo t) (k : t.DrivenTo u) : s.DrivenTo u := by
  obtain ⟨b, x, c, rfl⟩ := h
  obtain ⟨b', x', c', rfl⟩ := k
  exact ⟨b', x', c', rfl⟩

theorem port_beginBreak {p : Port} {s : State} (hl : (s.port p).link ≠ .down) (q : Port) :
    (beginBreak p s).port q = if q = p then s.brokenPort p else s.port q := by
  rw [beginBreak_eq hl]
  cases p <;> cases q <;> rfl

theorem count_beginBreak {p : Port} {s : State} (hl : (s.port p).link ≠ .down) (u : TimerId) :
    (beginBreak p s).count u = if u = .t1 p then s.cutT1 p else s.count u := by
  rw [beginBreak_eq hl, State.count_setBypass]
  split_ifs with hu
  · subst hu
    exact State.count_setCount ..
  · exact State.count_setCount_ne _ hu _

theorem beginBreak_drivenTo {p : Port} {s : State} (hl : (s.port p).link ≠ .down) : s.DrivenTo (beginBreak p s) := by
  rw [beginBreak_eq hl]
  exact ⟨_, _, _, rfl⟩

/-- R17, R19: what the BREAKs begun on some ports have done. -/
structure BreaksBegun (l : List Port) (s t : State) : Prop where
  driven : s.DrivenTo t
  bypass : t.bypass = { s.bypass with holdoff := s.bypass.holdoff || !l.isEmpty }
  port : ∀ p, t.port p = if p ∈ l then s.brokenPort p else s.port p
  t1 : ∀ p, t.count (.t1 p) = if p ∈ l then s.cutT1 p else s.count (.t1 p)
  count : ∀ u, (∀ p, u ≠ .t1 p) → t.count u = s.count u

theorem foldl_beginBreak {l : List Port} (hn : l.Nodup) {s : State} (hl : ∀ p ∈ l, (s.port p).link ≠ .down) :
    BreaksBegun l s (l.foldl (fun s p => beginBreak p s) s) := by
  induction l generalizing s with
  | nil => exact ⟨⟨_, _, _, rfl⟩, by simp, by simp, by simp, fun _ _ => rfl⟩
  | cons p l ih =>
    obtain ⟨hp, hn⟩ := List.nodup_cons.mp hn
    obtain ⟨hlp, hl⟩ := List.forall_mem_cons.mp hl
    have hport := port_beginBreak hlp
    have hcount := count_beginBreak hlp
    have hdriven := beginBreak_drivenTo hlp
    have hby : (beginBreak p s).bypass = { s.bypass with holdoff := true } := by rw [beginBreak_eq hlp]; rfl
    rw [List.foldl_cons]
    generalize beginBreak p s = v at hport hcount hdriven hby
    have hne : ∀ q ∈ l, q ≠ p := fun q hq he => hp (he ▸ hq)
    have hv : ∀ q ∈ l, v.port q = s.port q := fun q hq => by rw [hport, if_neg (hne q hq)]
    have k := ih hn (s := v) fun q hq => by rw [hv q hq]; exact hl q hq
    refine ⟨hdriven.trans k.driven, ?_, fun q => ?_, fun q => ?_, fun u hu => ?_⟩
    · rw [k.bypass, hby]
      simp
    · rw [k.port, hport]
      by_cases hq : q = p
      · subst hq
        simp [hp]
      · by_cases hm : q ∈ l
        · simp [hm, State.brokenPort, hv q hm]
        · simp [hq, hm]
    · rw [k.t1, hcount]
      by_cases hq : q = p
      · subst hq
        simp [hp]
      · by_cases hm : q ∈ l
        · have hper : v.period (.t1 q) = s.period (.t1 q) := by obtain ⟨b, x, c, rfl⟩ := hdriven; rfl
          have hc := hcount (.t1 q)
          simp [hq] at hc
          simp [hm, State.cutT1, hv q hm, hper, hc]
        · simp [hq, hm]
    · rw [k.count u hu, hcount, if_neg (hu p)]

/-- R17 to R19: what the BREAKs of some ports, with the one flush, have done where no drain is pending. -/
structure BreaksSent (l : List Port) (s t : State) : Prop where
  bypass : t.bypass = { s.bypass with holdoff := true }
  relay : t.relay = { s.relay with queues := ⟨Queues.empty, Queues.empty⟩ }
  mgmt : t.mgmt = { s.mgmt with
    restart := restartAfter ((s.queues .e1).frames ++ (s.queues .e2).frames) s.mgmt.restart }
  port : ∀ p, t.port p = if p ∈ l then s.brokenPort p else { s.port p with tx := (s.port p).tx.flushed }
  t1 : ∀ p, t.count (.t1 p) = if p ∈ l then s.cutT1 p else s.count (.t1 p)
  count : ∀ u, (∀ p, u ≠ .t1 p) → t.count u = s.count u
  clock : s.SameClock t
  consist : t.consist = s.consist
  door : t.door = s.door
  heat : t.heat = s.heat
  lines : t.lines = s.lines
  faults : t.faults = s.faults
  identity : t.identity = s.identity

theorem sendBreaks_sent {l : List Port} (h : l ≠ []) (hn : l.Nodup) {s : State}
    (hl : ∀ p ∈ l, (s.port p).link ≠ .down) (hd : s.relay.draining = false) : BreaksSent l s (sendBreaks l s) := by
  have k := foldl_beginBreak hn hl
  have hs : sendBreaks l s = flush (l.foldl (fun s p => beginBreak p s) s) := by
    cases l with
    | nil => exact absurd rfl h
    | cons p l => rfl
  rw [hs]
  generalize l.foldl (fun s p => beginBreak p s) s = t at k
  obtain ⟨b, x, c, he⟩ := k.driven
  have hrelay : t.relay = s.relay := by rw [he]
  have hmgmt : t.mgmt = s.mgmt := by rw [he]
  have hemp : l.isEmpty = false := by simpa using h
  rw [flush_of_not_draining (by rw [hrelay]; exact hd)]
  refine ⟨?_, ?_, ?_, fun p => ?_, k.t1, k.count, ?_, ?_, ?_, ?_, ?_, ?_, ?_⟩
  · show t.bypass = _
    simp [k.bypass, hemp]
  · show { t.relay with queues := ⟨Queues.empty, Queues.empty⟩ } = _
    rw [hrelay]
  · simp only [State.setMgmt_mgmt, hmgmt, State.queues, hrelay]
  · show (flushedPorts t).port p = _
    rw [flushedPorts_port, k.port]
    split_ifs
    · rfl
    · rfl
  all_goals
    rw [he]
  · exact ⟨rfl, rfl⟩
  all_goals rfl

theorem upPorts_nodup (s : State) : s.upPorts.Nodup := List.Nodup.filter _ (by decide)

theorem mem_upPorts {p : Port} {s : State} : p ∈ s.upPorts ↔ s.isUp p = true := by
  rw [State.upPorts, List.mem_filter]
  exact and_iff_right (by cases p <;> simp)

theorem link_of_isUp {p : Port} {s : State} (h : s.isUp p = true) : (s.port p).link ≠ .down := by
  rw [show (s.port p).link = .up by simpa [State.isUp] using h]
  decide

/-! ### What an entry to UNINAUGURATED leaves of the heat unit (R157, R166, R168) -/

/-- From the one state to the other the stage, the fallback, the record and the walk in flight alone may change. -/
def State.HeatKept (s t : State) : Prop := ∃ a f w o p, t.heat
  = { s.heat with applied := a, fallback := f, walkRecord := w, outstanding := o, startPending := p }

namespace State.HeatKept

theorem of_heat {s t : State} (h : t.heat = s.heat) : s.HeatKept t := ⟨_, _, _, _, _, h⟩

theorem trans {s t u : State} (h : s.HeatKept t) (k : t.HeatKept u) : s.HeatKept u := by
  obtain ⟨a, f, w, o, p, h⟩ := h
  obtain ⟨a', f', w', o', p', k⟩ := k
  exact ⟨a', f', w', o', p', by rw [k, h]⟩

theorem setApplied (n : Nat) (s : State) : s.HeatKept (setApplied n s) := ⟨n, _, _, _, _, setApplied_heat n s⟩

theorem heatRefresh (s : State) : s.HeatKept (heatRefresh s) := by
  unfold Machine.heatRefresh
  split_ifs
  · exact setApplied _ s
  · exact of_heat rfl

theorem closeReleased (d : Side) (s : State) : s.HeatKept (closeReleased d s) := by
  unfold Machine.closeReleased closeSide
  split_ifs
  · exact (of_heat (t := enterClosed d s) rfl).trans (heatRefresh _)
  · exact (of_heat (t := enterClosing d s) rfl).trans (heatRefresh _)
  · exact of_heat rfl

theorem heatUnsettled (s : State) : s.HeatKept (heatUnsettled s) := by
  let v : State := s.setHeat { s.heat with walkRecord := none }
  have hv : s.HeatKept v := ⟨_, _, _, _, _, rfl⟩
  refine hv.trans ?_
  show v.HeatKept (enterFallback v)
  unfold enterFallback
  split_ifs
  · exact of_heat rfl
  · have h1 : v.HeatKept (stopTimer .t13 (v.setHeat { v.heat with fallback := true })) := ⟨_, _, _, _, _, rfl⟩
    exact h1.trans (setApplied _ _)

theorem abandonWalks (s : State) : s.HeatKept (abandonWalks s) := ⟨s.heat.applied, s.heat.fallback, s.heat.walkRecord,
  none, false, by simp [Machine.abandonWalks]⟩

theorem enterState (r : Role) (x : ConsistState) (s : State) : s.HeatKept (enterState r x s) := by
  have hm : s.HeatKept (madeReady r x s) := by
    unfold madeReady
    dsimp only
    generalize hs1 : (if s.stableMaster = true ∧ ¬(r = .master ∧ x = .stable) then Machine.abandonWalks s else s) = s1
    have h1 : s.HeatKept s1 := by
      rw [← hs1]
      split_ifs
      · exact abandonWalks s
      · exact of_heat rfl
    generalize hs2 : (if x.closesDoors = true then localClose s1 else s1) = s2
    have h2 : s.HeatKept s2 := by
      rw [← hs2]
      split_ifs
      · exact h1.trans ((closeReleased .a s1).trans (closeReleased .b _))
      · exact h1
    split_ifs
    · exact h2
    · exact h2.trans (heatUnsettled s2)
  exact hm.trans (of_heat (enterState_heat r x s))

theorem enterUninaugurated (s : State) : s.HeatKept (enterUninaugurated s) := by
  unfold Machine.enterUninaugurated
  dsimp only
  generalize hv : (stopTimers consistTimers (clearConsist s)).setConsist _ = v
  have h1 : s.HeatKept v := of_heat (by simp [← hv])
  exact h1.trans (enterState .member .uninaugurated v)

end State.HeatKept

/-! ### WITHDRAW (R21, R119, R151, R174, R182) -/

theorem enterState_counter (r : Role) (x : ConsistState) (s : State) :
    (enterState r x s).door.commandCounter = s.door.commandCounter := by
  rw [enterState_eq, State.setConsist_door, madeReady]
  generalize hs1 : (if s.stableMaster = true ∧ ¬(r = .master ∧ x = .stable) then abandonWalks s else s) = s1
  have h1 : s1.door.commandCounter = s.door.commandCounter := by
    rw [← hs1]
    split_ifs
    · simp [abandonWalks]
    · rfl
  generalize hs2 : (if x.closesDoors = true then localClose s1 else s1) = s2
  have h2 : s2.door.commandCounter = s.door.commandCounter := by
    rw [← hs2]
    split_ifs
    · have hd := ((State.ActedTo.closeReleased .a s1).trans (.closeReleased .b _)).door
      exact (congrArg DoorUnit.commandCounter hd).trans h1
    · exact h1
  split_ifs
  · exact h2
  · rw [heatUnsettled_door, h2]

theorem enterUninaugurated_counter (s : State) :
    (enterUninaugurated s).door.commandCounter = s.door.commandCounter := by
  rw [enterUninaugurated, enterState_counter]
  simp

/-- R21: what the node enters WITHDRAWING with, its BREAKs sent. -/
structure Withdrawing (master : Bool) (b t : State) : Prop where
  bypass : t.bypass = { b.bypass with node := .withdrawing }
  relay : t.relay = b.relay
  faults : t.faults = b.faults
  ports : t.ports = b.ports
  mgmt : t.mgmt = b.mgmt
  consist : t.consist = { b.consist with
    role := .member, state := .uninaugurated, blocked := .none, epoch := 0, position := 0, orientation := .normal
    table := [], joined := none, attempt := none }
  side : ∀ d, t.side d = locallyClosed (b.side d)
  closed : t.door.doorsClosed = false
  counter : t.door.commandCounter = b.door.commandCounter
  walks : master = true → t.door.walk = 0 ∧ t.door.outstanding = none ∧ t.door.startPending = false
    ∧ t.door.alert = false
  heat : t.heat = { b.heat with
    applied := 0, fallback := true, walkRecord := none, walk := 0, outstanding := none, startPending := false }
  lines : t.lines = { b.lines with line := b.lines.line.map fun l => { l with generalOut := false, change := .none } }
  count : ∀ k, t.count k = none
  clock : b.SameClock t

theorem withdrawing_of (master : Bool) (b : State) :
    Withdrawing master b (withdrawEnd (withdrawHeat (withdrawDoors master (withdrawLines (enterUninaugurated b))))) := by
  have hclock := sameClock_enterUninaugurated b
  have hcons := enterUninaugurated_consist b
  have hside := fun d => enterUninaugurated_side d b
  have hctr := enterUninaugurated_counter b
  have hfall := (enterUninaugurated_heat b).2.1
  have hheat := State.HeatKept.enterUninaugurated b
  have hb := enterUninaugurated_bypass b
  have hr := enterUninaugurated_relay b
  have hf := enterUninaugurated_faults b
  have hp := enterUninaugurated_ports b
  have hm := enterUninaugurated_mgmt b
  have hl := enterUninaugurated_lines b
  generalize enterUninaugurated b = e at *
  obtain ⟨a, f, w, o, p, hheat⟩ := hheat
  have hx : (withdrawEnd (withdrawHeat (withdrawDoors master (withdrawLines e)))).heat = { b.heat with
      applied := 0, fallback := true, walkRecord := none, walk := 0, outstanding := none, startPending := false } := by
    have h1 : (withdrawEnd (withdrawHeat (withdrawDoors master (withdrawLines e)))).heat = { e.heat with
        applied := 0, walkRecord := none, walk := 0, outstanding := none, startPending := false } := by
      cases master <;> rfl
    rw [hheat] at hfall
    rw [h1, hheat, show f = true from hfall]
  refine ⟨?_, ?_, ?_, ?_, ?_, ?_, fun d => ?_, ?_, ?_, fun hm => ?_, hx, ?_, fun k => ?_, ?_⟩
  · rw [← hb]
    cases master <;> rfl
  · rw [← hr]
    cases master <;> rfl
  · rw [← hf]
    cases master <;> rfl
  · rw [← hp]
    cases master <;> rfl
  · rw [← hm]
    cases master <;> rfl
  · rw [← hcons]
    cases master <;> rfl
  · rw [← hside]
    cases master <;> rfl
  · cases master <;> rfl
  · rw [← hctr]
    cases master <;> rfl
  · subst hm
    exact ⟨rfl, rfl, rfl, rfl⟩
  · rw [← hl]
    cases master <;> rfl
  · exact count_stopped k
  · refine hclock.trans ?_
    cases master <;> exact ⟨rfl, rfl⟩

/-- R17, R21: what the BREAKs on every UP port, none or more, have done. -/
structure UpPortsBroken (s t : State) : Prop where
  bypass : t.bypass = { s.bypass with holdoff := s.bypass.holdoff || !s.upPorts.isEmpty }
  relay : t.relay = if s.upPorts = [] then s.relay else { s.relay with queues := ⟨Queues.empty, Queues.empty⟩ }
  commit : t.mgmt.commit = s.mgmt.commit
  up : ∀ p, s.isUp p = true → t.port p = s.brokenPort p
  down : ∀ p, s.isUp p = false → (t.port p).link = (s.port p).link ∧ (t.port p).rx = (s.port p).rx
    ∧ (t.port p).score = (s.port p).score ∧ (t.port p).arrival = (s.port p).arrival
  clock : s.SameClock t
  consist : t.consist = s.consist
  door : t.door = s.door
  heat : t.heat = s.heat
  lines : t.lines = s.lines
  faults : t.faults = s.faults

theorem upPortsBroken_of {s : State} (hd : s.relay.draining = false) : UpPortsBroken s (sendBreaks s.upPorts s) := by
  by_cases hu : s.upPorts = []
  · have hdown : ∀ p, s.isUp p = false := fun p => by
      cases hp : s.isUp p with
      | false => rfl
      | true => exact absurd (mem_upPorts.mpr hp) (by simp [hu])
    have hs : sendBreaks s.upPorts s = s := by rw [hu]; rfl
    rw [hs]
    refine ⟨by simp [hu], by simp [hu], rfl, fun p hp => ?_, fun _ _ => ⟨rfl, rfl, rfl, rfl⟩, .refl s, rfl, rfl, rfl, rfl, rfl⟩
    rw [hdown p] at hp
    cases hp
  · have k := sendBreaks_sent hu (upPorts_nodup s) (fun p hp => link_of_isUp (mem_upPorts.mp hp)) hd
    have hne : s.upPorts.isEmpty = false := by simpa using hu
    refine ⟨by simp [k.bypass, hne], by rw [k.relay, if_neg hu], congrArg (fun m => m.commit) k.mgmt, fun p hp => ?_,
      fun p hp => ?_, k.clock, k.consist, k.door, k.heat, k.lines, k.faults⟩
    · rw [k.port, if_pos (mem_upPorts.mpr hp)]
    · rw [k.port, if_neg (by simp [mem_upPorts, hp])]
      exact ⟨rfl, rfl, rfl, rfl⟩

section OwnTap

variable {v : Via} (c : ReqCode) (q : Req) (s : State)

theorem whenTaken_ports (h : accessOf v = .ownTap) : (s.whenTaken v c q).ports = s.ports := by
  cases v with
  | tap done tag =>
    obtain ⟨r, head, he⟩ := nodePart_cases done s
    exact (congrArg State.ports he).trans rfl
  | train p hd => cases h

theorem whenTaken_draining : (s.whenTaken v c q).relay.draining = s.relay.draining := by
  obtain ⟨x, y, r, l, he⟩ := whenTaken_relay v c q s
  rw [he]

theorem deliver_draining (f : Frame) : (deliver f s).relay.draining = s.relay.draining := by
  rcases deliver_cases f s with ⟨-, h⟩ | ⟨-, h⟩
  · rw [h]
    rfl
  · rw [h, recordFault_relay]

end OwnTap

/-- Settles O57: the response, the BREAKs with their flush, and the entry of each block. -/
theorem withdrawTaken : Obligations.WithdrawTaken := by
  intro v q s hj hv hd u master
  have hreq : exec (.withdraw v q) s = .next (finish v (enterWithdrawing
      (place (accessOf v) (numberOf v) (responseTo .withdraw q .ok []) (s.whenTaken v .withdraw q)))) :=
    congrArg Host.Outcome.next (request_unanswered hj.1 (gate_of_judges hj (by rw [hv]; rfl)) rfl)
  have hu := replied_eq v .withdraw q .ok [] (s.whenTaken v .withdraw q)
  have htimers := whenTaken_timers v .withdraw q s hv
  have hports := whenTaken_ports .withdraw q s hv
  have hdr := whenTaken_draining (v := v) .withdraw q s
  have hb := whenTaken_bypass v .withdraw q s
  have hm := whenTaken_mgmt v .withdraw q s
  have hc := whenTaken_consist v .withdraw q s
  have hdo := whenTaken_door v .withdraw q s
  have hh := whenTaken_heat v .withdraw q s
  have hl := whenTaken_lines v .withdraw q s
  cases v with
  | train p h => cases hv
  | tap done tag =>
  let w := place .ownTap tag (responseTo .withdraw q .ok []) (s.whenTaken (.tap done tag) .withdraw q)
  have wports : w.ports = s.ports := (deliver_ports ..).trans hports
  have wtimers : w.timers = s.timers := (deliver_timers ..).trans htimers
  have wdr : w.relay.draining = false := (deliver_draining ..).trans (hdr.trans hd)
  have wb : w.bypass = s.bypass := (deliver_bypass ..).trans hb
  have wm : w.mgmt = s.mgmt := (deliver_mgmt ..).trans hm
  have wc : w.consist = s.consist := (deliver_consist ..).trans hc
  have wdo : w.door = s.door := (deliver_door ..).trans hdo
  have wh : w.heat = s.heat := (deliver_heat ..).trans hh
  have wl : w.lines = s.lines := (deliver_lines ..).trans hl
  have hurelay : u.relay = { w.relay with intake := .accepted } := congrArg State.relay hu
  have hufaults : u.faults = w.faults := (congrArg State.faults hu).trans rfl
  have hx : exec (.withdraw (.tap done tag) q) s = .next (setIntake .accepted (enterWithdrawing w)) := hreq
  rw [hx]
  clear_value w
  have wup : w.upPorts = s.upPorts := upPorts_congr wports
  have wport : ∀ p, w.port p = s.port p := fun p => by simp only [State.port, wports]
  have k := upPortsBroken_of wdr
  have e := withdrawing_of w.isMaster (sendBreaks w.upPorts w)
  have he : enterWithdrawing w = withdrawEnd (withdrawHeat (withdrawDoors w.isMaster (withdrawLines (enterUninaugurated
    (sendBreaks w.upPorts w))))) := rfl
  rw [← he] at e
  generalize enterWithdrawing w = t at e
  generalize sendBreaks w.upPorts w = b at e k
  have hside : ∀ d, w.side d = s.side d := fun d => by simp only [State.side, wdo]
  have hbside : ∀ d, b.side d = w.side d := fun d => by simp only [State.side, k.door]
  refine ⟨_, rfl, ?_, ?_, ?_, fun p => ⟨fun hp => ?_, fun hp => ?_⟩, ?_, fun d => ?_, e.closed, ?_, fun hr => ?_, ?_, ?_,
    e.count, ?_, ?_, ?_⟩
  · show t.bypass = _
    rw [e.bypass, k.bypass, wb, wup]
  · show { t.relay with intake := .accepted } = _
    rw [e.relay, k.relay, hurelay, wup]
    split_ifs
    · rfl
    · rfl
  · show t.faults = _
    rw [e.faults, k.faults, hufaults]
  · show t.ports.get p = _
    rw [e.ports]
    exact (k.up p ((isUp_of_ports wports p).trans hp)).trans (by rw [State.brokenPort, wport])
  · show (t.ports.get p).link = _ ∧ (t.ports.get p).rx = _ ∧ (t.ports.get p).score = _ ∧ (t.ports.get p).arrival = _
    rw [e.ports, ← wport]
    exact k.down p ((isUp_of_ports wports p).trans hp)
  · show t.consist = _
    rw [e.consist, k.consist, wc]
  · show (t.side d).state = _
    rw [e.side, hbside, hside, locallyClosed_state]
  · show t.door.commandCounter = _
    rw [e.counter, k.door, wdo]
  · refine e.walks ?_
    rw [State.isMaster, wc]
    simpa [State.isMaster] using hr
  · show t.heat = _
    rw [e.heat, k.heat, wh]
  · show t.lines = _
    rw [e.lines, k.lines, wl]
  · show t.timers.timebase = _
    rw [← wtimers]
    exact (k.clock.trans e.clock).1
  · show t.timers.settings = _
    rw [← wtimers]
    exact (k.clock.trans e.clock).2
  · show t.mgmt.commit = _
    rw [e.mgmt, k.commit, wm]

end Sys2Proof.Machine
end

section
/-! SUPPORT. A restart. -/

namespace Sys2Proof.Machine

open Sys2Proof

/-! ### The ports, the relay unit and the management unit (R23, R102, R198) -/

/-- R11, R20: a port in DOWN with its probe due flag set. -/
def PortState.reset : PortState := ⟨.down, 0, 0, .betweenFrames, [], .idle, true⟩

theorem restartPorts_eq (s : State) : restartPorts s = { s with
    bypass := { s.bypass with holdoff := false }
    ports := ⟨PortState.reset, PortState.reset⟩
    timers := { s.timers with counts := { s.timers.counts with
      t0 := ⟨some (s.period (.t0 .e1)), some (s.period (.t0 .e2))⟩, t1 := ⟨none, none⟩ } } } := rfl

theorem restartRelay_eq (s : State) : restartRelay s = { s with
    relay := { s.relay with
      groupsActive := s.relay.groupsActive &&& 0x00FF#16, groupsStaged := s.relay.groupsStaged &&& 0x00FF#16
      queues := ⟨Queues.empty, Queues.empty⟩, tapQueue := [], draining := false, select := s.relay.select.emptied }
    timers := { s.timers with counts := { s.timers.counts with t15 := none } }
    mgmt := ⟨none, .none⟩ } := rfl

/-! ### The sides (R128, R150) -/

/-- R150: a side after a restart that finds this proof. -/
def restartedSide (proof : Proof) (x : SideRecord) : SideRecord :=
  { x with
    state := if x.state = .released ∨ x.state = .closing then (if proof = .proved then .closed else .closing) else x.state
    proof := proof, held := proof != .proved }

theorem restartSide_eq (d : Side) (s : State) : restartSide d s
    = (s.setSide d (restartedSide (s.lineProof d) (s.side d))).setCount (.t10 d)
      (if (s.side d).state = .released ∨ (s.side d).state = .closing then
        (if s.lineProof d = .proved then none else some (s.period (.t10 d))) else s.count (.t10 d)) := by
  have hset : ∀ (u : State) (x : SideRecord) (y : DoorState),
      setDoorState d y (u.setSide d x) = u.setSide d { x with state := y } := fun u x y => by cases d <;> rfl
  have hkept : ∀ x : SideRecord, (s.setSide d x).setCount (.t10 d) (s.count (.t10 d)) = s.setSide d x := fun x =>
    setCount_count (s.setSide d x) (.t10 d)
  unfold restartSide restartedSide
  dsimp only
  cases hs : (s.side d).state with
  | released =>
    by_cases hp : s.lineProof d = .proved
    · simp [hp, enterClosed, hset, stopTimer]
    · simp [hp, enterClosing, hset, startTimer]
      rfl
  | closing =>
    by_cases hp : s.lineProof d = .proved
    · simp [hp, enterClosed, hset, stopTimer]
    · simp [hp, enterClosing, hset, startTimer]
      rfl
  | closed => simp [hkept]
  | stuck => simp [hkept]

/-- R129, R150: the close timer of a side after a restart. -/
def State.restartedT10 (s : State) (d : Side) : Option Nat :=
  if (s.side d).state = .released ∨ (s.side d).state = .closing then
    (if s.lineProof d = .proved then none else some (s.period (.t10 d)))
  else s.count (.t10 d)

theorem setSides_eq (x y : SideRecord) (a b : Option Nat) (s : State) :
    (((s.setSide .a x).setCount (.t10 .a) a).setSide .b y).setCount (.t10 .b) b
      = s.acted { s.door with sides := ⟨x, y⟩ } s.heat { s.timers.counts with t10 := ⟨a, b⟩ } := rfl

theorem walksRestarted_eq (y : DoorUnit) (h : HeatUnit) (c : Counts) (s : State) :
    (stopTimers [.t7, .t8] (s.acted y h c)).setDoor { (stopTimers [.t7, .t8] (s.acted y h c)).door with
        commandCounter := 0, walk := 0, outstanding := none, startPending := false, alert := false, doorsClosed := false }
      = s.acted ⟨y.sides, 0, 0, none, false, false, false⟩ h { c with t7 := none, t8 := none } := rfl

/-- R150: the door unit after a restart. -/
theorem restartDoors_eq (s : State) : restartDoors s = s.acted
    ⟨⟨restartedSide (s.lineProof .a) (s.side .a), restartedSide (s.lineProof .b) (s.side .b)⟩, 0, 0, none, false, false,
      false⟩ s.heat
    { s.timers.counts with t7 := none, t8 := none, t10 := ⟨s.restartedT10 .a, s.restartedT10 .b⟩ } := by
  have hb : (restartSide .a s).side .b = s.side .b := restartSide_side_ne (by decide) s
  have hlines : (restartSide .a s).lines = s.lines := by
    rw [restartSide_eq]
    rfl
  have hper : (restartSide .a s).period (.t10 .b) = s.period (.t10 .b) := by
    rw [restartSide_eq]
    rfl
  have hcb : (restartSide .a s).count (.t10 .b) = s.count (.t10 .b) := by
    rw [restartSide_eq, State.count_setCount_ne _ (by simp)]
    rfl
  unfold restartDoors
  rw [restartSide_eq .b, hb, lineProof_of_lines hlines .b, hper, hcb, restartSide_eq .a, setSides_eq]
  exact walksRestarted_eq ..

/-! ### The consist unit at an entry to UNINAUGURATED without a RELEASED side (R74, R131) -/

theorem localClose_of_closed {s : State} (h : ∀ d, (s.side d).state ≠ .released) : localClose s = s := by
  have hd : ∀ d, closeReleased d s = s := fun d => if_neg (h d)
  rw [localClose, hd, hd]

/-- R131, R141, R157, R166, R168: the other blocks at an entry to UNINAUGURATED, with no side to close and the walks'
flags at rest. -/
theorem madeReady_of_closed (r : Role) {x : ConsistState} (hx : x.closesDoors = true) {s : State} (h : ∀ d, (s.side d).state ≠ .released)
    (hw : s.door = ⟨s.door.sides, s.door.commandCounter, s.door.walk, none, false, false, false⟩) :
    (madeReady r x s).door = s.door
      ∧ (∀ u, u ∉ [TimerId.t7, .t8, .t11, .t12, .t13, .t14] → (madeReady r x s).count u = s.count u)
      ∧ ∀ u, u = .t7 ∨ u = .t8 → s.count u = none → (madeReady r x s).count u = none := by
  have hab : (abandonWalks s).door = s.door := by
    rw [abandonWalks, State.setHeat_door, State.setDoor_door, stopTimers_door]
    exact hw.symm
  unfold madeReady
  dsimp only
  generalize hs1 : (if s.stableMaster = true ∧ ¬(r = .master ∧ x = .stable) then abandonWalks s else s) = s1
  have hdoor : s1.door = s.door := by
    rw [← hs1]
    split_ifs
    · exact hab
    · rfl
  have hkept : ∀ u, u ∉ [TimerId.t7, .t8, .t11, .t12] → s1.count u = s.count u := fun u hu => by
    rw [← hs1]
    split_ifs
    · exact count_stopTimers_not_mem hu s
    · rfl
  have hnone : ∀ u, u = .t7 ∨ u = .t8 → s.count u = none → s1.count u = none := fun u hu hc => by
    rw [← hs1]
    split_ifs
    · exact count_stopTimers_mem (by rcases hu with rfl | rfl <;> simp) s
    · exact hc
  have hclose : localClose s1 = s1 := localClose_of_closed fun d => by
    rw [State.side, hdoor]
    exact h d
  rw [if_pos hx, hclose, if_neg (show ¬x.settled = true by cases x <;> first | decide | cases hx)]
  refine ⟨(heatUnsettled_door s1).trans hdoor, fun u hu => ?_, fun u hu hc => ?_⟩
  · simp only [List.mem_cons, List.not_mem_nil, or_false, not_or] at hu
    rw [count_heatUnsettled (by simp [hu]), hkept u (by simp [hu])]
  · rw [count_heatUnsettled (by rcases hu with rfl | rfl <;> simp), hnone u hu hc]

theorem enterUninaugurated_of_closed {s : State} (h : ∀ d, (s.side d).state ≠ .released)
    (hw : s.door = ⟨s.door.sides, s.door.commandCounter, s.door.walk, none, false, false, false⟩) :
    (enterUninaugurated s).door = s.door
      ∧ (∀ u, u ∉ [TimerId.t7, .t8, .t11, .t12, .t13, .t14] → u ∉ consistTimers →
        (enterUninaugurated s).count u = s.count u)
      ∧ ∀ u, u = .t7 ∨ u = .t8 → s.count u = none → (enterUninaugurated s).count u = none := by
  unfold enterUninaugurated
  dsimp only
  generalize hv : (stopTimers consistTimers (clearConsist s)).setConsist _ = v
  have hdoor : v.door = s.door := by simp [← hv]
  have hcount : ∀ u, u ∉ consistTimers → v.count u = s.count u := fun u hu => by
    rw [← hv, State.count_setConsist, count_stopTimers_not_mem hu]
    rfl
  obtain ⟨hd, hc, hn⟩ := madeReady_of_closed .member (x := .uninaugurated) rfl (s := v)
    (fun d => by rw [State.side, hdoor]; exact h d) (by rw [hdoor]; exact hw)
  rw [enterState_eq]
  refine ⟨hd.trans hdoor, fun u hu hk => (hc u hu).trans (hcount u hk), fun u hu hk => ?_⟩
  exact hn u hu ((hcount u (by rcases hu with rfl | rfl <;> decide)).trans hk)

/-! ### The heat unit (R173) -/

theorem restartHeat_eq (s : State) : restartHeat s = (s.acted s.door { s.heat with
      applied := 0, fallback := true, walkRecord := none, walk := 0, outstanding := none, startPending := false }
    { s.timers.counts with t11 := none, t12 := none, t13 := none, t14 := none }).setCount .t14
      (if s.asserted .heatFeedback = true ∧ s.heat.lockedOut = false then some (s.period .t14) else none) := by
  let v : State := s.acted s.door { s.heat with
      applied := 0, fallback := true, walkRecord := none, walk := 0, outstanding := none, startPending := false }
    { s.timers.counts with t11 := none, t12 := none, t13 := none, t14 := none }
  show judgeFeedback v = _
  rw [judgeFeedback_eq]
  refine congrArg (v.setCount .t14) ?_
  have ha : v.asserted .heatFeedback = s.asserted .heatFeedback := rfl
  have hl : v.heat.lockedOut = s.heat.lockedOut := rfl
  have hc : (v.count .t14).isSome = false := rfl
  have hn : decide (0 < v.heat.applied) = false := rfl
  have hp : v.asserted .heatFeedback = true → v.present .heatFeedback = true := present_of_asserted
  have hper : v.period .t14 = s.period .t14 := rfl
  rw [ha] at hp
  unfold State.judgedT14
  rw [hn, hc, hl, ha, hper]
  cases hs : s.asserted .heatFeedback with
  | false => simp
  | true => simp [hp hs]

/-! ### The role (R42) -/

theorem becomeMaster_of_rest {s : State} (hr : s.consist.role = .member) (hf : s.heat.fallback = true)
    (hw : s.heat.walkRecord = none) : becomeMaster s = startTimer .t2 ((stopTimers [.t5, .t6, .t9] s).setConsist
      { s.consist with joined := none, blocked := .none, role := .master, state := .settling }) := by
  unfold becomeMaster enterSettling
  dsimp only
  refine congrArg (startTimer .t2) ?_
  generalize hv : (stopTimers [.t5, .t6, .t9] s).setConsist _ = v
  have hcons : v.consist = { s.consist with joined := none, blocked := .none } := by simp [← hv]
  have hheat : v.heat = s.heat := by simp [← hv]
  have hst : v.stableMaster = false := stableMaster_of_member (by rw [hcons]; exact hr)
  have hready : madeReady .master .settling v = v := by
    have hrec : v.setHeat { v.heat with walkRecord := none } = v := by
      rw [← show v.heat.walkRecord = none by rw [hheat, hw]]
      rfl
    rw [madeReady, hst]
    show heatUnsettled v = v
    rw [heatUnsettled, hrec]
    exact if_pos (by rw [hheat, hf])
  rw [enterState_eq, hready, hcons, ← hv]
  simp only [stopTimers_consist]
  rfl

theorem evaluateRole_of_rest {s : State} (hr : s.consist.role = .member) (hu : ∀ p, s.isUp p = false) :
    evaluateRole s = if s.cab = true then becomeMaster s else s := by
  have hm : s.isMaster = false := by simp [State.isMaster, hr]
  have hl : s.mayLead = s.cab := by rw [State.mayLead, upPorts_eq_nil hu]; simp
  rw [evaluateRole, hm, hl]
  simp

end Sys2Proof.Machine
end

section
/-! SUPPORT. What a restart leaves. -/

namespace Sys2Proof.Machine

open Sys2Proof

/-! ### The state before the role is evaluated -/

/-- R74, R173: a restart before the consist unit evaluates its role. -/
def restUnits (levels : Levels) (s : State) : State :=
  restartHeat (restartConsist (restartDoors (restartLines levels (restartRelay (restartPorts s)))))

/-- R23, R102, R118, R198: the first three parts of a restart. -/
theorem restartLines_eq (levels : Levels) (s : State) : restartLines levels (restartRelay (restartPorts s)) = { s with
    bypass := { s.bypass with holdoff := false }
    ports := ⟨PortState.reset, PortState.reset⟩
    relay := { s.relay with
      groupsActive := s.relay.groupsActive &&& 0x00FF#16, groupsStaged := s.relay.groupsStaged &&& 0x00FF#16
      queues := ⟨Queues.empty, Queues.empty⟩, tapQueue := [], draining := false, select := s.relay.select.emptied }
    lines := ⟨sampleAll LineRecord.restarted levels s.lines.line, false⟩
    timers := { s.timers with counts := { s.timers.counts with
      t0 := ⟨some (s.period (.t0 .e1)), some (s.period (.t0 .e2))⟩, t1 := ⟨none, none⟩, t15 := none } }
    mgmt := ⟨none, .none⟩ } := by
  rw [restartPorts_eq, restartRelay_eq]
  rfl

theorem restartedSide_state (proof : Proof) (x : SideRecord) : (restartedSide proof x).state ≠ .released := by
  unfold restartedSide
  cases x.state <;> cases proof <;> simp

/-- From the one state to the other the consist unit, the door unit, the heat unit and the timers alone may change. -/
def State.RestTo (s t : State) : Prop := ∃ x y z k, t = { s with consist := x, door := y, heat := z, timers := k }

theorem State.RestTo.trans {s t u : State} (h : s.RestTo t) (k : t.RestTo u) : s.RestTo u := by
  obtain ⟨x, y, z, c, rfl⟩ := h
  obtain ⟨x', y', z', c', rfl⟩ := k
  exact ⟨x', y', z', c', rfl⟩

theorem State.RestTo.acted (y : DoorUnit) (h : HeatUnit) (c : Counts) (s : State) : s.RestTo (s.acted y h c) :=
  ⟨s.consist, y, h, { s.timers with counts := c }, rfl⟩

theorem State.RestTo.setCount (u : TimerId) (n : Option Nat) (s : State) : s.RestTo (s.setCount u n) :=
  ⟨s.consist, s.door, s.heat, { s.timers with counts := s.timers.counts.set u n }, rfl⟩

theorem State.RestTo.setConsist (x : ConsistUnit) (s : State) : s.RestTo (s.setConsist x) :=
  ⟨x, s.door, s.heat, s.timers, rfl⟩

theorem State.RestTo.lines {s t : State} (h : s.RestTo t) : t.lines = s.lines := by
  obtain ⟨x, y, z, k, rfl⟩ := h
  rfl

/-- What a restart has done before the consist unit evaluates its role. -/
structure UnitsRestarted (levels : Levels) (s t : State) : Prop where
  pending : t.pending = s.pending
  identity : t.identity = s.identity
  faults : t.faults = s.faults
  bypass : t.bypass = { s.bypass with holdoff := false }
  ports : t.ports = ⟨PortState.reset, PortState.reset⟩
  relay : t.relay = { s.relay with
    groupsActive := s.relay.groupsActive &&& 0x00FF#16, groupsStaged := s.relay.groupsStaged &&& 0x00FF#16
    queues := ⟨Queues.empty, Queues.empty⟩, tapQueue := [], draining := false, select := s.relay.select.emptied }
  mgmt : t.mgmt = ⟨none, .none⟩
  lines : t.lines = ⟨sampleAll LineRecord.restarted levels s.lines.line, false⟩
  consist : t.consist = ⟨.member, .uninaugurated, .none, 0, 0, .normal, [], none, none, true, s.consist.coachClass,
    s.consist.doors⟩
  side : ∀ d, t.side d = restartedSide (t.lineProof d) (s.side d)
  t10 : ∀ d, t.count (.t10 d) = if (s.side d).state = .released ∨ (s.side d).state = .closing then
    (if t.lineProof d = .proved then none else some (s.period (.t10 d))) else s.count (.t10 d)
  door : t.door = ⟨t.door.sides, 0, 0, none, false, false, false⟩
  heat : t.heat = { s.heat with
    applied := 0, fallback := true, walkRecord := none, walk := 0, outstanding := none, startPending := false }
  clock : s.SameClock t
  t0 : ∀ p, t.count (.t0 p) = some (s.period (.t0 p))
  t1 : ∀ p, t.count (.t1 p) = none
  stopped : ∀ u ∈ [TimerId.t2, .t3, .t4, .t5, .t6, .t7, .t8, .t9, .t11, .t12, .t13, .t15], t.count u = none
  t14 : t.count .t14 = if t.asserted .heatFeedback = true ∧ s.heat.lockedOut = false then some (s.period .t14) else none

/-- R74, R131, R168: the units as the consist unit leaves the consist in a restart, from the state after the door unit's
part. -/
structure ConsistLeft (s t : State) : Prop where
  frame : s.RestTo t
  consist : t.consist = ⟨.member, .uninaugurated, .none, 0, 0, .normal, [], none, none, true, s.consist.coachClass,
    s.consist.doors⟩
  door : t.door = s.door
  heat : s.HeatKept t
  clock : s.SameClock t
  count : ∀ u, u ∉ [TimerId.t7, .t8, .t11, .t12, .t13, .t14] → u ∉ consistTimers → t.count u = s.count u
  walks : ∀ u, u = .t7 ∨ u = .t8 → s.count u = none → t.count u = none
  stopped : ∀ u ∈ consistTimers, t.count u = none

theorem consistLeft_of {s : State} (h : ∀ d, (s.side d).state ≠ .released)
    (hw : s.door = ⟨s.door.sides, s.door.commandCounter, s.door.walk, none, false, false, false⟩) :
    ConsistLeft s (restartConsist s) := by
  obtain ⟨hd, hc, hn⟩ := enterUninaugurated_of_closed h hw
  have hcons := enterUninaugurated_consist s
  have hp := enterUninaugurated_pending s
  have hi := enterUninaugurated_identity s
  have hf := enterUninaugurated_faults s
  have hb := enterUninaugurated_bypass s
  have hpo := enterUninaugurated_ports s
  have hr := enterUninaugurated_relay s
  have hm := enterUninaugurated_mgmt s
  have hl := enterUninaugurated_lines s
  have hframe : s.RestTo (enterUninaugurated s) := by
    refine ⟨(enterUninaugurated s).consist, (enterUninaugurated s).door, (enterUninaugurated s).heat,
      (enterUninaugurated s).timers, ?_⟩
    rw [← hp, ← hi, ← hf, ← hb, ← hpo, ← hr, ← hm, ← hl]
  have hh := State.HeatKept.enterUninaugurated s
  have hk := sameClock_enterUninaugurated s
  have hno : ∀ u ∈ consistTimers, (enterUninaugurated s).count u = none := fun u hu =>
    count_enterUninaugurated_none hu s
  unfold restartConsist
  generalize enterUninaugurated s = e at *
  refine ⟨hframe.trans (.setConsist _ e), ?_, hd, hh, hk, hc, hn, hno⟩
  rw [State.setConsist_consist, hcons]

theorem unitsRestarted_of (levels : Levels) (s : State) : UnitsRestarted levels s (restUnits levels s) := by
  have h3 := restartLines_eq levels s
  unfold restUnits
  generalize restartLines levels (restartRelay (restartPorts s)) = a at h3
  have hside3 : ∀ d, a.side d = s.side d := fun d => by rw [h3]; rfl
  have hcount3 : ∀ u, u ≠ .t15 → (∀ p, u ≠ .t0 p ∧ u ≠ .t1 p) → a.count u = s.count u := fun u h15 hp => by
    rw [h3]
    cases u with
    | t0 p => exact absurd rfl (hp p).1
    | t1 p => exact absurd rfl (hp p).2
    | t15 => exact absurd rfl h15
    | _ => rfl
  have hclock3 : s.SameClock a := by rw [h3]; exact ⟨rfl, rfl⟩
  have h4 := restartDoors_eq a
  generalize restartDoors a = b at h4
  have hside4 : ∀ d, b.side d = restartedSide (a.lineProof d) (s.side d) := fun d => by
    rw [h4, ← hside3]
    cases d <;> rfl
  have hcount4 : ∀ u, u ≠ .t7 → u ≠ .t8 → (∀ d, u ≠ .t10 d) → b.count u = a.count u := fun u h7 h8 hd => by
    rw [h4]
    cases u with
    | t7 => exact absurd rfl h7
    | t8 => exact absurd rfl h8
    | t10 d => exact absurd rfl (hd d)
    | _ => rfl
  have ht10 : ∀ d, b.count (.t10 d) = a.restartedT10 d := fun d => by
    rw [h4]
    cases d <;> rfl
  have hdoor4 : b.door = ⟨b.door.sides, 0, 0, none, false, false, false⟩ := by rw [h4]; rfl
  have hw4 : b.door = ⟨b.door.sides, b.door.commandCounter, b.door.walk, none, false, false, false⟩ := by rw [h4]; rfl
  have h5 := consistLeft_of (s := b) (fun d => by rw [hside4]; exact restartedSide_state _ _) hw4
  generalize restartConsist b = c at h5
  have h6 := restartHeat_eq c
  generalize restartHeat c = t at h6
  have hframe : a.RestTo t := by
    have hb : a.RestTo b := by
      rw [h4]
      exact .acted ..
    have ht : c.RestTo t := by
      rw [h6]
      exact (State.RestTo.acted ..).trans (.setCount ..)
    exact (hb.trans h5.frame).trans ht
  have hlines := hframe.lines
  have hproof := fun d => lineProof_of_lines hlines d
  have hdoor : t.door = b.door := by
    rw [h6]
    exact h5.door
  have hcount6 : ∀ u, u ∉ [TimerId.t11, .t12, .t13, .t14] → t.count u = c.count u := fun u hu => by
    rw [h6]
    cases u with
    | t11 | t12 | t13 | t14 => simp at hu
    | _ => rfl
  have hclock5 : s.SameClock c := by
    have h34 : a.SameClock b := by rw [h4]; exact ⟨rfl, rfl⟩
    exact (hclock3.trans h34).trans h5.clock
  have hclock : s.SameClock t := by
    have h56 : c.SameClock t := by rw [h6]; exact ⟨rfl, rfl⟩
    exact hclock5.trans h56
  obtain ⟨x, f, w, o, p, hheat⟩ := h5.heat
  have hbheat : b.heat = s.heat := by
    rw [h4]
    show a.heat = _
    rw [h3]
  rw [hbheat] at hheat
  refine ⟨?_, ?_, ?_, ?_, ?_, ?_, ?_, ?_, ?_, fun d => ?_, fun d => ?_, ?_, ?_, hclock, fun p => ?_, fun p => ?_,
    fun u hu => ?_, ?_⟩
  · obtain ⟨x, y, z, k, he⟩ := hframe
    rw [he, h3]
  · obtain ⟨x, y, z, k, he⟩ := hframe
    rw [he, h3]
  · obtain ⟨x, y, z, k, he⟩ := hframe
    rw [he, h3]
  · obtain ⟨x, y, z, k, he⟩ := hframe
    rw [he, h3]
  · obtain ⟨x, y, z, k, he⟩ := hframe
    rw [he, h3]
  · obtain ⟨x, y, z, k, he⟩ := hframe
    rw [he, h3]
  · obtain ⟨x, y, z, k, he⟩ := hframe
    rw [he, h3]
  · rw [hlines, h3]
  · rw [h6]
    show c.consist = _
    rw [h5.consist, h4]
    show ConsistUnit.mk _ _ _ _ _ _ _ _ _ _ a.consist.coachClass a.consist.doors = _
    rw [h3]
  · rw [hproof, ← hside4]
    simp only [State.side, hdoor]
  · rw [hproof, hcount6 _ (by simp), h5.count _ (by simp) (by simp [consistTimers]), ht10, State.restartedT10, hside3,
      hcount3 _ (by simp) (by simp), hclock3.period]
  · rw [hdoor]
    exact hdoor4
  · rw [h6]
    show { c.heat with
      applied := 0, fallback := true, walkRecord := none, walk := 0, outstanding := none, startPending := false } = _
    rw [hheat]
  · rw [hcount6 _ (by simp), h5.count _ (by simp) (by simp [consistTimers]), hcount4 _ (by simp) (by simp) (by simp), h3]
    cases p <;> rfl
  · rw [hcount6 _ (by simp), h5.count _ (by simp) (by simp [consistTimers]), hcount4 _ (by simp) (by simp) (by simp), h3]
    cases p <;> rfl
  · have hwalk : u = .t7 ∨ u = .t8 → t.count u = none := fun h => by
      have hb : b.count u = none := by
        rw [h4]
        rcases h with rfl | rfl <;> rfl
      rw [hcount6 _ (by rcases h with rfl | rfl <;> simp), h5.walks u h hb]
    have hcons : u ∈ consistTimers → t.count u = none := fun h => by
      have hne : u ∉ [TimerId.t11, .t12, .t13, .t14] := by
        simp only [consistTimers, List.mem_cons, List.not_mem_nil, or_false] at h
        rcases h with rfl | rfl | rfl | rfl | rfl | rfl <;> simp
      rw [hcount6 _ hne, h5.stopped u h]
    have hheat : u = .t11 ∨ u = .t12 ∨ u = .t13 → t.count u = none := fun h => by
      rw [h6]
      rcases h with rfl | rfl | rfl <;> rfl
    have hdrain : t.count .t15 = none := by
      rw [hcount6 _ (by simp), h5.count _ (by simp) (by simp [consistTimers]), hcount4 _ (by simp) (by simp) (by simp), h3]
      rfl
    cases u with
    | t2 | t3 | t4 | t5 | t6 | t9 => exact hcons (by simp [consistTimers])
    | t7 | t8 => exact hwalk (by simp)
    | t11 | t12 | t13 => exact hheat (by simp)
    | t15 => exact hdrain
    | _ => simp at hu
  · have ha : t.asserted .heatFeedback = c.asserted .heatFeedback := by rw [h6]; rfl
    rw [ha, ← hclock5.period, show s.heat.lockedOut = c.heat.lockedOut by rw [hheat], h6]
    exact State.count_setCount ..

end Sys2Proof.Machine
end

section
/-! SUPPORT. A restart, and the three ways it comes. -/

namespace Sys2Proof.Machine

open Sys2Proof

/-! ### The role at the end of a restart (R42, R74) -/

/-- R42, R74: what the role's evaluation at the end of a restart does. -/
structure RoleTaken (s t : State) : Prop where
  frame : ∃ x k, t = { s with consist := x, timers := { s.timers with counts := k } }
  consist : t.consist = { s.consist with
    role := if s.cab = true then .master else .member
    state := if s.cab = true then .settling else .uninaugurated }
  count : ∀ u, u ≠ .t2 → t.count u = s.count u
  t2 : t.count .t2 = if s.cab = true then some (s.period .t2) else none

theorem roleTaken_of {levels : Levels} {s x : State} (h : UnitsRestarted levels s x) :
    RoleTaken x (evaluateRole x) := by
  have hrole : x.consist.role = .member := by rw [h.consist]
  have hup : ∀ p, x.isUp p = false := fun p => by
    rw [State.isUp, State.port, h.ports]
    cases p <;> rfl
  have h2 : x.count .t2 = none := h.stopped .t2 (by simp)
  rw [evaluateRole_of_rest hrole hup]
  by_cases hc : x.cab = true
  · rw [if_pos hc, becomeMaster_of_rest hrole (by rw [h.heat]) (by rw [h.heat])]
    have hstop : stopTimers [.t5, .t6, .t9] x = x.setTimers { x.timers with
        counts := { x.timers.counts with t5 := none, t6 := none, t9 := none } } := rfl
    refine ⟨⟨_, _, by rw [hstop]; rfl⟩, ?_, fun u hu => ?_, ?_⟩
    · rw [startTimer_consist, State.setConsist_consist, h.consist]
      simp [hc]
    · rw [count_startTimer_ne hu, State.count_setConsist]
      by_cases hm : u ∈ [TimerId.t5, .t6, .t9]
      · rw [count_stopTimers_mem hm]
        refine (h.stopped u ?_).symm
        simp only [List.mem_cons, List.not_mem_nil, or_false] at hm
        rcases hm with rfl | rfl | rfl <;> simp
      · exact count_stopTimers_not_mem hm x
    · rw [count_startTimer, if_pos hc]
      exact congrArg some (((sameClock_stopTimers [.t5, .t6, .t9] x).trans (.of_timers rfl)).period .t2)
  · rw [if_neg hc]
    refine ⟨⟨x.consist, x.timers.counts, rfl⟩, ?_, fun _ _ => rfl, ?_⟩
    · rw [h.consist]
      simp [hc]
    · rw [if_neg hc, h2]

/-! ### The command -/

theorem whenTaken_isUp (v : Via) (c : ReqCode) (q : Req) (s : State) (p : Port) :
    (s.whenTaken v c q).isUp p = s.isUp p := by
  cases v with
  | tap done tag =>
    obtain ⟨r, head, he⟩ := nodePart_cases done s
    exact isUp_of_ports ((congrArg State.ports he).trans rfl) p
  | train g h =>
    have ha : (s.afterFrame g).isUp p = s.isUp p := by rw [State.isUp, afterFrame_link, State.isUp]
    simp only [State.whenTaken]
    split_ifs
    · exact ha
    · exact (isUp_of_ports (sendFrame_ports ..) p).trans ha

section AfterResponse

variable {q : Req} {u : State} (hu : u.isUp u.answerPort = true) (levels : Levels) (tag : Nat)

include hu

theorem restartAfterResponse_of_room (hr : u.hasRoom u.answerPort .control = true) :
    restartAfterResponse levels q tag u = (appendQueue u.answerPort .control (u.restartResponse q tag) u).setMgmt
      { u.mgmt with restart := .waiting } := by
  have he : enqueue u.answerPort .control (u.restartResponse q tag) u
      = appendQueue u.answerPort .control (u.restartResponse q tag) u := by
    rw [enqueue, hu, hr]
    rfl
  have hb : (u.isUp u.answerPort && u.hasRoom u.answerPort .control) = true := by rw [hu, hr]; rfl
  rw [restartAfterResponse, he]
  exact if_pos hb

theorem restartAfterResponse_of_full (hr : u.hasRoom u.answerPort .control = false) :
    restartAfterResponse levels q tag u = restartNode levels (recordFault .queueFull (.port u.answerPort) u) := by
  have he : enqueue u.answerPort .control (u.restartResponse q tag) u
      = recordFault .queueFull (.port u.answerPort) u := by
    rw [enqueue, hu, hr]
    rfl
  have hb : ¬(u.isUp u.answerPort && u.hasRoom u.answerPort .control) = true := by rw [hu, hr]; decide
  rw [restartAfterResponse, he]
  exact if_neg hb

end AfterResponse

theorem restartAfterResponse_of_down {q : Req} {u : State} (hu : u.isUp u.answerPort = false) (levels : Levels)
    (tag : Nat) : restartAfterResponse levels q tag u = restartNode levels u := by
  have hb : ¬(u.isUp u.answerPort && u.hasRoom u.answerPort .control) = true := by rw [hu]; simp
  rw [restartAfterResponse, enqueue_of_not_up hu]
  exact if_neg hb

theorem restartedSide_eq (proof : Proof) (x : SideRecord) : restartedSide proof x
    = ⟨if x.state = .released ∨ x.state = .closing then (if proof = .proved then .closed else .closing) else x.state,
      proof, x.localInhibit, decide (proof ≠ .proved)⟩ := by
  cases proof <;> rfl

/-- Settles O56: the restart by blocks, and the three ways. -/
theorem nodeRestarts : Obligations.NodeRestarts := by
  refine ⟨fun levels s => ?_, fun v q levels s hj hv => ?_, fun p h q levels s hj => ?_, fun levels s hn hm => ?_⟩
  · intro t logic lead
    have k := unitsRestarted_of levels s
    have r := roleTaken_of k
    have ht : t = evaluateRole (restUnits levels s) := rfl
    rw [← ht] at r
    clear_value t
    generalize restUnits levels s = x at k r
    obtain ⟨xc, xk, hframe⟩ := r.frame
    have hcab : t.cab = x.cab := by rw [hframe]; rfl
    have hclock : s.SameClock t := k.clock.trans (by rw [hframe]; exact ⟨rfl, rfl⟩)
    have hproof : ∀ d, t.lineProof d = x.lineProof d := fun d => by rw [hframe]; rfl
    refine ⟨?_, ?_, ?_, ?_, ?_, ?_, ?_, ?_, ?_, fun d => ⟨?_, ?_⟩, ?_, ?_, hclock.1, hclock.2, fun p => ⟨?_, ?_⟩, ?_,
      fun u hu => ?_, ?_⟩
    · rw [hframe]; exact k.pending
    · rw [hframe]; exact k.identity
    · rw [hframe]; exact k.faults
    · rw [hframe]; exact k.bypass
    · rw [hframe]; exact k.ports
    · rw [hframe]
      refine k.relay.trans ?_
      cases s.relay.select <;> rfl
    · rw [hframe]; exact k.mgmt
    · rw [hframe]
      refine k.lines.trans ?_
      refine congrArg (fun f => LineUnit.mk (s.lines.line.mapIdx f) false) (funext fun i => funext fun l => ?_)
      simp only [LineRecord.restarted, LineRecord.taken, logic_eq]
      rfl
    · rw [r.consist, k.consist, ← hcab]
    · have hside : t.side d = x.side d := by rw [hframe]; rfl
      rw [hside, k.side, hproof]
      exact restartedSide_eq ..
    · rw [r.count _ (by simp), k.t10, hproof]
      cases d <;> rfl
    · rw [hframe]; exact k.door
    · rw [hframe]; exact k.heat
    · exact (r.count _ (by simp)).trans (k.t0 p)
    · exact (r.count _ (by simp)).trans (k.t1 p)
    · rw [r.t2, ← hcab, k.clock.period]
      rfl
    · refine (r.count u ?_).trans (k.stopped u (List.mem_cons_of_mem _ hu))
      rintro rfl
      simp at hu
    · have ha : t.asserted .heatFeedback = x.asserted .heatFeedback := by rw [hframe]; rfl
      rw [r.count _ (by simp), k.t14, ha]
      rfl
  · refine congrArg Host.Outcome.next ?_
    refine request_answered hj.1 (gate_of_judges hj (by rw [hv]; rfl)) ?_
    rw [hv]
    rfl
  · intro u r port
    have hreq : exec (.restart (.train p h) q levels) s = .next (restartAfterResponse levels q h.tag u) :=
      congrArg Host.Outcome.next (request_unanswered hj.1 (gate_of_judges hj rfl) rfl)
    have hcons : u.consist = s.consist := whenTaken_consist ..
    have hport : u.answerPort = port := by rw [State.answerPort, hcons]
    have hup : u.isUp port = s.isUp port := whenTaken_isUp ..
    have hresp : u.restartResponse q h.tag = ⟨r, none, true⟩ := by
      simp only [State.restartResponse, State.answer, State.ownHeader, hcons]
      rfl
    refine ⟨fun hu hr => ?_, fun hu hr => ?_, fun hu => ?_⟩
    · rw [hreq, restartAfterResponse_of_room (u := u) (by rw [hport, hup, hu]) levels h.tag (by rw [hport, hr]), hport, hresp, show u.mgmt = s.mgmt from whenTaken_mgmt ..]
      rfl
    · rw [hreq, restartAfterResponse_of_full (u := u) (by rw [hport, hup, hu]) levels h.tag (by rw [hport, hr]), hport]
    · rw [hreq, restartAfterResponse_of_down (u := u) (by rw [hport, hup, hu])]
  · refine congrArg Host.Outcome.next (if_pos ?_)
    simp [State.operating, hn, hm]

end Sys2Proof.Machine
end

section
/-! SUPPORT. The timers of an attempt. -/

namespace Sys2Proof.Machine

open Sys2Proof

/-! ### An attempt begins (R47, R49, R62) -/

/-- R45: with one UP port the attempt goes out of it. -/
theorem rearwardOf_attemptOrientation {p : Port} {s : State} (hu : s.isUp p = true) (hd : s.isUp p.other = false) :
    s.attemptOrientation = (if p = .e1 then .reversed else .normal) ∧ rearwardOf s.attemptOrientation = p
      ∧ forwardOf s.attemptOrientation = p.other := by
  have ho : s.attemptOrientation = if p = .e1 then .reversed else .normal := by
    cases p with
    | e1 => exact if_pos (by rw [hu, show s.isUp .e2 = false from hd]; rfl)
    | e2 => exact if_neg (by rw [show s.isUp .e1 = false from hd]; simp)
  rw [ho]
  cases p <;> exact ⟨rfl, rfl, rfl⟩

/-- R166, R168: an unsettled state that closes no door, entered from outside STABLE. -/
theorem enterState_calling {s : State} (hm : s.stableMaster = false) :
    enterState .master .calling s = (heatUnsettled s).setConsist { s.consist with role := .master, state := .calling } := by
  rw [enterState_eq, madeReady, hm]
  rfl

/-- R47, R62: what the beginning of an attempt on the port `p` does. -/
structure AttemptBegun (p : Port) (epoch attempt : Nat) (s t : State) : Prop where
  consist : t.consist = { s.consist with
    role := .master, state := .calling
    attempt := some ⟨epoch, attempt, s.attemptOrientation, [], s.masterEntry s.attemptOrientation⟩ }
  t3 : t.count .t3 = some (s.period .t3)
  count : ∀ u, u = .t2 ∨ u = .t4 → t.count u = s.count u
  tx : (t.port p).tx = .brk
  t1 : t.count (.t1 p) = s.cutT1 p
  bypass : t.bypass = { s.bypass with holdoff := true }
  queue : t.queues p = ⟨[], [plain (s.callFrame epoch attempt s.attemptOrientation)], []⟩
  empty : t.queues p.other = ⟨[], [], []⟩
  faults : t.faults = s.faults
  door : t.door = s.door
  lines : t.lines = s.lines
  mgmt : t.mgmt = s.mgmt

theorem attemptBegun_of {p : Port} {epoch attempt : Nat} {s : State} (hu : s.isUp p = true) (hd : s.isUp p.other = false)
    (hm : s.stableMaster = false) (hdr : s.relay.draining = false) (hr : s.mgmt.restart = .none) :
    AttemptBegun p epoch attempt s (startAttempt epoch attempt s) := by
  obtain ⟨-, hrear, -⟩ := rearwardOf_attemptOrientation hu hd
  let a : State := s.setConsist { s.consist with
    attempt := some ⟨epoch, attempt, s.attemptOrientation, [], s.masterEntry s.attemptOrientation⟩ }
  let call := s.callFrame epoch attempt s.attemptOrientation
  have ht : startAttempt epoch attempt s
      = enterState .master .calling (startTimer .t3 (sendFrame p call (sendBreaks [p] a))) := by
    unfold startAttempt
    dsimp only
    rw [hrear]
  have k : BreaksSent [p] a (sendBreaks [p] a) := sendBreaks_sent (by simp) (by simp)
    (fun q hq => by rw [List.mem_singleton.mp hq]; exact link_of_isUp hu) hdr
  rw [ht]
  generalize sendBreaks [p] a = b at k
  have hbup : b.isUp p = true := by
    rw [State.isUp, k.port, if_pos (List.mem_singleton.mpr rfl)]
    exact hu
  have hq : ∀ q, b.queues q = Queues.empty := fun q => by
    rw [State.queues, k.relay]
    cases q <;> rfl
  have hc : sendFrame p call b = appendQueue p .control (plain call) b := by
    have hroom : b.hasRoom p .control = true := by
      rw [show b.hasRoom p .control = decide (((b.queues p).get .control).length < Level.control.capacity) from rfl, hq]
      rfl
    rw [sendFrame, enqueue, hbup]
    exact if_pos hroom
  have hc3 : (startTimer .t3 (appendQueue p .control (plain call) b)).stableMaster = false := by
    refine Eq.trans ?_ hm
    simp only [State.stableMaster, State.isMaster, startTimer_consist, appendQueue_consist, k.consist]
    rfl
  rw [hc, enterState_calling hc3]
  generalize hv : startTimer .t3 (appendQueue p .control (plain call) b) = v
  have hrelay : v.relay = (appendQueue p .control (plain call) b).relay := by rw [← hv]; rfl
  have hqueues : ∀ q, v.queues q = if q = p then ⟨[], [plain call], []⟩ else ⟨[], [], []⟩ := fun q => by
    have hqb := hq q
    have hqp := hq p
    rw [State.queues, hrelay, appendQueue, hqp]
    split_ifs with he
    · subst he
      exact State.queues_setQueues ..
    · obtain rfl : q = p.other := by cases p <;> cases q <;> first | rfl | exact absurd rfl he
      exact (State.queues_setQueues_other ..).trans hqb
  have hport : ∀ q, v.port q = b.port q := fun q => by rw [← hv]; rfl
  have hcount : ∀ u, u ≠ .t3 → v.count u = b.count u := fun u hu => by
    rw [← hv, count_startTimer_ne hu]
    rfl
  have hcons : v.consist = a.consist := by
    rw [← hv, startTimer_consist, appendQueue_consist, k.consist]
  have hmem : p ∈ [p] := List.mem_singleton.mpr rfl
  have hh : ∀ u, u ≠ .t13 → u ≠ .t14 → ((heatUnsettled v).setConsist
      { v.consist with role := .master, state := .calling }).count u = v.count u := fun u h13 h14 =>
    count_heatUnsettled ⟨h13, h14⟩ v
  refine ⟨?_, ?_, fun u hu => ?_, ?_, ?_, ?_, ?_, ?_, ?_, ?_, ?_, ?_⟩
  · rw [State.setConsist_consist, hcons]
    rfl
  · rw [hh _ (by simp) (by simp), ← hv, count_startTimer]
    refine congrArg some ((period_of_settings ?_ .t3).trans (k.clock.period .t3))
    rw [appendQueue_timers]
  · rw [hh _ (by rcases hu with rfl | rfl <;> simp) (by rcases hu with rfl | rfl <;> simp),
      hcount _ (by rcases hu with rfl | rfl <;> simp), k.count _ (by rcases hu with rfl | rfl <;> simp)]
    rfl
  · show ((heatUnsettled v).port p).tx = _
    rw [State.port, heatUnsettled_ports]
    show (v.port p).tx = _
    rw [hport, k.port, if_pos hmem]
    rfl
  · rw [hh _ (by simp) (by simp), hcount _ (by simp), k.t1, if_pos hmem]
    rfl
  · show (heatUnsettled v).bypass = _
    rw [heatUnsettled_bypass, ← hv]
    exact k.bypass
  · show (heatUnsettled v).relay.queues.get p = _
    rw [heatUnsettled_relay]
    exact (hqueues p).trans (if_pos rfl)
  · show (heatUnsettled v).relay.queues.get p.other = _
    rw [heatUnsettled_relay]
    exact (hqueues p.other).trans (if_neg (Port.other_ne p))
  · show (heatUnsettled v).faults = _
    rw [heatUnsettled_faults, ← hv]
    exact k.faults
  · show (heatUnsettled v).door = _
    rw [heatUnsettled_door, ← hv]
    exact k.door
  · show (heatUnsettled v).lines = _
    rw [heatUnsettled_lines, ← hv]
    exact k.lines
  · show (heatUnsettled v).mgmt = _
    rw [heatUnsettled_mgmt, ← hv]
    refine k.mgmt.trans ?_
    refine congrArg (ManagementUnit.mk s.mgmt.commit) (if_neg ?_)
    rw [show a.mgmt.restart = .none from hr]
    simp

/-! ### An attempt ends without a result (R62, R63) -/

theorem attemptTimeout_of {a : Attempt} {s : State} (h : s.consist.attempt = some a) : attemptTimeout s
    = if a.attempt < 3 then startAttempt a.epoch (a.attempt + 1) s
      else enterBlocked .noReturn (recordFault .inaugurationFailed .node s) := by
  rw [attemptTimeout, h]

/-! ### A train of one (R48) -/

/-- R48, R91: a master with no UP port installs itself as the train. -/
structure InstalledAlone (epoch : Nat) (own : Entry) (s t : State) : Prop where
  consist : t.consist = { s.consist with
    role := .master, state := .stable, table := [own], epoch := epoch, position := 1, orientation := .normal
    attempt := none }
  t7 : t.count .t7 = some (s.period .t7)
  t11 : t.count .t11 = some (s.period .t11)
  stopped : t.count .t8 = none ∧ t.count .t12 = none
  t2 : t.count .t2 = s.count .t2
  door : t.door.outstanding = none
  heat : t.heat.outstanding = none
  groups : t.relay.groupsActive = s.relay.groupsActive &&& 0x00FF#16
    ∧ t.relay.groupsStaged = s.relay.groupsStaged &&& 0x00FF#16
  queues : t.relay.queues = s.relay.queues
  ports : t.ports = s.ports
  lines : t.lines = s.lines

theorem deliver_relay_kept (f : Frame) (s : State) : (deliver f s).relay.groupsActive = s.relay.groupsActive
    ∧ (deliver f s).relay.groupsStaged = s.relay.groupsStaged ∧ (deliver f s).relay.queues = s.relay.queues := by
  rcases deliver_cases f s with ⟨-, h⟩ | ⟨-, h⟩
  · rw [h]
    exact ⟨rfl, rfl, rfl⟩
  · rw [h, recordFault_relay]
    exact ⟨rfl, rfl, rfl⟩

theorem returnStep_outstanding (r : WalkRecord) (x : HeatBody) (s : State) :
    (returnStep r x s).heat.outstanding = s.heat.outstanding := by
  rw [returnStep_eq rfl]
  simp only [State.setHeat_heat, setApplied_heat]
  split_ifs <;> rfl

theorem count_returnStep {u : TimerId} (h : u ≠ .t14) (r : WalkRecord) (x : HeatBody) (s : State) :
    (returnStep r x s).count u = s.count u := by
  rw [returnStep_eq rfl]
  dsimp only
  rw [State.count_setHeat, count_setApplied h]
  split_ifs
  · exact count_of_timers (recordFault_timers ..)
  · rfl

theorem installedAlone_of {epoch : Nat} {own : Entry} {s : State} (hup : s.upPorts = []) :
    InstalledAlone epoch own s (installMaster epoch .normal [own] s) := by
  rw [installMaster_eq]
  let i : State := startTimer .t7 (installed epoch .normal [own] s)
  have hiup : i.upPorts = [] := hup
  obtain ⟨hsum, -⟩ := (walksStart i).2 hiup
  have hdoubt : ¬(i.consist.state = .suspect ∨ i.consist.table.length ≠ 1) := by
    rintro (h | h)
    · cases h
    · exact h rfl
  rw [if_neg hdoubt] at hsum
  have hwalks : startWalks (installed epoch .normal [own] s) = if (startSummaryWalk i).stableMaster then
      startHeatWalk (startTimer .t11 (startSummaryWalk i)) else startSummaryWalk i := rfl
  rw [hwalks, hsum]
  generalize hw : State.setCount (State.setDoor i _) .t8 none = w
  generalize hg : deliver _ w = d
  have hdc : d.consist = i.consist := by rw [← hg, deliver_consist, ← hw]; rfl
  have hdp : d.ports = s.ports := by rw [← hg, deliver_ports, ← hw]; rfl
  have hdl : d.lines = s.lines := by rw [← hg, deliver_lines, ← hw]; rfl
  have hdd : d.door.outstanding = none := by rw [← hg, deliver_door, ← hw]; rfl
  have hdk : ∀ u, u ≠ .t8 → d.count u = i.count u := fun u hu => by
    rw [← hg, count_deliver, ← hw, State.count_setCount_ne _ hu]
    rfl
  have hd8 : d.count .t8 = none := by rw [← hg, count_deliver, ← hw]; exact State.count_setCount ..
  have hdclock : s.SameClock d := by
    refine State.SameClock.trans ?_ (.of_timers (by rw [← hg, deliver_timers]) : w.SameClock d)
    rw [← hw]
    exact ⟨rfl, rfl⟩
  have hdr : d.relay.groupsActive = s.relay.groupsActive &&& 0x00FF#16
      ∧ d.relay.groupsStaged = s.relay.groupsStaged &&& 0x00FF#16 ∧ d.relay.queues = s.relay.queues := by
    rw [← hg, (deliver_relay_kept ..).1, (deliver_relay_kept ..).2.1, (deliver_relay_kept ..).2.2, ← hw]
    exact ⟨rfl, rfl, rfl⟩
  clear hg hw hsum hdoubt hwalks
  have hstable : d.stableMaster = true := by
    rw [stableMaster_iff, hdc]
    exact ⟨rfl, rfl⟩
  rw [if_pos hstable]
  have hdup : (startTimer .t11 d).upPorts = [] := (upPorts_congr hdp).trans hup
  obtain ⟨-, r, -, -, -, hheat⟩ := (walksStart (startTimer .t11 d)).2 hdup
  rw [hheat]
  generalize hx : outboundStep _ _ _ = x
  generalize hy : State.setCount (State.setHeat x _) .t12 none = y
  generalize hz : returnStep r _ y = z
  have hxc : x.consist = d.consist := by rw [← hx, outboundStep_consist]; rfl
  have hxd : x.door = d.door := by rw [← hx, outboundStep_door]; rfl
  have hxp : x.ports = d.ports := by rw [← hx, outboundStep_ports]; rfl
  have hxl : x.lines = d.lines := by rw [← hx, outboundStep_lines]; rfl
  have hxr : x.relay = d.relay := by rw [← hx, outboundStep_relay]; rfl
  have hxk : ∀ u, u ≠ .t13 → u ≠ .t14 → x.count u = (startTimer .t11 d).count u := fun u h13 h14 => by
    rw [← hx, count_outboundStep h13 h14]
    rfl
  have hcount : ∀ u, u ≠ .t12 → u ≠ .t13 → u ≠ .t14 → z.count u = (startTimer .t11 d).count u := fun u h12 h13 h14 => by
    rw [← hz, count_returnStep h14, ← hy, State.count_setCount_ne _ h12, State.count_setHeat, hxk u h13 h14]
  refine ⟨?_, ?_, ?_, ⟨?_, ?_⟩, ?_, ?_, ?_, ?_, ?_, ?_, ?_⟩
  · rw [deliver_consist, ← hz, returnStep_consist, ← hy]
    show x.consist = _
    rw [hxc, hdc]
    rfl
  · rw [count_deliver, hcount _ (by simp) (by simp) (by simp), count_startTimer_ne (by simp), hdk _ (by simp)]
    exact count_startTimer ..
  · rw [count_deliver, hcount _ (by simp) (by simp) (by simp), count_startTimer, hdclock.period]
  · rw [count_deliver, hcount _ (by simp) (by simp) (by simp), count_startTimer_ne (by simp), hd8]
  · rw [count_deliver, ← hz, count_returnStep (by simp), ← hy, State.count_setCount]
  · rw [count_deliver, hcount _ (by simp) (by simp) (by simp), count_startTimer_ne (by simp), hdk _ (by simp)]
    exact count_startTimer_ne (by simp) _
  · rw [deliver_door, ← hz, returnStep_door, ← hy]
    show x.door.outstanding = _
    rw [hxd, hdd]
  · rw [deliver_heat, ← hz, returnStep_outstanding, ← hy]
    rfl
  · have hrel : z.relay = d.relay := by
      rw [← hz, returnStep_relay, ← hy]
      exact hxr
    rw [(deliver_relay_kept ..).1, (deliver_relay_kept ..).2.1, hrel]
    exact ⟨hdr.1, hdr.2.1⟩
  · have hrel : z.relay = d.relay := by
      rw [← hz, returnStep_relay, ← hy]
      exact hxr
    rw [(deliver_relay_kept ..).2.2, hrel]
    exact hdr.2.2
  · rw [deliver_ports, ← hz, returnStep_ports, ← hy]
    exact hxp.trans hdp
  · rw [deliver_lines, ← hz, returnStep_lines, ← hy]
    exact hxl.trans hdl

/-! ### The three expiries -/

/-- R49: the far port of a port that is not UP. -/
theorem farPort_of_not_up {p : Port} {s : State} (h : s.isUp p = false) : (s.port p).link.farPort
    = match (s.port p).link with
      | .faulted => .faulted
      | .up | .down | .arriving => .down := by
  cases hl : (s.port p).link with
  | up => simp [State.isUp, hl] at h
  | _ => rfl

/-- Settles O36: the settle time's end in a train and in a train of one, and an attempt that times out. -/
theorem attemptTimers : Obligations.AttemptTimers := by
  intro s hn hrole hdr hres called blockedOut
  have hcalled : ∀ (k : TimerId) (p : Port) (epoch attempt : Nat), k = .t2 ∨ k = .t3 ∨ k = .t4 →
      s.consist.state ≠ .stable → s.isUp p = true → s.isUp p.other = false →
      called p epoch attempt (startAttempt epoch attempt (s.setCount k none))
        ∧ ∀ u, u = .t2 ∨ u = .t4 → (startAttempt epoch attempt (s.setCount k none)).count u
          = (s.setCount k none).count u := fun k p epoch attempt hk hst hu hd => by
    have hm : (s.setCount k none).stableMaster = false :=
      Bool.eq_false_iff.mpr fun h => hst ((stableMaster_iff _).mp h).2
    have b := attemptBegun_of (p := p) (epoch := epoch) (attempt := attempt) (s := s.setCount k none) hu hd hm hdr hres
    obtain ⟨ho, -, hfor⟩ := rearwardOf_attemptOrientation (p := p) (s := s.setCount k none) hu hd
    have hmas : (s.setCount k none).isMaster = true := (isMaster_iff s).mpr hrole
    have hown : (s.setCount k none).masterEntry (s.setCount k none).attemptOrientation
        = ⟨s.identity, if p = .e1 then .reversed else .normal, true, false, (match (s.port p.other).link with
          | .faulted => .faulted
          | .up | .down | .arriving => .down), 0, s.consist.coachClass, false, s.consist.doors⟩ := by
      rw [State.masterEntry, State.ownEntry, hmas, hfor, ho, ← farPort_of_not_up hd]
      rfl
    have hne : TimerId.t1 p ≠ k := by rcases hk with rfl | rfl | rfl <;> simp
    refine ⟨⟨?_, b.t3, b.tx, ?_, b.bypass, ?_, b.empty, b.faults, congrArg DoorUnit.sides b.door, b.lines, b.mgmt⟩,
      b.count⟩
    · rw [b.consist, hown, ho, ← hrole]
      rfl
    · rw [b.t1, State.cutT1, State.count_setCount_ne _ hne]
      rfl
    · rw [b.queue, State.callFrame, hown]
      rfl
  have hblocked : ∀ k : TimerId, blockedOut (enterBlocked .noReturn
      (recordFault .inaugurationFailed .node (s.setCount k none))) := fun k => by
    generalize hv : recordFault .inaugurationFailed .node (s.setCount k none) = v
    have hcons : v.consist = s.consist := by rw [← hv, recordFault_consist]; rfl
    refine ⟨?_, ?_, ?_, ?_, ?_, fun u hu => count_enterBlocked_none hu .noReturn v, fun d => enterBlocked_side .noReturn d v⟩
    · rw [enterBlocked_consist, hcons]
    · rw [enterBlocked_faults, ← hv]
      rfl
    · rw [enterBlocked_relay, ← hv, recordFault_relay]
      rfl
    · rw [enterBlocked_ports, ← hv, recordFault_ports]
      rfl
    · rw [enterBlocked_lines, ← hv, recordFault_lines]
      rfl
  have hrun : ∀ k : TimerId, s.count k = some 0 → s.ranOut k = true := fun k hk => ranOut_of (operating_of_node hn) hk
  have hmas : ∀ k : TimerId, (s.setCount k none).isMaster = true := fun k => (isMaster_iff s).mpr hrole
  have hretry : ∀ (k : TimerId) (a : Attempt), s.consist.attempt = some a → attemptTimeout (s.setCount k none)
      = if a.attempt < 3 then startAttempt a.epoch (a.attempt + 1) (s.setCount k none)
        else enterBlocked .noReturn (recordFault .inaugurationFailed .node (s.setCount k none)) := fun k a ha =>
    attemptTimeout_of (s := s.setCount k none) ha
  have hcall : s.consist.state = .calling → s.count .t3 = some 0 →
      exec .callTimeout s = .next (attemptTimeout (s.setCount .t3 none)) := fun hst hc =>
    congrArg Host.Outcome.next ((if_pos (hrun _ hc)).trans (if_pos ⟨hmas .t3, hst⟩))
  have hconfirm : s.consist.state = .confirming → s.count .t4 = some 0 →
      exec .confirmTimeout s = .next (attemptTimeout (s.setCount .t4 none)) := fun hst hc =>
    congrArg Host.Outcome.next ((if_pos (hrun _ hc)).trans (if_pos ⟨hmas .t4, hst⟩))
  refine ⟨fun hst hc => ?_, fun a ha => ⟨fun hst hc => ⟨fun p hu hd hlt => ?_, fun hge => ?_⟩,
    fun hst hc => ⟨fun p hu hd hlt => ?_, fun hge => ?_⟩⟩⟩
  · intro epoch
    have hx : exec .settleExpiry s = .next (settle (s.setCount .t2 none)) := congrArg Host.Outcome.next
      ((if_pos (hrun _ hc)).trans (if_pos ⟨hmas .t2, hst⟩))
    have hepoch : s.consist.epoch ≤ 255 → nextEpoch s.consist.epoch = epoch := fun hle => by
      unfold nextEpoch
      simp only [epoch]
      split_ifs <;> omega
    refine ⟨fun p hu hd hle => ?_, fun h1 h2 hle => ?_⟩
    · have hup : (s.setCount .t2 none).upPorts ≠ [] := fun he => by
        have hmem := mem_upPorts.mpr (show (s.setCount .t2 none).isUp p = true from hu)
        rw [he] at hmem
        cases hmem
      have hs : settle (s.setCount .t2 none) = startAttempt epoch 1 (s.setCount .t2 none) := by
        rw [← hepoch hle]
        exact if_neg (by simpa using hup)
      obtain ⟨hcd, hk⟩ := hcalled .t2 p epoch 1 (.inl rfl) (by rw [hst]; decide) hu hd
      refine ⟨_, hx.trans (congrArg Host.Outcome.next hs), ?_, hcd⟩
      rw [hk _ (.inl rfl)]
      exact State.count_setCount ..
    · intro far own
      have hup : (s.setCount .t2 none).upPorts = [] := upPorts_eq_nil fun p => by
        cases p
        · exact h1
        · exact h2
      have hown : (s.setCount .t2 none).masterEntry .normal = own := by
        rw [State.masterEntry, State.ownEntry, hmas,
          show forwardOf .normal = .e1 from rfl, farPort_of_not_up (s := s.setCount .t2 none) h1]
        rfl
      have hs : settle (s.setCount .t2 none) = installMaster epoch .normal [own] (s.setCount .t2 none) := by
        rw [← hepoch hle, ← hown]
        exact if_pos (by rw [hup]; rfl)
      have b := installedAlone_of (epoch := epoch) (own := own) hup
      refine ⟨_, hx.trans (congrArg Host.Outcome.next hs), ?_, ?_, b.t7, b.t11, b.stopped.1, b.stopped.2, b.door, b.heat,
        ?_, ?_, ?_, ?_, ?_, ?_, b.groups.1, b.groups.2, b.queues, b.ports, b.lines⟩
      · rw [b.t2]
        exact State.count_setCount ..
      all_goals rw [b.consist]
  · obtain ⟨hcd, -⟩ := hcalled .t3 p a.epoch (a.attempt + 1) (.inr (.inl rfl)) (by rw [hst]; decide) hu hd
    exact ⟨_, (hcall hst hc).trans (congrArg Host.Outcome.next ((hretry .t3 a ha).trans (if_pos hlt))), hcd⟩
  · exact ⟨_, (hcall hst hc).trans (congrArg Host.Outcome.next ((hretry .t3 a ha).trans (if_neg (not_lt.mpr hge)))),
      hblocked .t3⟩
  · obtain ⟨hcd, hk⟩ := hcalled .t4 p a.epoch (a.attempt + 1) (.inr (.inr rfl)) (by rw [hst]; decide) hu hd
    refine ⟨_, (hconfirm hst hc).trans (congrArg Host.Outcome.next ((hretry .t4 a ha).trans (if_pos hlt))), ?_, hcd⟩
    rw [hk _ (.inr rfl)]
    exact State.count_setCount ..
  · exact ⟨_, (hconfirm hst hc).trans (congrArg Host.Outcome.next ((hretry .t4 a ha).trans (if_neg (not_lt.mpr hge)))),
      hblocked .t4⟩

end Sys2Proof.Machine
end

section
/-! SUPPORT. The role, by the cab and by the ports. -/

namespace Sys2Proof.Machine

open Sys2Proof

/-! ### Becoming MASTER and losing the role (R42, R44) -/

/-- R42: what a member that becomes MASTER is left with. -/
structure BecameMaster (s t : State) : Prop where
  consist : t.consist = { s.consist with role := .master, state := .settling, joined := none, blocked := .none }
  t2 : t.count .t2 = some (s.period .t2)
  t5 : t.count .t5 = none
  t6 : t.count .t6 = none
  t9 : t.count .t9 = none
  relay : t.relay = s.relay
  faults : t.faults = s.faults
  ports : t.ports = s.ports
  sides : t.door.sides = s.door.sides

theorem becameMaster_of (s : State) : BecameMaster s (becomeMaster s) := by
  unfold becomeMaster
  dsimp only
  generalize hv : (stopTimers [.t5, .t6, .t9] s).setConsist _ = v
  have hc : v.consist = { s.consist with joined := none, blocked := .none } := by simp [← hv]
  have hclock : s.SameClock v := by
    rw [← hv]
    exact (sameClock_stopTimers [.t5, .t6, .t9] s).trans (.of_timers rfl)
  have hstop : ∀ u ∈ [TimerId.t5, .t6, .t9], u.apart = true → u ≠ .t2 → (enterSettling v).count u = none :=
    fun u hu ha h2 => by
      rw [count_enterSettling ha h2, ← hv, State.count_setConsist]
      exact count_stopTimers_mem hu s
  refine ⟨?_, ?_, hstop .t5 (by simp) rfl (by simp), hstop .t6 (by simp) rfl (by simp), hstop .t9 (by simp) rfl (by simp),
    ?_, ?_, ?_, ?_⟩
  · rw [enterSettling_consist, hc]
  · rw [count_enterSettling_t2, hclock.period]
  · rw [enterSettling_relay, ← hv]
    exact stopTimers_relay ..
  · rw [enterSettling_faults, ← hv]
    exact stopTimers_faults ..
  · rw [enterSettling_ports, ← hv]
    exact stopTimers_ports ..
  · rw [enterSettling, startTimer_door, enterState_sides_of_open rfl, ← hv]
    exact congrArg DoorUnit.sides (stopTimers_door ..)

/-- R44: what a STABLE master that loses the role is left with. -/
structure LostStable (s t : State) : Prop where
  consist : t.consist = { s.consist with role := .member, state := .suspect, attempt := none, blocked := .none }
  t6 : t.count .t6 = some (s.period .t6)
  sides : t.door.sides = s.door.sides
  rest : AtRest t

theorem lostStable_of {s : State} (hr : s.consist.role = .master) (hs : s.consist.state = .stable) :
    LostStable s (loseRole s) := by
  unfold loseRole
  rw [if_pos hs]
  dsimp only
  generalize hv : (stopTimers [.t2, .t3, .t4] s).setConsist _ = v
  have hc : v.consist = { s.consist with attempt := none, blocked := .none } := by simp [← hv]
  have hclock : s.SameClock v := by
    rw [← hv]
    exact (sameClock_stopTimers [.t2, .t3, .t4] s).trans (.of_timers rfl)
  have hm : v.stableMaster = true := by
    rw [stableMaster_iff, hc]
    exact ⟨hr, hs⟩
  refine ⟨?_, ?_, ?_, ?_⟩
  · rw [enterSuspect_consist, hc]
  · rw [count_enterSuspect_t6, hclock.period]
  · rw [enterSuspect, startTimer_door, stopTimer_door, enterState_sides_of_open rfl, ← hv]
    exact congrArg DoorUnit.sides (stopTimers_door ..)
  · refine (madeReady_atRest (r := .member) (x := .suspect) hm (by simp)).of_same ?_ ?_ fun u hu => ?_
    · rw [enterSuspect, startTimer_door, stopTimer_door, enterState_eq]
      rfl
    · rw [enterSuspect, startTimer_heat, stopTimer_heat, enterState_eq]
      rfl
    · have hne : u ≠ .t6 ∧ u ≠ .t9 := by
        simp only [List.mem_cons, List.not_mem_nil, or_false] at hu
        rcases hu with rfl | rfl | rfl | rfl <;> simp
      rw [enterSuspect, count_startTimer_ne hne.1, count_stopTimer_ne hne.2, enterState_eq]
      rfl

theorem loseRole_of_unsettled {s : State} (hs : s.consist.state ≠ .stable) : loseRole s = enterUninaugurated s :=
  if_neg hs

/-! ### An edge of CAB_ACTIVE (R42 to R44) -/

theorem asserted_setLine_edged {n : Nat} {f : LineFunction} {s : State} (hl : s.LinesSafe) (hf : ¬f.shared)
    (hn : (s.lineAt n).entry.function = f) (hlt : n < 16) :
    (s.setLine n (s.lineAt n).edged).asserted f = !(s.lineAt n).qualified := by
  have hlen : n < s.lines.line.length := by rw [hl.1]; exact hlt
  have hsame : (s.setLine n (s.lineAt n).edged).lineAt n = (s.lineAt n).edged := lineAt_setLine_same s _ hlen
  have hother : ∀ m, m ≠ n → (s.setLine n (s.lineAt n).edged).lineAt m = s.lineAt m := fun m hm =>
    lineAt_setLine_ne s _ hm
  obtain ⟨he, hq, -, -⟩ := edged_same (s.lineAt n)
  rw [Bool.eq_iff_iff, asserted_iff]
  constructor
  · rintro ⟨m, hm, hx⟩
    by_cases h : m = n
    · subst h
      rwa [hsame, hq] at hx
    · rw [hother m h] at hm
      exact absurd (line_unique hl hf hn hm).symm h
  · intro hx
    exact ⟨n, by rw [hsame, he]; exact hn, by rw [hsame, hq]; exact hx⟩

/-! ### Port reports (R42, R44, R46, R64, R70) -/

/-- R70: the restart report flag after a port event. -/
theorem clearRestartReport_eq (e : TopoEvent) (s : State) : clearRestartReport e s
    = if e = .portUp then s.setConsist { s.consist with restartReport := false } else s := rfl

theorem upPorts_both {s : State} : s.upPorts.length = 2 ↔ s.isUp .e1 = true ∧ s.isUp .e2 = true := by
  unfold State.upPorts
  cases h1 : s.isUp .e1 <;> cases h2 : s.isUp .e2 <;> simp [h1, h2]

theorem upPorts_of_both {s : State} (h : s.isUp .e1 = true ∧ s.isUp .e2 = true) : s.upPorts = [.e1, .e2] := by
  unfold State.upPorts
  simp [h.1, h.2]

theorem mayLead_iff {s : State} : s.mayLead = true ↔ s.cab = true ∧ ¬(s.isUp .e1 = true ∧ s.isUp .e2 = true) := by
  rw [State.mayLead, Bool.and_eq_true, decide_eq_true_iff, upPorts_length]
  refine and_congr_right fun _ => ?_
  cases s.isUp .e1 <;> cases s.isUp .e2 <;> simp

end Sys2Proof.Machine
end

section
/-! SUPPORT. The cab edge and the port events. -/

namespace Sys2Proof.Machine

open Sys2Proof

/-! ### The cab edge -/

theorem cabEdge_of_member {s : State} (hr : s.consist.role = .member) (hc : s.cab = true) :
    cabEdge s = if s.upPorts.length ≤ 1 then becomeMaster s else recordFault .cabMid .node s := by
  have hm : s.isMaster = false := (isMaster_eq_false_iff s).mpr hr
  unfold cabEdge evaluateRole State.mayLead
  rw [hm, hc]
  by_cases hl : s.upPorts.length ≤ 1
  · simp [hl]
  · simp [hl]

theorem cabEdge_of_master {s : State} (hr : s.consist.role = .master) (hc : s.cab = false) : cabEdge s = loseRole s := by
  have hm : s.isMaster = true := (isMaster_iff s).mpr hr
  unfold cabEdge evaluateRole
  rw [hm, hc]
  rfl

/-! ### A port report -/

section Report

variable {e : TopoEvent} {p : Port} {s : State}

theorem portReport_of_master (hr : s.consist.role = .master) : portReport e p s
    = if e = .portUp ∧ s.isUp .e1 = true ∧ s.isUp .e2 = true then
        memberReport e p (loseRole (recordFault .cabMid .node s))
      else trigger (clearRestartReport e s) := by
  unfold portReport
  rw [if_pos ((isMaster_iff s).mpr hr)]
  simp only [upPorts_both]

theorem portReport_of_member (hr : s.consist.role = .member) : portReport e p s
    = if s.cab = true ∧ ¬(s.isUp .e1 = true ∧ s.isUp .e2 = true) then becomeMaster (clearRestartReport e s)
      else memberReport e p s := by
  unfold portReport
  rw [if_neg (by rw [(isMaster_eq_false_iff s).mpr hr]; simp)]
  simp only [← mayLead_iff]

theorem memberReport_of_unsettled (hs : s.consist.state ≠ .stable) : memberReport e p s
    = sendTopo s.upPorts (s.topoFrame (s.reportEvent e) p) (clearRestartReport e s) := by
  have hst : (clearRestartReport e s).consist.state = s.consist.state := by
    rw [clearRestartReport_eq]
    split_ifs <;> rfl
  have hup : (clearRestartReport e s).upPorts = s.upPorts := by
    rw [clearRestartReport_eq]
    split_ifs <;> rfl
  rw [memberReport]
  rw [hst, if_neg hs, hup]

theorem memberReport_of_stable (hs : s.consist.state = .stable) : memberReport e p s
    = sendFrame s.forwardPort (s.topoFrame (s.reportEvent e) p) (enterSuspect (clearRestartReport e s)) := by
  have hst : (clearRestartReport e s).consist.state = s.consist.state := by
    rw [clearRestartReport_eq]
    split_ifs <;> rfl
  have hfor : (clearRestartReport e s).forwardPort = s.forwardPort := by
    rw [clearRestartReport_eq]
    split_ifs <;> rfl
  rw [memberReport]
  rw [hst, if_pos hs, hfor]
  rfl

end Report

theorem sameClock_loseRole (s : State) : s.SameClock (loseRole s) := by
  unfold loseRole
  split_ifs
  · exact ((sameClock_stopTimers [.t2, .t3, .t4] s).trans (.of_timers rfl)).trans (sameClock_enterSuspect _)
  · exact sameClock_enterUninaugurated s

/-- R84: what two sends do to the relay unit and the faults depends on the ports, the queues and the stamp alone. -/
theorem sendBoth_of {s t : State} (hp : t.ports = s.ports) (hr : t.relay = s.relay) (hf : t.faults = s.faults)
    (ht : t.timers.timebase = s.timers.timebase) (he : t.consist.epoch = s.consist.epoch) (f : Frame) :
    (sendFrame .e2 f (sendFrame .e1 f t)).relay = (sendFrame .e2 f (sendFrame .e1 f s)).relay
      ∧ (sendFrame .e2 f (sendFrame .e1 f t)).faults = (sendFrame .e2 f (sendFrame .e1 f s)).faults := by
  have hp1 : (sendFrame .e1 f t).ports = (sendFrame .e1 f s).ports := by rw [sendFrame_ports, sendFrame_ports, hp]
  have hr1 := sendFrame_relay_of hp hr .e1 f
  have hf1 := sendFrame_faults_of hp hr hf ht he .e1 f
  refine ⟨sendFrame_relay_of hp1 hr1 .e2 f, sendFrame_faults_of hp1 hr1 hf1 ?_ ?_ .e2 f⟩
  · rw [sendFrame_timers, sendFrame_timers, ht]
  · rw [sendFrame_consist, sendFrame_consist, he]

/-- R16: the queues of a port are emptied where no drain and no restart waits. -/
theorem emptyQueues_of_rest {p : Port} {s : State} (hd : s.relay.draining = false) (hr : s.mgmt.restart = .none) :
    emptyQueues p s = s.setQueues p Queues.empty := by
  have hrest : restartAfter (s.queues p).frames s.mgmt.restart = s.mgmt.restart := if_neg (by simp [hr])
  rw [emptyQueues_eq hd, hrest]
  rfl

/-- R13, R16: a port that is faulted while it sends nothing. -/
theorem enterFaulted_of_silent {p : Port} {y : PortState} {s : State} (ht : y.tx.sending = false) :
    enterFaulted p (s.setPort p y) = portReport .portFaulted p (emptyQueues p
      ((recordFault .portFaulted (.port p) s).setPort p { y with link := .faulted })) := by
  let v : State := (recordFault .portFaulted (.port p) s).setPort p { y with link := .faulted }
  have hc : cutTransmission p v = v := cutTransmission_of_not_sending (by
    rw [show v.port p = { y with link := .faulted } from State.port_setPort ..]
    exact ht)
  have hv : cutTransmission p ((recordFault .portFaulted (.port p) (s.setPort p y)).setPort p
      { (recordFault .portFaulted (.port p) (s.setPort p y)).port p with link := .faulted }) = v := by
    rw [← hc, setPort_recordFault, State.port_setPort, setPort_setPort]
  rw [enterFaulted, hv]

/-- R13, R16: where no drain and no restart waits, the queues are emptied and no more. -/
theorem enterFaulted_of_rest {p : Port} {y : PortState} {s : State} (ht : y.tx.sending = false)
    (hd : s.relay.draining = false) (hr : s.mgmt.restart = .none) : enterFaulted p (s.setPort p y)
      = portReport .portFaulted p (((recordFault .portFaulted (.port p) s).setPort p { y with link := .faulted }).setQueues
        p Queues.empty) := by
  rw [enterFaulted_of_silent ht]
  exact congrArg (portReport .portFaulted p)
    (emptyQueues_of_rest (s := (recordFault .portFaulted (.port p) s).setPort p { y with link := .faulted }) hd hr)

/-- Settles O50: the cab edge, the port reports, and the three port events that make one. -/
theorem roleFollowsCabAndPorts : Obligations.RoleFollowsCabAndPorts := by
  refine ⟨fun n s hl hf hn hd => ?_, fun e p s => ?_, fun p s hp ht hdr hres => ?_⟩
  · intro level
    let u := s.setLine n (s.lineAt n).edged
    have hx : exec (.qualifiedEdge n) s = .next (cabEdge u) := by
      rw [exec_qualifiedEdge_of_due (operating_of_node hn) hd, hf]
      rfl
    have hcab : u.cab = level := asserted_setLine_edged hl (by simp [LineFunction.shared]) hf n.isLt
    refine ⟨fun hr hlev => ⟨fun hup => ?_, fun hup => ?_⟩, fun hr hlev => ?_⟩
    · have k := becameMaster_of u
      refine ⟨_, hx.trans (congrArg Host.Outcome.next ((cabEdge_of_member (s := u) hr (hcab.trans hlev)).trans (if_pos hup))), ?_⟩
      exact ⟨k.consist, k.t2, k.t5, k.t6, k.t9, k.faults, k.relay, k.ports, k.sides⟩
    · refine ⟨_, hx.trans (congrArg Host.Outcome.next
        ((cabEdge_of_member (s := u) hr (hcab.trans hlev)).trans (if_neg (not_le.mpr hup)))), ?_⟩
      exact ⟨rfl, rfl, rfl, rfl, rfl, rfl, rfl⟩
    · refine ⟨_, hx.trans (congrArg Host.Outcome.next (cabEdge_of_master (s := u) hr (hcab.trans hlev))), loseRole_role u,
        loseRole_faults u, loseRole_relay u, loseRole_ports u, fun hs => ?_, fun hs => ?_⟩
      · have k := lostStable_of (s := u) hr hs
        obtain ⟨h7, h8, h11, h12⟩ := k.rest.counts
        exact ⟨k.consist, k.t6, k.sides, k.rest.closed, h7, h8, h11, h12⟩
      · rw [loseRole_of_unsettled (s := u) hs]
        refine ⟨enterUninaugurated_consist u, fun k hk => count_enterUninaugurated_none hk u, fun d => ?_⟩
        rw [enterUninaugurated_side, locallyClosed_state]
        split_ifs <;> simp_all
  · intro s1 told f both t
    have hs1 : clearRestartReport e s = s1 := rfl
    have hs1c : e = .portUp → s1.consist = { s.consist with restartReport := false } := fun he => by
      simp only [s1, if_pos he]
      rfl
    have hs1same : s1.relay = s.relay ∧ s1.faults = s.faults ∧ s1.ports = s.ports ∧ s1.door = s.door
        ∧ s1.timers = s.timers := by
      simp only [s1]
      split_ifs <;> exact ⟨rfl, rfl, rfl, rfl, rfl⟩
    obtain ⟨h1r, h1f, h1p, h1d, h1t⟩ := hs1same
    have htold : s.topoFrame (s.reportEvent e) p = f := rfl
    refine ⟨fun hr hne => ?_, fun hr he hb => ?_, fun hr hc hb => ?_, fun hr hc hs => ?_, fun hr hc hs => ?_⟩
    · exact (portReport_of_master hr).trans (if_neg hne)
    · let v : State := recordFault .cabMid .node s
      let r : State := loseRole v
      have hrs : r.consist.state ≠ .stable := by
        by_cases hs : s.consist.state = .stable
        · rw [(lostStable_of (s := v) hr hs).consist]
          simp
        · rw [show r = enterUninaugurated v from loseRole_of_unsettled hs, enterUninaugurated_consist]
          simp
      have hrp : r.ports = s.ports := loseRole_ports v
      have hrr : r.relay = s.relay := loseRole_relay v
      have hrf : r.faults = v.faults := loseRole_faults v
      have hri : r.identity = s.identity := loseRole_identity v
      have hreport : r.consist.restartReport = s.consist.restartReport := by
        by_cases hs : s.consist.state = .stable
        · rw [(lostStable_of (s := v) hr hs).consist]
          rfl
        · rw [show r = enterUninaugurated v from loseRole_of_unsettled hs, enterUninaugurated_consist]
          rfl
      have hup : r.upPorts = [.e1, .e2] := upPorts_of_both ⟨(isUp_of_ports hrp _).trans hb.1, (isUp_of_ports hrp _).trans hb.2⟩
      let a : State := r.setConsist { r.consist with restartReport := false }
      let topo : Frame := ⟨⟨false, ⟨.all, 0⟩, false, r.consist.epoch, r.consist.position, 0⟩, .topo ⟨s.identity, told, p⟩⟩
      have htopo : r.topoFrame (r.reportEvent e) p = topo := by
        rw [State.topoFrame, State.reportEvent, hreport, hri]
        rfl
      have ht : t = sendFrame .e2 topo (sendFrame .e1 topo a) := by
        have h1 : t = memberReport e p r := (portReport_of_master hr).trans (if_pos ⟨he, hb⟩)
        rw [h1, memberReport_of_unsettled hrs, htopo, hup, clearRestartReport_eq, if_pos he]
        rfl
      have htc : t.consist = a.consist := by rw [ht, sendFrame_consist, sendFrame_consist]
      have htd : t.door = r.door := by rw [ht, sendFrame_door, sendFrame_door]; rfl
      have htk : t.count .t6 = r.count .t6 := by rw [ht, count_sendFrame, count_sendFrame]; rfl
      have hclock : r.timers.timebase = s.timers.timebase := (sameClock_loseRole v).1
      have hsent := sendBoth_of (s := v.setConsist t.consist) (t := a) hrp hrr hrf hclock
        (by rw [htc]; rfl) topo
      refine ⟨?_, ?_, fun hs => ?_, fun hs => ?_⟩
      · rw [htc]
        exact loseRole_role v
      · intro topo' sent
        have hsame : topo' = topo := by
          simp only [topo', htc]
          rfl
        simp only [sent, hsame]
        rw [← hsent.1, ← hsent.2, ht]
        exact ⟨rfl, rfl⟩
      · have k := lostStable_of (s := v) hr hs
        refine ⟨?_, ?_, ?_, ?_⟩
        · rw [htc]
          show { r.consist with restartReport := false } = _
          rw [k.consist]
          rfl
        · rw [htk, k.t6]
          rfl
        · rw [htd, k.sides]
          rfl
        · rw [htd, k.rest.closed]
      · have hre : r = enterUninaugurated v := loseRole_of_unsettled hs
        refine ⟨?_, fun d => ?_⟩
        · rw [htc]
          show { r.consist with restartReport := false } = _
          rw [hre, enterUninaugurated_consist]
          rfl
        · have hside : t.side d = r.side d := by simp only [State.side, htd]
          rw [hside, hre, enterUninaugurated_side, locallyClosed_state]
          split_ifs <;> simp_all
    · have k := becameMaster_of s1
      have ht : t = becomeMaster s1 := (portReport_of_member hr).trans (if_pos ⟨hc, hb⟩)
      rw [ht]
      refine ⟨k.consist, k.t2.trans ?_, k.t5, k.t6, k.t9, k.relay.trans h1r, k.faults.trans h1f, k.ports.trans h1p,
        k.sides.trans (by rw [h1d])⟩
      rw [period_of_settings (s := s) (t := s1) (by rw [h1t]) .t2]
      rfl
    · have ht : t = memberReport e p s := (portReport_of_member hr).trans (if_neg fun h => by
        rcases hc with hc | hc
        · rw [hc] at h
          cases h.1
        · exact h.2 hc)
      have hm : s1.consist.role = .member := by
        simp only [s1]
        split_ifs <;> exact hr
      rw [ht, memberReport_of_stable hs, htold, hs1, enterSuspect_of_member hm, period_of_settings (s := s) (t := s1) (by rw [h1t]) .t6]
      rfl
    · intro u
      have ht : t = memberReport e p s := (portReport_of_member hr).trans (if_neg fun h => by
        rcases hc with hc | hc
        · rw [hc] at h
          cases h.1
        · exact h.2 hc)
      rw [ht, memberReport_of_unsettled hs, htold, hs1]
      simp only [State.upPorts, u]
      cases h1 : s.isUp .e1 <;> cases h2 : s.isUp .e2 <;> simp [h1, h2, sendTopo]
  · intro alone
    refine ⟨fun hc hl => ?_, fun hr hl hs => ?_, fun hr hl ha => ?_, fun hr hl hs => ?_⟩
    · let v : State := takeDown p (recordFault .portLost (.port p) s)
      have hv : emptyQueues p v = v.setQueues p Queues.empty := emptyQueues_of_rest hdr hres
      rw [show exec (.linkSilenceTimeout p) s = _ from execLinkSilenceTimeout_eq hp hc, hl]
      exact congrArg (fun w => Host.Outcome.next (portReport .portDown p w)) hv
    · rw [(way_between hp ht hr).2.runs, invalidItem_high (setRx_port rfl) hl hs, setRx, setPort_setPort]
      exact congrArg Host.Outcome.next (enterFaulted_of_rest (by exact ht) hdr hres)
    · rw [probe_of_link hp ht hr, keepAlive_of_not_down (by simp [hl]), validItem_fourth (State.port_setCount ..) hl ha]
      rfl
    · rw [probe_of_link hp ht hr, keepAlive_of_not_down (by simp [hl]), validItem_recovered (State.port_setCount ..) hl hs]
      rfl

end Sys2Proof.Machine
end

section
/-! SUPPORT. How a drain ends. -/

namespace Sys2Proof.Machine

open Sys2Proof

/-! ### The end of a drain (R88, R89, R191) -/

/-- R191: the response of a draining COMMIT with `n` frames discarded. -/
def State.commitAnswer (s : State) (r : CommitRef) (n : Nat) : Frame :=
  ⟨⟨false, ⟨.position, r.position⟩, false, s.consist.epoch, s.consist.position, r.request⟩,
    .mgmtRsp ⟨.ok, .commit, 0, 1, [byte n]⟩⟩

/-- R191: without an own position no response is sent. -/
def State.answerCommit (s : State) (r : CommitRef) (n : Nat) (t : State) : State :=
  if s.consist.position = 0 then t else sendFrame (forwardOf s.consist.orientation) (s.commitAnswer r n) t

theorem drainDone_answered {r : CommitRef} {s t : State} (h : s.mgmt.commit = some r) (ht : s.consist = t.consist) (n : Nat) :
    drainDone n s = t.answerCommit r n (drainClosed s) := by
  have hc : (drainClosed s).consist = s.consist := rfl
  have ha : answerTrain r.position r.request (commitResponse n) (drainClosed s)
      = sendFrame (forwardOf s.consist.orientation) (s.commitAnswer r n) (drainClosed s) := rfl
  have hd : drainDone n s = if (drainClosed s).consist.position = 0 then drainClosed s
      else answerTrain r.position r.request (commitResponse n) (drainClosed s) := by
    rw [drainDone, h]
    rfl
  rw [hd, hc, ha, State.answerCommit, State.commitAnswer, State.commitAnswer, ht]

section Draining

variable {r : CommitRef} {s t : State} (hd : t.relay.draining = true) (hc : t.mgmt.commit = some r)
  (hr : t.mgmt.restart = .none) (ht : t.consist = s.consist)

include hd hc hr ht

/-- R88: a removal that leaves no older frame ends the drain. -/
theorem afterRemoval_of_draining (left : List Queued) :
    afterRemoval left t = if t.olderCount = 0 then s.answerCommit r 0 (drainClosed t) else t := by
  have hrest : restartCheck left t = t := by
    rw [restartCheck_eq, show restartAfter left t.mgmt.restart = t.mgmt.restart from if_neg (by simp [hr])]
    rfl
  rw [afterRemoval, hrest, drainCheck]
  by_cases ho : t.olderCount = 0
  · rw [if_pos ⟨hd, ho⟩, if_pos ho, drainDone_answered hc ht]
  · rw [if_neg fun h => ho h.2, if_neg ho]

end Draining

/-- R88: no older frame is queued. -/
theorem olderCount_zero_iff (s : State) : s.olderCount = 0 ↔ ∀ y ∈ (s.queues .e1).frames ++ (s.queues .e2).frames,
    ∀ k, y.gen = some k → k = s.relay.generation := by
  rw [olderCount_eq_zero]
  constructor
  · intro h y hy k hk
    by_contra hne
    exact h ⟨y, hy, k, hk, hne⟩
  · rintro h ⟨y, hy, k, hk, hne⟩
    exact hne (h y hy k hk)

/-- R16, R85, R88: the queues of a port are emptied while a drain is pending. -/
theorem emptyQueues_of_draining {p : Port} {r : CommitRef} {s t : State} (hd : t.relay.draining = true)
    (hc : t.mgmt.commit = some r) (hr : t.mgmt.restart = .none) (ht : t.consist = s.consist) :
    emptyQueues p t = if ∀ y ∈ (t.queues p.other).frames, ∀ k, y.gen = some k → k = t.relay.generation then
      s.answerCommit r 0 (drainClosed (t.setQueues p Queues.empty)) else t.setQueues p Queues.empty := by
  have hold : (t.setQueues p Queues.empty).olderCount = 0
      ↔ ∀ y ∈ (t.queues p.other).frames, ∀ k, y.gen = some k → k = t.relay.generation := by
    rw [olderCount_zero_iff]
    have hg : (t.setQueues p Queues.empty).relay.generation = t.relay.generation := rfl
    have hf : (((t.setQueues p Queues.empty).queues .e1).frames ++ ((t.setQueues p Queues.empty).queues .e2).frames)
        = (t.queues p.other).frames := by
      cases p with
      | e1 => rfl
      | e2 => exact List.append_nil _
    rw [hf, hg]
  rw [emptyQueues, afterRemoval_of_draining (s := s) (r := r) (t := t.setQueues p Queues.empty) hd hc hr ht]
  simp only [hold]

/-! ### The drain timeout (R89) -/

theorem frames_length (q : Queues) : q.frames.length = q.urgent.length + q.control.length + q.bulk.length := by
  simp [Queues.frames]
  omega

theorem drainedQueues_length (p : Port) (s : State) :
    (s.drainedQueues p).frames.length ≤ (s.queues p).frames.length := by
  have hu := keptAtDrain_length p .urgent s
  have hc := keptAtDrain_length p .control s
  have hb := keptAtDrain_length p .bulk s
  rw [frames_length, frames_length]
  exact Nat.add_le_add (Nat.add_le_add hu hc) hb

/-- Settles O48: the drain timeout, and the four removals that may end a drain. -/
theorem drainEnds : Obligations.DrainEnds := by
  refine ⟨fun r s hn hc hd hm => ?_, fun r s hd hm hr => ?_⟩
  · intro old kept after gone doomed u
    have hold : s.older = old := rfl
    have hkept : ∀ p l, s.keptAtDrain p l = kept p l := fun p l => by
      simp only [State.keptAtDrain, State.sendingOlder, hold, kept]
      cases htx : (s.port p).tx with
      | frame l' q how => cases how <;> simp
      | _ => simp
    have hafter : ∀ p, s.drainedQueues p = after p := fun p => by
      simp only [State.drainedQueues, hkept, after]
    have hdoomed : ∀ x : PortState, { x with tx := s.doomed x.tx } = doomed x := fun x => by
      simp only [State.doomed, hold, doomed]
      cases x.tx with
      | frame l' q how => cases how <;> rfl
      | _ => rfl
    let v : State := s.setCount .t15 none
    have hgone : v.discardedAt .e1 + v.discardedAt .e2 = gone := by
      have h1 := drainedQueues_length .e1 s
      have h2 := drainedQueues_length .e2 s
      show ((s.queues .e1).frames.length - (s.drainedQueues .e1).frames.length)
        + ((s.queues .e2).frames.length - (s.drainedQueues .e2).frames.length) = _
      simp only [gone, ← hafter]
      omega
    have hx : exec .drainTimeout s = .next (drainTimedOut v) :=
      congrArg Host.Outcome.next ((if_pos (ranOut_of (operating_of_node hn) hc)).trans (if_pos hd))
    have hdisc : discardOlder v = { v with
        relay := { s.relay with queues := ⟨after .e1, after .e2⟩ }, ports := ⟨doomed s.ports.e1, doomed s.ports.e2⟩ } := by
      rw [← hafter, ← hafter, ← hdoomed, ← hdoomed]
      rfl
    have hu : drainClosed (recordFault .drainDiscard .node (discardOlder v)) = u := by
      rw [hdisc]
      rfl
    have hm' : (recordFault .drainDiscard .node (discardOlder v)).mgmt.commit = some r := by
      rw [hdisc]
      exact hm
    have hcons : (recordFault .drainDiscard .node (discardOlder v)).consist = s.consist := by
      rw [hdisc]
      rfl
    rw [hx, drainTimedOut, hgone, drainDone_answered hm' hcons, hu]
    rfl
  · intro answer ended
    have hanswer : ∀ t, answer t = s.answerCommit r 0 t := fun _ => rfl
    have hended : ∀ t : State, t.mgmt = s.mgmt → ended t = drainClosed t := fun t ht => by
      simp only [ended, ← ht]
      rfl
    refine ⟨fun p l x hp hx => ?_, fun p hp hl => ?_, ?_⟩
    · intro u clean
      have hu : dropHead p l (startTimer (.t1 p) (s.setPort p { s.port p with tx := .idle })) = u := by
        simp only [dropHead, ← List.drop_one]
        rfl
      rw [show exec (.frameSent p) s = _ from execFrameSent_of_frame hp hx, if_neg (by simp), hu,
        afterRemoval_of_draining (s := s) (r := r) (t := u) hd hm hr rfl, hanswer, hended u rfl]
      simp only [olderCount_zero_iff]
      rfl
    · intro clean emptied
      have hemp : ∀ t : State, t.relay = s.relay → t.mgmt = s.mgmt → t.consist = s.consist →
          emptyQueues p t = emptied t := fun t htr htm htc => by
        have ht := emptyQueues_of_draining (p := p) (r := r) (s := s) (t := t) (by rw [htr]; exact hd)
          (by rw [htm]; exact hm) (by rw [htm]; exact hr) htc
        have hq : t.queues p.other = s.queues p.other := by simp only [State.queues, htr]
        rw [ht]
        simp only [emptied, hanswer, hq, htr]
        rw [hended (t.setQueues p ⟨[], [], []⟩) htm]
        rfl
      refine ⟨fun hc => ?_, fun ht hrx hs => ?_⟩
      · rw [show exec (.linkSilenceTimeout p) s = _ from execLinkSilenceTimeout_eq hp hc, hl]
        exact congrArg (fun w => Host.Outcome.next (portReport .portDown p w))
          (hemp (takeDown p (recordFault .portLost (.port p) s)) rfl rfl rfl)
      · rw [(way_between hp ht hrx).2.runs, invalidItem_high (setRx_port rfl) hl hs, setRx, setPort_setPort]
        let y : PortState := { s.port p with
          score := min 255 ((s.port p).score + 8), rx := .discarding, assembly := [] }
        let v : State := (recordFault .portFaulted (.port p) s).setPort p { y with link := .faulted }
        have hf : enterFaulted p (s.setPort p y) = portReport .portFaulted p (emptyQueues p v) :=
          enterFaulted_of_silent ht
        exact congrArg Host.Outcome.next (hf.trans (congrArg (portReport .portFaulted p) (hemp v rfl rfl rfl)))
    · intro still
      have hrest : restartCheck ((s.queues .e1).frames ++ (s.queues .e2).frames) (flushedPorts s) = flushedPorts s :=
        if_neg fun h => by
          rw [show (flushedPorts s).mgmt.restart = .none from hr] at h
          cases h.1
      have hstill : ∀ x : PortState, { x with tx := x.tx.flushed } = still x := fun x => by
        simp only [still]
        cases x.tx <;> rfl
      have hflushed : flushedPorts s = { s with
          relay := { s.relay with queues := ⟨⟨[], [], []⟩, ⟨[], [], []⟩⟩ }
          ports := ⟨still s.ports.e1, still s.ports.e2⟩ } := by
        rw [← hstill, ← hstill]
        rfl
      rw [flush_eq, hrest]
      refine (if_pos hd).trans ?_
      rw [drainDone_answered (s := flushedPorts s) (t := s) hm rfl, hanswer, hflushed]
      rfl

end Sys2Proof.Machine
end

section
/-! SUPPORT. Exchanges of the tap without a frame. -/

namespace Sys2Proof.Machine

open Sys2Proof

/-! ### The node's part (R94) -/

theorem tapReport_eq (s : State) : s.tapReport
    = { result := s.relay.intake, occupancy := s.relay.tapQueue.length
        causeQueue := decide (s.relay.tapQueue ≠ []), causeReport := s.reportPending
        causeFaults := s.faults.news, head := s.relay.tapQueue.head? } := by
  unfold State.tapReport
  cases s.relay.tapQueue <;> rfl

theorem isEmpty_not_eq (l : List Frame) : (!l.isEmpty) = decide (l ≠ []) := by
  cases l <;> rfl

theorem nodePart_of_idle {s : State} (hn : s.bypass.node ≠ .starting) (hs : s.relay.select = .idle) (done : Bool) :
    nodePart done s = s.setRelay { s.relay with
      report := some s.tapReport, select := .idle
      tapQueue := if done = true then s.relay.tapQueue.drop 1 else s.relay.tapQueue } := by
  have hq : (if (done && (!s.relay.tapQueue.isEmpty)) = true then s.relay.tapQueue.tail else s.relay.tapQueue)
      = if done = true then s.relay.tapQueue.drop 1 else s.relay.tapQueue := by
    cases s.relay.tapQueue with
    | nil => simp
    | cons f l => simp
  rw [← hq, nodePart, beginExchange, hs]
  dsimp only
  rw [if_neg hn]
  rfl

theorem nodePart_of_serving {head : Bool} {s : State} (hs : s.relay.select = .serving head) (done : Bool) :
    nodePart done s = s.setRelay { s.relay with
      select := .idle
      tapQueue := if done = true ∧ head = true then s.relay.tapQueue.drop 1 else s.relay.tapQueue } := by
  have hq : (if (done && head) = true then s.relay.tapQueue.tail else s.relay.tapQueue)
      = if done = true ∧ head = true then s.relay.tapQueue.drop 1 else s.relay.tapQueue := by
    simp
  rw [← hq, nodePart, beginExchange, hs]
  dsimp only
  rw [endExchange, hs]
  rfl

/-- Settles O16: the beginning, and the release of an exchange that brings no frame. -/
theorem tapExchangeWithoutFrame : Obligations.TapExchangeWithoutFrame := by
  intro done part s now outcome left answers
  refine ⟨fun hp => ⟨fun hs hn => ?_, fun hs hn => ?_, fun hs => ?_⟩, fun hp => ?_⟩
  · subst hp
    refine congrArg Host.Outcome.next ?_
    show beginExchange s = _
    rw [beginExchange, hs]
    exact if_pos hn
  · subst hp
    refine congrArg Host.Outcome.next ?_
    show beginExchange s = _
    rw [beginExchange, hs, tapReport_eq, isEmpty_not_eq]
    exact if_neg hn
  · subst hp
    refine congrArg Host.Outcome.next ?_
    rcases beginExchange_cases s with ⟨h, -⟩ | ⟨h, -⟩ | ⟨-, h⟩
    · exact absurd h hs
    · exact absurd h hs
    · exact h
  · have hx : ∃ p : State → IntakeResult × (State → State), exec (.tapExchange done part) s = .next (exchange done p s)
        ∧ p s = (outcome, id) := by
      cases part with
      | begins => exact absurd rfl hp
      | nothing => exact ⟨_, rfl, rfl⟩
      | refusedRecord why =>
        refine ⟨_, rfl, ?_⟩
        cases why with
        | notOriginable => by_cases hn : s.bypass.node = .operating <;> simp [refusedPart, State.refusal, outcome, hn]
        | _ => rfl
    obtain ⟨p, hx, hps⟩ := hx
    have hserved : s.tapServes → exec (.tapExchange done part) s = .next (setIntake outcome (nodePart done s)) :=
      fun h => by rw [hx, exchange_eq _ _ _ h, hps]; rfl
    refine ⟨fun h => ?_, fun hn hs => ?_, fun head hn hs => ?_⟩
    · refine hx.trans (congrArg Host.Outcome.next (exchange_unserved _ _ _ fun ht => ?_))
      rcases h with h | h
      · exact ht.1 h
      · exact ht.2 h
    · refine (hserved ⟨hn, by rw [hs]; simp⟩).trans ?_
      rw [nodePart_of_idle hn hs, tapReport_eq, show TapSelect.idle = s.relay.select from hs.symm]
      simp only [left, and_true]
      rfl
    · refine (hserved ⟨hn, by rw [hs]; simp⟩).trans ?_
      rw [nodePart_of_serving hs]
      rfl

end Sys2Proof.Machine
end

section
/-! SUPPORT. Frames the coach controller originates. -/

namespace Sys2Proof.Machine

open Sys2Proof

/-! ### The state in which a record from the tap takes effect (R94) -/

/-- R94: from the one state to the other the tap's own part of the relay unit alone may change. -/
def State.TapServed (s u : State) : Prop := ∃ r q, u = s.setRelay { s.relay with report := r, select := .idle, tapQueue := q }

theorem tapServed_nodePart (done : Bool) (s : State) : s.TapServed (nodePart done s) := by
  obtain ⟨r, head, he⟩ := nodePart_cases done s
  exact ⟨r, _, he⟩

/-! ### Addressees (R97) -/

theorem addressesSelf_iff (s : State) (sel : Selector) :
    s.addressesSelf sel = true ↔ sel.type = .self ∨ sel.type = .position ∧ sel.value = s.consist.position := by
  simp [State.addressesSelf]

theorem beyondConsist_iff (s : State) (sel : Selector) :
    s.beyondConsist sel = true ↔ sel.type = .position ∧ s.consist.table.length < sel.value := by
  simp [State.beyondConsist]

theorem copiesFit_iff {s : State} {sel : Selector} (h : sel.type ≠ .self) (l : Level) :
    s.copiesFit (s.copyPorts sel) l = true ↔ if sel.type = .position then s.hasRoom (s.portToward sel.value) l = true
      else s.roomy l := by
  have hall : s.copiesFit s.upPorts l = true ↔ s.roomy l := by
    unfold State.copiesFit State.upPorts
    cases h1 : s.isUp .e1 <;> cases h2 : s.isUp .e2 <;> simp [State.roomy, h1, h2]
  unfold State.copyPorts
  cases ht : sel.type with
  | self => exact absurd ht h
  | position => simp [State.copiesFit]
  | group => simpa using hall
  | all => simpa using hall

/-- R98: the copies are queued, on the one port or on each UP port. -/
theorem sendCopies_of_fit {s u : State} {sel : Selector} {l : Level} (hu : s.TapServed u) (h : sel.type ≠ .self)
    (hfit : s.copiesFit (s.copyPorts sel) l = true) (q : Queued) : sendCopies (u.copyPorts sel) l q u
      = if sel.type = .position then u.queued (s.portToward sel.value) l q else (u.queued .e1 l q).queued .e2 l q := by
  obtain ⟨r, tq, rfl⟩ := hu
  rw [copiesFit_iff h] at hfit
  generalize hv : s.setRelay _ = u
  have hport : u.portToward sel.value = s.portToward sel.value := by rw [← hv]; rfl
  have hroom : ∀ p, u.hasRoom p l = s.hasRoom p l := fun p => by rw [← hv]; rfl
  have hup : ∀ p, u.isUp p = s.isUp p := fun p => by rw [← hv]; rfl
  by_cases hp : sel.type = .position
  · rw [if_pos hp] at hfit ⊢
    have hc : u.copyPorts sel = [s.portToward sel.value] := by
      rw [State.copyPorts, hp, ← hport]
    rw [hc]
    exact enqueue_queued _ _ _ _ fun _ => (hroom _).trans hfit
  · rw [if_neg hp] at hfit ⊢
    have hc : u.copyPorts sel = u.upPorts := by
      unfold State.copyPorts
      cases ht : sel.type with
      | self => exact absurd ht h
      | position => exact absurd ht hp
      | _ => rfl
    rw [hc]
    refine copies_all u l q ⟨fun hx => ?_, fun hx => ?_⟩
    · exact (hroom _).trans (hfit.1 ((hup _).symm.trans hx))
    · exact (hroom _).trans (hfit.2 ((hup _).symm.trans hx))

/-! ### The checks (R96 to R99) -/

theorem intakeGate_of_form {f : Frame} (h : f.tapFormOk = true) (s : State) :
    s.intakeGate f = if s.bypass.node = .operating then none else some .denied := by
  rw [State.intakeGate, h]
  rfl

theorem tapServed_data {s u : State} (hu : s.TapServed u) (sel : Selector) (tag : Nat) (l : List Byte) :
    originateData sel tag l u = sendCopies (u.copyPorts sel) (s.service tag).level
      ⟨⟨⟨false, sel, false, s.consist.epoch, s.consist.position, tag⟩, .data l⟩, some s.relay.generation, false⟩ u := by
  obtain ⟨r, q, rfl⟩ := hu
  rfl

theorem tapServed_request {s u : State} (hu : s.TapServed u) (sel : Selector) (tag : Nat) (b : Body) :
    originateRequest sel tag b u = sendCopies (u.copyPorts sel) .control
      ⟨⟨⟨false, sel, false, s.consist.epoch, 1, tag⟩, b⟩, none, false⟩ u := by
  obtain ⟨r, q, rfl⟩ := hu
  rfl

/-- R94, R96: a record refused by its first failing check, or taken with its effect. -/
def intakeTaken (effect : State → State) (u : State) : Option RefuseReason → State
  | some x => setIntake (.refused x) u
  | none => setIntake .accepted (effect u)

theorem exchange_intake {done : Bool} {s : State} (hs : s.tapServes) {part : State → IntakeResult × (State → State)}
    {effect : State → State} {why : Option RefuseReason} (hp : part s = intakePart why effect) :
    exchange done part s = intakeTaken effect (nodePart done s) why := by
  rw [exchange_eq _ _ _ hs, hp]
  cases why <;> rfl

/-- R96: the check of the node state goes before the others. -/
theorem intakeTaken_gate {f : Frame} (hf : f.tapFormOk = true) (s u : State) (effect : State → State)
    (why : Option RefuseReason) : intakeTaken effect u ((s.intakeGate f).or why)
      = if s.bypass.node ≠ .operating then setIntake (.refused .denied) u else intakeTaken effect u why := by
  rw [intakeGate_of_form hf]
  by_cases hn : s.bypass.node = .operating <;> simp [hn, intakeTaken]

/-- A chain of checks: what the first one that fails answers, and what stands where each holds. -/
theorem chain_ite {β : Type} {f : State → β} {y : β} {c : Prop} [Decidable c] {a b : State} {P : Prop}
    (h : ¬c → y = f b → P) (hy : y = f (if c then a else b)) : if c then y = f a else P := by
  by_cases hc : c
  · rw [if_pos hc] at hy ⊢
    exact hy
  · rw [if_neg hc] at hy ⊢
    exact h hc hy

theorem intakeTaken_ite {c : Prop} [Decidable c] (x : RefuseReason) (w : Option RefuseReason) (effect : State → State)
    (u : State) : intakeTaken effect u (if c then some x else w)
      = if c then setIntake (.refused x) u else intakeTaken effect u w :=
  apply_ite (intakeTaken effect u) c (some x) w

theorem dataRefused_eq (s : State) (sel : Selector) (tag size : Nat) : s.dataRefused sel tag size
    = if ¬(s.consist.state = .stable ∨ s.consist.state = .suspect) then some .notInaugurated
      else if (s.service tag).originate = false then some .denied
      else if sel.type = .self ∨ sel.type = .position ∧ sel.value = s.consist.position then some .self
      else if (s.service tag).maxPayload < size then some .invalid
      else if sel.type = .position ∧ s.consist.table.length < sel.value then some .invalid
      else if sel.type = .position ∧ s.isUp (s.portToward sel.value) = false then some .denied
      else if s.copiesFit (s.copyPorts sel) (s.service tag).level = true then none else some .queueFull := by
  have hsettled : (!s.settled) = true ↔ ¬(s.consist.state = .stable ∨ s.consist.state = .suspect) := by
    rw [← settled_iff, Bool.not_eq_true', Bool.not_eq_true]
  unfold State.dataRefused
  simp only [hsettled, addressesSelf_iff, beyondConsist_iff, Bool.not_eq_true']

theorem requestRefused_eq (s : State) {sel : Selector} (h : sel.type ≠ .self) : s.requestRefused sel
    = if ¬(s.consist.role = .master ∧ s.consist.state = .stable) then some .denied
      else if sel.type = .position ∧ sel.value = s.consist.position then some .self
      else if sel.type = .position ∧ s.consist.table.length < sel.value then some .invalid
      else if s.copiesFit (s.copyPorts sel) .control = true then none else some .queueFull := by
  have hlead : (!s.stableMaster) = true ↔ ¬(s.consist.role = .master ∧ s.consist.state = .stable) := by
    rw [← stableMaster_iff, Bool.not_eq_true', Bool.not_eq_true]
  have hself : s.addressesSelf sel = true ↔ sel.type = .position ∧ sel.value = s.consist.position := by
    simp [addressesSelf_iff, h]
  unfold State.requestRefused
  simp only [hlead, hself, beyondConsist_iff]

theorem selectorOf_type_ne (dest : Dest) : (selectorOf dest).type ≠ .self := by
  cases dest <;> simp [selectorOf]

/-- R98, R99: where the copies fit they are queued; where one does not the record is refused. -/
theorem intakeTaken_copies {s u : State} {sel : Selector} {l : Level} (hu : s.TapServed u) (h : sel.type ≠ .self)
    {effect : State → State} {q : Queued} (he : effect u = sendCopies (u.copyPorts sel) l q u) :
    intakeTaken effect u (if s.copiesFit (s.copyPorts sel) l = true then none else some .queueFull)
      = if ¬(if sel.type = .position then s.hasRoom (s.portToward sel.value) l = true else s.roomy l) then
          setIntake (.refused .queueFull) u
        else setIntake .accepted
          (if sel.type = .position then u.queued (s.portToward sel.value) l q
          else (u.queued .e1 l q).queued .e2 l q) := by
  by_cases hf : s.copiesFit (s.copyPorts sel) l = true
  · rw [if_pos hf, if_neg (not_not.mpr ((copiesFit_iff h l).mp hf)), ← sendCopies_of_fit hu h hf, ← he]
    rfl
  · rw [if_neg hf, if_pos fun hx => hf ((copiesFit_iff h l).mpr hx)]
    rfl

/-- Settles O17: the checks in order, then the copies. -/
theorem tapFramesQueued : Obligations.TapFramesQueued := by
  refine ⟨fun done sel m l s hf hs => ?_, fun done dest m c r s hf hs => ?_⟩
  · have hpart : dataPart sel m l s = intakePart ((s.intakeGate (tapRecord sel m (.data l))).or
        (s.dataRefused sel m.tag l.length)) (originateData sel m.tag l) := by
      unfold dataPart
      cases s.intakeGate (tapRecord sel m (.data l)) <;> rfl
    have hexec : exec (.tapData done sel m l) s = .next _ := congrArg Host.Outcome.next (exchange_intake hs hpart)
    have hu : s.TapServed (nodePart done s) := tapServed_nodePart done s
    have hcopies := fun h => intakeTaken_copies (l := (s.service m.tag).level) hu h (tapServed_data hu sel m.tag l)
    rw [intakeTaken_gate hf, dataRefused_eq] at hexec
    simp only [intakeTaken_ite] at hexec
    refine chain_ite (fun _ => chain_ite fun _ => chain_ite fun _ => chain_ite fun hself => chain_ite fun _ =>
      chain_ite fun _ => chain_ite fun _ hx => ?_) hexec
    rw [hcopies fun h => hself (.inl h)] at hx
    exact chain_ite (fun _ h => h) hx
  · have hexec : exec (.tapMgmtReqToTrain done dest m c r) s = .next _ :=
      congrArg Host.Outcome.next (exchange_intake hs (part := requestPart (selectorOf dest) m (.mgmtReq c r)) rfl)
    have hu : s.TapServed (nodePart done s) := tapServed_nodePart done s
    have hcopies := intakeTaken_copies (l := .control) hu (selectorOf_type_ne dest)
      (tapServed_request hu (selectorOf dest) m.tag (.mgmtReq c r))
    rw [intakeTaken_gate hf, requestRefused_eq s (selectorOf_type_ne dest)] at hexec
    simp only [intakeTaken_ite] at hexec
    rw [← ite_or, hcopies] at hexec
    exact chain_ite (fun _ => chain_ite fun _ => chain_ite fun _ => chain_ite fun _ h => h) hexec

end Sys2Proof.Machine
end

section
/-! SUPPORT. Door commands the coach controller originates. -/

namespace Sys2Proof.Machine

open Sys2Proof

/-! ### The checks (R100, R133) -/

theorem ite_some_or {c : Prop} [Decidable c] (x : RefuseReason) (w v : Option RefuseReason) :
    (if c then some x else w).or v = if c then some x else w.or v := by
  by_cases hc : c <;> simp [hc]

theorem doorGate_eq (s : State) (sel : Selector) : s.doorGate sel
    = if ¬(s.consist.role = .master ∧ s.consist.state = .stable) then some .denied
      else if sel.type = .self then some .self
      else if sel.type = .position ∧ s.consist.table.length < sel.value then some .invalid
      else none := by
  have hlead : (!s.stableMaster) = true ↔ ¬(s.consist.role = .master ∧ s.consist.state = .stable) := by
    rw [← stableMaster_iff, Bool.not_eq_true', Bool.not_eq_true]
  unfold State.doorGate
  simp only [hlead, beyondConsist_iff]

/-- R133: the door unit's own check: a CLOSE has none. -/
def State.ownRefused (s : State) (c : DoorCommand) (side : TrainSide) : Option RefuseReason :=
  match c with
  | .release => s.releaseRefused side
  | .close => none

theorem ownRefused_eq (s : State) (c : DoorCommand) (side : TrainSide) : s.ownRefused c side
    = if c = .release ∧ side = .both then some .invalid
      else if c = .release ∧ s.present .zeroSpeed = false then some .invalid
      else if c = .release ∧ s.asserted .zeroSpeed = false then some .denied
      else none := by
  cases c <;> simp [State.ownRefused, State.releaseRefused]

theorem doorFull_eq (s : State) (sel : Selector) : s.doorFull sel
    = if ¬(sel.type = .position ∧ sel.value = 1) ∧ s.isUp s.rearwardPort = true
        ∧ s.hasRoom s.rearwardPort .urgent = false then some .queueFull else none := by
  unfold State.doorFull State.doorCopy State.copiesFit
  by_cases hown : sel.type = .position ∧ sel.value = 1
  · simp [hown]
  · cases hu : s.isUp s.rearwardPort <;> cases hr : s.hasRoom s.rearwardPort .urgent <;> simp [hown, hu, hr]

/-! ### The effect (R134) -/

theorem applyReleases_ports (l : List Side) (s : State) : (applyReleases l s).ports = s.ports := by
  unfold applyReleases
  induction l generalizing s with
  | nil => rfl
  | cons x l ih => simp [ih]

theorem applyReleases_relay (l : List Side) (s : State) : (applyReleases l s).relay = s.relay := by
  unfold applyReleases
  induction l generalizing s with
  | nil => rfl
  | cons x l ih => simp [ih]

theorem actOwnCoach_eq (c : DoorCommand) {sel : Selector} (hs : sel.type ≠ .self) (side : TrainSide) (u : State) :
    actOwnCoach c sel side u = (let dropped := if c = .release then dropInterlock u else u
      if (sel.type = .position ∧ sel.value = 1) ∨ sel.type = .all
          ∨ sel.type = .group ∧ u.relay.groupsActive.getLsbD sel.value = true then
        (match c with
        | .release => applyReleases (coachSides u.consist.orientation side) dropped
        | .close => applyCloses (coachSides u.consist.orientation side) dropped)
      else dropped) := by
  cases c
  · unfold actOwnCoach
    simp [inScope_iff _ hs]
  · unfold actOwnCoach
    simp [inScope_iff _ hs]

/-- R134: the master's own coach changes neither the ports nor the relay unit. -/
theorem actOwnCoach_ports (c : DoorCommand) (sel : Selector) (side : TrainSide) (u : State) :
    (actOwnCoach c sel side u).ports = u.ports := by
  unfold actOwnCoach
  cases c with
  | release =>
    rw [if_pos rfl]
    dsimp only
    split <;> simp [applyReleases_ports]
  | close =>
    rw [if_neg (show DoorCommand.close ≠ .release by decide)]
    dsimp only
    split <;> simp

theorem actOwnCoach_relay (c : DoorCommand) (sel : Selector) (side : TrainSide) (u : State) :
    (actOwnCoach c sel side u).relay = u.relay := by
  unfold actOwnCoach
  cases c with
  | release =>
    rw [if_pos rfl]
    dsimp only
    split <;> simp [applyReleases_relay]
  | close =>
    rw [if_neg (show DoorCommand.close ≠ .release by decide)]
    dsimp only
    split <;> simp

/-- R100: the one copy, on the rearward port, where the command is not for position 1 alone. -/
theorem sendCopies_door {u a : State} {sel : Selector} {q : Queued} (hp : a.ports = u.ports) (hr : a.relay = u.relay)
    (hfit : ¬(¬(sel.type = .position ∧ sel.value = 1) ∧ u.isUp u.rearwardPort = true
      ∧ u.hasRoom u.rearwardPort .urgent = false)) :
    sendCopies (u.doorCopy sel) .urgent q a
      = if sel.type = .position ∧ sel.value = 1 then a else a.queued u.rearwardPort .urgent q := by
  have hup : a.isUp u.rearwardPort = u.isUp u.rearwardPort := by simp only [State.isUp, State.port, hp]
  have hroom : a.hasRoom u.rearwardPort .urgent = u.hasRoom u.rearwardPort .urgent := by
    rw [State.hasRoom, State.hasRoom, State.queues, State.queues, hr]
  unfold State.doorCopy
  by_cases hown : sel.type = .position ∧ sel.value = 1
  · rw [if_pos hown, if_pos hown]
    rfl
  · rw [if_neg hown, if_neg hown]
    have hfits : a.isUp u.rearwardPort = true → a.hasRoom u.rearwardPort .urgent = true := fun h => by
      rw [hroom, ← Bool.not_eq_false]
      exact fun hf => hfit ⟨hown, hup ▸ h, hf⟩
    rw [← enqueue_queued _ _ _ _ hfits]
    cases hu : u.isUp u.rearwardPort
    · rw [enqueue_of_not_up (hup.trans hu)]
      simp [hu, sendCopies]
    · simp [hu, sendCopies]

/-- R134: what the node's own part of the exchange leaves, for the door command that follows. -/
theorem originateDoor_eq {s u : State} (hu : s.TapServed u) (c : DoorCommand) {sel : Selector}
    (side : TrainSide) (hfit : ¬(¬(sel.type = .position ∧ sel.value = 1) ∧ s.isUp s.rearwardPort = true
      ∧ s.hasRoom s.rearwardPort .urgent = false)) :
    originateDoor c sel side u = (
      let numbered := u.setDoor { u.door with commandCounter := (u.door.commandCounter + 1) % 256 }
      let a := actOwnCoach c sel side numbered
      if sel.type = .position ∧ sel.value = 1 then a else a.queued s.rearwardPort .urgent
        ⟨⟨⟨false, sel, false, s.consist.epoch, 1, s.door.commandCounter⟩, .doorCmd c side (s.asserted .zeroSpeed)⟩,
          none, false⟩) := by
  obtain ⟨r, q, rfl⟩ := hu
  exact sendCopies_door (u := s.setRelay _) (actOwnCoach_ports _ _ _ _) (actOwnCoach_relay _ _ _ _) hfit

/-- Settles O18: the checks in order, then the number, the own coach and the one copy. -/
theorem tapDoorCommandOriginated : Obligations.TapDoorCommandOriginated := by
  intro c done sel m side atRest s
  have hexec : exec (match c with
      | .release => .tapDoorCmdRelease done sel m side atRest
      | .close => .tapDoorCmdClose done sel m side atRest) s
      = .next (exchange done (fun s => doorPart c (s.ownRefused c side) sel m side atRest s) s) := by
    cases c <;> rfl
  intro hf hs
  rw [exchange_intake hs rfl, intakeTaken_gate hf, doorGate_eq, ownRefused_eq, doorFull_eq] at hexec
  simp only [ite_some_or, Option.none_or, intakeTaken_ite] at hexec
  rw [← ite_or] at hexec
  intro u cmd answers lead own f numbered dropped inScope acted
  refine chain_ite (fun _ => chain_ite fun hself => chain_ite fun _ => chain_ite fun _ => chain_ite fun _ =>
    chain_ite fun _ => chain_ite fun hfit hx => ?_) hexec
  have hown : actOwnCoach c sel side numbered = acted := by
    rw [actOwnCoach_eq c hself]
    have hcons : numbered.consist = s.consist := by simp [numbered, u]
    have hgroups : numbered.relay.groupsActive = s.relay.groupsActive := by
      obtain ⟨r, q, he⟩ := tapServed_nodePart done s
      show (nodePart done s).relay.groupsActive = _
      rw [he]
      rfl
    rw [hcons, hgroups]
    cases c <;> rfl
  refine hx.trans (congrArg (fun t => Host.Outcome.next (setIntake .accepted t)) ?_)
  rw [originateDoor_eq (tapServed_nodePart done s) c side hfit]
  show (if own then actOwnCoach c sel side numbered else (actOwnCoach c sel side numbered).queued _ _ _) = _
  rw [hown]

end Sys2Proof.Machine
end

section
/-! SUPPORT. Bytes, words and bits: what is spelled is read back, and what is read is spelled the same. -/

namespace Sys2Proof.Machine

open Sys2Proof

/-! ### Bytes (R24) -/

theorem byte_toNat (b : Byte) : byte b.toNat = b := by
  simp [byte]

theorem toNat_byte {n : Nat} (h : n < 256) : (byte n).toNat = n := by
  simp [byte, Nat.mod_eq_of_lt h]

theorem flag_getLsbD (b : Byte) (i : Nat) : flag (b.getLsbD i) = b.toNat / 2 ^ i % 2 := by
  rw [← BitVec.testBit_toNat, Nat.testBit_eq_decide_div_mod_eq]
  rcases Nat.mod_two_eq_zero_or_one (b.toNat / 2 ^ i) with h | h <;> simp [h, flag]

theorem flag_lt (b : Bool) : flag b < 2 := by
  cases b <;> decide

theorem flag_inj {a b : Bool} (h : flag a = flag b) : a = b := by
  cases a <;> cases b <;> simp_all [flag]

/-- A bit of a byte spelled by a number. -/
theorem getLsbD_byte {n i : Nat} {b : Bool} (h : n < 256) (hb : n / 2 ^ i % 2 = flag b) : (byte n).getLsbD i = b := by
  apply flag_inj
  rw [flag_getLsbD, toNat_byte h, hb]

/-- The lowest bits of a byte spelled by a number. -/
theorem extract_byte {n w : Nat} {x : BitVec w} (h : n < 256) (hx : n % 2 ^ w = x.toNat) :
    (byte n).extractLsb' 0 w = x := by
  apply BitVec.eq_of_toNat_eq
  rw [BitVec.extractLsb'_toNat, toNat_byte h, Nat.shiftRight_zero, hx]

theorem toNat_extract (b : Byte) (w : Nat) : (b.extractLsb' 0 w).toNat = b.toNat % 2 ^ w := by
  rw [BitVec.extractLsb'_toNat, Nat.shiftRight_zero]

theorem word16_be16 {n : Nat} (h : n < 65536) : word16 (byte (n / 256)) (byte (n % 256)) = n := by
  rw [word16, toNat_byte (by omega), toNat_byte (by omega)]
  omega

theorem be16_word16 (a b : Byte) : be16 (word16 a b) = [a, b] := by
  have ha := a.isLt
  have hb := b.isLt
  have h1 : (a.toNat * 256 + b.toNat) / 256 = a.toNat := by omega
  have h2 : (a.toNat * 256 + b.toNat) % 256 = b.toNat := by omega
  rw [be16, word16, h1, h2, byte_toNat, byte_toNat]

theorem word32_be32 (w : BitVec 32) :
    word32 (w.extractLsb' 24 8) (w.extractLsb' 16 8) (w.extractLsb' 8 8) (w.extractLsb' 0 8) = w := by
  unfold word32
  ext i hi
  simp
  grind

theorem be32_word32 (a b c d : Byte) : be32 (word32 a b c d) = [a, b, c, d] := by
  unfold be32 word32
  simp only [List.cons.injEq, and_true]
  refine ⟨?_, ?_, ?_, ?_⟩ <;> ext i hi <;> simp <;> grind

/-! ### Bits (R1, R5) -/

theorem bytesOfBits_append_bits (b : Byte) (l : List Bool) :
    bytesOfBits (b.bits ++ l) = (bytesOfBits l).map (b :: ·) := by
  have hbits : b.bits ++ l = b.getLsbD 7 :: b.getLsbD 6 :: b.getLsbD 5 :: b.getLsbD 4 :: b.getLsbD 3 :: b.getLsbD 2
    :: b.getLsbD 1 :: b.getLsbD 0 :: l := rfl
  have hb := b.isLt
  have hsum : flag (b.getLsbD 7) * 128 + flag (b.getLsbD 6) * 64 + flag (b.getLsbD 5) * 32 + flag (b.getLsbD 4) * 16
      + flag (b.getLsbD 3) * 8 + flag (b.getLsbD 2) * 4 + flag (b.getLsbD 1) * 2 + flag (b.getLsbD 0) = b.toNat := by
    simp only [flag_getLsbD]
    omega
  rw [hbits, bytesOfBits, hsum, byte_toNat]

theorem bytesOfBits_bitsOf (l : List Byte) : bytesOfBits (bitsOf l) = some l := by
  induction l with
  | nil => rfl
  | cons b l ih =>
    have hcons : bitsOf (b :: l) = b.bits ++ bitsOf l := rfl
    rw [hcons, bytesOfBits_append_bits, ih]
    rfl

end Sys2Proof.Machine
end

section
/-! SUPPORT. Payloads: what the layouts of R36 to R39 spell is read back, and what is read is spelled the same. -/

namespace Sys2Proof.Machine

open Sys2Proof

/-! ### Codes -/

/-- A value is the one at its code's place in the list of values. -/
theorem code_of_decodeCode {α : Type} {code : α → Nat} {base : Nat} {values : List α}
    (hv : values.map code = List.range' base values.length) {n : Nat} {x : α} (h : decodeCode base values n = some x) :
    code x = n := by
  unfold decodeCode at h
  by_cases hn : n < base
  · rw [if_pos hn] at h
    cases h
  · rw [if_neg hn] at h
    have hm : (values.map code)[n - base]? = some (code x) := by rw [List.getElem?_map, h]; rfl
    rw [hv, List.getElem?_eq_some_iff] at hm
    obtain ⟨hlt, hget⟩ := hm
    rw [List.getElem_range'] at hget
    omega

theorem portOf_code (p : Port) : portOf p.code = some p := by cases p <;> rfl
theorem sideOf_code (d : Side) : sideOf d.code = some d := by cases d <;> rfl
theorem trainSideOf_code (d : TrainSide) : trainSideOf d.code = some d := by cases d <;> rfl
theorem doorCommandOf_code (c : DoorCommand) : doorCommandOf c.code = some c := by cases c <;> rfl
theorem topoEventOf_code (e : TopoEvent) : topoEventOf e.code = some e := by cases e <;> rfl
theorem farPortOf_code (x : FarPort) : farPortOf x.code = some x := by cases x <;> rfl
theorem confirmResultOf_code (x : ConfirmResult) : confirmResultOf x.code = some x := by cases x <;> rfl
theorem reqCodeOf_code (c : ReqCode) : reqCodeOf c.code = some c := by cases c <;> rfl
theorem statusOf_code (x : Status) : statusOf x.code = some x := by cases x <;> rfl
theorem boolOf_flag (b : Bool) : boolOf (flag b) = some b := by cases b <;> rfl
theorem selTypeOf_code (t : SelType) : selTypeOf t.code = t := by cases t <;> rfl

theorem code_of_portOf {n : Nat} {x : Port} (h : portOf n = some x) : x.code = n := code_of_decodeCode rfl h
theorem code_of_sideOf {n : Nat} {x : Side} (h : sideOf n = some x) : x.code = n := code_of_decodeCode rfl h
theorem code_of_trainSideOf {n : Nat} {x : TrainSide} (h : trainSideOf n = some x) : x.code = n :=
  code_of_decodeCode rfl h
theorem code_of_doorCommandOf {n : Nat} {x : DoorCommand} (h : doorCommandOf n = some x) : x.code = n :=
  code_of_decodeCode rfl h
theorem code_of_topoEventOf {n : Nat} {x : TopoEvent} (h : topoEventOf n = some x) : x.code = n :=
  code_of_decodeCode rfl h
theorem code_of_farPortOf {n : Nat} {x : FarPort} (h : farPortOf n = some x) : x.code = n := code_of_decodeCode rfl h
theorem code_of_confirmResultOf {n : Nat} {x : ConfirmResult} (h : confirmResultOf n = some x) : x.code = n :=
  code_of_decodeCode rfl h
theorem code_of_reqCodeOf {n : Nat} {x : ReqCode} (h : reqCodeOf n = some x) : x.code = n := code_of_decodeCode rfl h
theorem code_of_statusOf {n : Nat} {x : Status} (h : statusOf n = some x) : x.code = n := code_of_decodeCode rfl h
theorem flag_of_boolOf {n : Nat} {x : Bool} (h : boolOf n = some x) : flag x = n := code_of_decodeCode rfl h
theorem code_selTypeOf {n : Nat} (h : n < 4) : (selTypeOf n).code = n := by
  interval_cases n <;> rfl

/-! ### Entries (R36) -/

/-- R36: the two flag bytes of an entry. -/
theorem entryOf_bytes {e : Entry} (hc : e.coachClass ≤ 15) (hd : e.doors ≤ 7) (a b c d : Byte)
    (hi : word32 a b c d = e.identity) :
    entryOf a b c d
      (byte (e.orientation.code * 128 + flag e.cabActive * 64 + flag e.cabMid * 32 + e.farPort.code * 8
        + e.spareLow.toNat))
      (byte (e.coachClass * 16 + flag e.spareBit * 8 + e.doors)) = some e := by
  obtain ⟨identity, orientation, cabActive, cabMid, farPort, spareLow, coachClass, spareBit, doors⟩ := e
  have hs := spareLow.isLt
  have ho : orientation.code < 2 := by cases orientation <;> decide
  have hf : farPort.code < 3 := by cases farPort <;> decide
  have h1 := flag_lt cabActive
  have h2 := flag_lt cabMid
  have h3 := flag_lt spareBit
  dsimp only at *
  have hlt : orientation.code * 128 + flag cabActive * 64 + flag cabMid * 32 + farPort.code * 8 + spareLow.toNat < 256 := by
    omega
  have hlt' : coachClass * 16 + flag spareBit * 8 + doors < 256 := by omega
  have hfar : (orientation.code * 128 + flag cabActive * 64 + flag cabMid * 32 + farPort.code * 8 + spareLow.toNat) / 8 % 4
      = farPort.code := by omega
  have hclass : (coachClass * 16 + flag spareBit * 8 + doors) / 16 = coachClass := by omega
  have hdoors : (coachClass * 16 + flag spareBit * 8 + doors) % 8 = doors := by omega
  have hturn : ∀ x : Orientation, (if decide (x = .reversed) = true then Orientation.reversed else .normal) = x := by
    intro x
    cases x <;> rfl
  have hcode : ∀ x : Orientation, x.code = flag (decide (x = .reversed)) := by
    intro x
    cases x <;> rfl
  rw [entryOf, hi, toNat_byte hlt, toNat_byte hlt', hfar, hclass, hdoors, farPortOf_code,
    getLsbD_byte (b := decide (orientation = .reversed)) hlt (by rw [← hcode]; omega), hturn,
    getLsbD_byte (b := cabActive) hlt (by omega), getLsbD_byte (b := cabMid) hlt (by omega),
    getLsbD_byte (b := spareBit) hlt' (by omega), extract_byte (x := spareLow) hlt (by omega)]
  rfl

theorem bytes_of_entryOf {a b c d e f : Byte} {x : Entry} (h : entryOf a b c d e f = some x) :
    x.bytes = [a, b, c, d, e, f] := by
  unfold entryOf at h
  rw [Option.map_eq_some_iff] at h
  obtain ⟨far, hfar, rfl⟩ := h
  have hcode := code_of_farPortOf hfar
  have he := e.isLt
  have hf := f.isLt
  have ho : (if e.getLsbD 7 = true then Orientation.reversed else .normal).code = flag (e.getLsbD 7) := by
    cases e.getLsbD 7 <;> rfl
  have h1 : flag (e.getLsbD 7) * 128 + flag (e.getLsbD 6) * 64 + flag (e.getLsbD 5) * 32 + far.code * 8
      + (e.extractLsb' 0 3).toNat = e.toNat := by
    rw [hcode, flag_getLsbD, flag_getLsbD, flag_getLsbD, toNat_extract]
    omega
  have h2 : f.toNat / 16 * 16 + flag (f.getLsbD 3) * 8 + f.toNat % 8 = f.toNat := by
    rw [flag_getLsbD]
    omega
  simp only [Entry.bytes]
  rw [ho, h1, h2, be32_word32, byte_toNat, byte_toNat]
  rfl

theorem entriesOf_bytes {l : List Entry} (h : l.all Entry.inRange = true) :
    entriesOf l.length (l.flatMap Entry.bytes) = some l := by
  induction l with
  | nil => rfl
  | cons e l ih =>
    rw [List.all_cons, Bool.and_eq_true] at h
    obtain ⟨he, hl⟩ := h
    simp only [Entry.inRange, Bool.and_eq_true, decide_eq_true_eq] at he
    show entriesOf (l.length + 1) _ = _
    simp only [List.flatMap_cons, Entry.bytes, be32, List.cons_append, List.nil_append, entriesOf,
      entryOf_bytes he.1 he.2 _ _ _ _ (word32_be32 _), ih hl]
    rfl

theorem bytes_of_entriesOf {n : Nat} {l : List Byte} {xs : List Entry} (h : entriesOf n l = some xs) :
    xs.length = n ∧ xs.flatMap Entry.bytes = l := by
  induction n generalizing l xs with
  | zero =>
    cases l with
    | nil =>
      cases h
      exact ⟨rfl, rfl⟩
    | cons => cases h
  | succ n ih =>
    match l, h with
    | a :: b :: c :: d :: e :: f :: rest, h =>
      simp only [entriesOf, bind, Option.bind_eq_some_iff, pure, Option.some.injEq] at h
      obtain ⟨x, hx, ys, hys, rfl⟩ := h
      obtain ⟨hlen, hbytes⟩ := ih hys
      refine ⟨by rw [List.length_cons, hlen], ?_⟩
      rw [List.flatMap_cons, bytes_of_entryOf hx, hbytes]
      rfl

end Sys2Proof.Machine
end

section
/-! SUPPORT. The payload of each kind: spelled and read back, and read and spelled the same. -/

namespace Sys2Proof.Machine

open Sys2Proof

/-- R36 to R39: the payload a body in range spells is read back as that body. -/
theorem bodyOf_payload {b : Body} (hr : b.inRange = true) {phase : Bool}
    (hout : ∀ x, b = .confirmOut x → phase = false) (hdone : ∀ m, b = .confirmDone m → phase = true) :
    bodyOf b.kindCode phase b.payload = some b := by
  cases b with
  | doorCmd c side r =>
    have hc : c.code < 256 := by cases c <;> decide
    have hs : side.code < 256 := by cases side <;> decide
    have hf : flag r < 256 := by cases r <;> decide
    simp [Body.kindCode, Body.payload, bodyOf, toNat_byte hc, toNat_byte hs, toNat_byte hf, doorCommandOf_code,
      trainSideOf_code, boolOf_flag]
  | doorAlert x =>
    obtain ⟨k, side, ts, identity⟩ := x
    have hs : side.code < 256 := by cases side <;> decide
    have ht : ts.code < 256 := by cases ts <;> decide
    simp only [Body.inRange, Bool.and_eq_true, decide_eq_true_eq] at hr
    have hk : k < 256 := by omega
    simp [Body.kindCode, Body.payload, be32, bodyOf, toNat_byte hk, toNat_byte hs, toNat_byte ht, sideOf_code,
      trainSideOf_code, word32_be32]
  | sum x =>
    obtain ⟨n, allClosed, suspect, stuck, spare, released, first, mask⟩ := x
    simp only [Body.inRange, Bool.and_eq_true, decide_eq_true_eq] at hr
    obtain ⟨⟨hn, hl⟩, hp⟩ := hr
    have h1 := flag_lt allClosed
    have h2 := flag_lt suspect
    have h3 := flag_lt stuck
    have hs := spare.isLt
    have hlt : flag allClosed * 128 + flag suspect * 64 + flag stuck * 32 + spare.toNat < 256 := by omega
    simp [Body.kindCode, Body.payload, be32, bodyOf, word32_be32, toNat_byte (show n < 256 by omega),
      toNat_byte (show released < 256 by omega), toNat_byte (show first < 256 by omega),
      getLsbD_byte (b := allClosed) (i := 7) hlt (by omega), getLsbD_byte (b := suspect) (i := 6) hlt (by omega),
      getLsbD_byte (b := stuck) (i := 5) hlt (by omega), extract_byte (x := spare) hlt (by omega),
      -BitVec.getLsbD_eq_getElem]
  | topo x =>
    obtain ⟨identity, ev, p⟩ := x
    have he : ev.code < 256 := by cases ev <;> decide
    have hp : p.code < 256 := by cases p <;> decide
    simp [Body.kindCode, Body.payload, be32, bodyOf, toNat_byte he, toNat_byte hp, topoEventOf_code, portOf_code,
      word32_be32]
  | roll x =>
    obtain ⟨master, overflow, spare, entries⟩ := x
    simp only [Body.inRange, Bool.and_eq_true, decide_eq_true_eq] at hr
    obtain ⟨hn, hall⟩ := hr
    have h1 := flag_lt overflow
    have h2 := flag_lt spare
    have hlt : flag overflow * 128 + flag spare * 64 + entries.length < 256 := by omega
    have hcount : (flag overflow * 128 + flag spare * 64 + entries.length) % 64 = entries.length := by omega
    simp [Body.kindCode, Body.payload, be32, bodyOf, word32_be32, toNat_byte hlt, hcount, entriesOf_bytes hall,
      getLsbD_byte (b := overflow) (i := 7) hlt (by omega), getLsbD_byte (b := spare) (i := 6) hlt (by omega),
      -BitVec.getLsbD_eq_getElem]
  | confirmOut x =>
    obtain ⟨result, master, entries⟩ := x
    have hx : result.code < 256 := by cases result <;> decide
    simp only [Body.inRange, Bool.and_eq_true, decide_eq_true_eq] at hr
    have hn : entries.length < 256 := by omega
    simp [Body.kindCode, Body.payload, be32, bodyOf, toNat_byte hx, toNat_byte hn, confirmResultOf_code, hout _ rfl,
      entriesOf_bytes hr.2, word32_be32]
  | confirmDone m => 
    simp [Body.kindCode, Body.payload, be32, bodyOf, hdone _ rfl, word32_be32]
  | heat x =>
    obtain ⟨budget, remaining, wanting, requested, locked⟩ := x
    simp only [Body.inRange, Bool.and_eq_true, decide_eq_true_eq] at hr
    obtain ⟨⟨⟨⟨hb, hm⟩, hw⟩, hq⟩, hl⟩ := hr
    simp [Body.kindCode, Body.payload, be16, bodyOf, word16_be16 (show budget < 65536 by omega),
      word16_be16 (show requested < 65536 by omega), toNat_byte (show remaining < 256 by omega),
      toNat_byte (show wanting < 256 by omega), toNat_byte (show locked < 256 by omega)]
  | mgmtReq c q =>
    obtain ⟨object, index, count, data⟩ := q
    have hc : c.code < 256 := by cases c <;> decide
    simp only [Body.inRange, Bool.and_eq_true, decide_eq_true_eq] at hr
    obtain ⟨⟨⟨-, hi⟩, hn⟩, -⟩ := hr
    simp [Body.kindCode, Body.payload, bodyOf, toNat_byte hc, toNat_byte (show index < 256 by omega),
      toNat_byte (show count < 256 by omega), reqCodeOf_code]
  | mgmtRsp x =>
    obtain ⟨status, c, object, index, data⟩ := x
    have hc : c.code < 256 := by cases c <;> decide
    have hs : status.code < 256 := by cases status <;> decide
    simp only [Body.inRange, Bool.and_eq_true, decide_eq_true_eq] at hr
    obtain ⟨⟨-, hi⟩, -⟩ := hr
    simp [Body.kindCode, Body.payload, bodyOf, toNat_byte hc, toNat_byte hs, toNat_byte (show index < 256 by omega),
      reqCodeOf_code, statusOf_code]
  | data l => rfl

/-- R36 to R39: a payload that is read as a body of a kind is the one the body spells. -/
theorem payload_of_bodyOf {kind : Nat} {phase : Bool} {l : List Byte} {b : Body} (h : bodyOf kind phase l = some b) :
    b.kindCode = kind ∧ b.payload = l := by
  unfold bodyOf at h
  split at h
  case h_1 c side r =>
    simp only [bind, Option.bind_eq_some_iff, pure, Option.some.injEq] at h
    obtain ⟨x, hx, y, hy, z, hz, rfl⟩ := h
    simp [Body.kindCode, Body.payload, code_of_doorCommandOf hx, code_of_trainSideOf hy, flag_of_boolOf hz, byte_toNat]
  case h_2 p side ts a b c d =>
    simp only [bind, Option.bind_eq_some_iff, pure, Option.some.injEq] at h
    obtain ⟨x, hx, y, hy, rfl⟩ := h
    simp [Body.kindCode, Body.payload, code_of_sideOf hx, code_of_trainSideOf hy, byte_toNat, be32_word32]
  case h_3 n fl rel first a b c d =>
    cases h
    have hlt := fl.isLt
    have hfl : flag (fl.getLsbD 7) * 128 + flag (fl.getLsbD 6) * 64 + flag (fl.getLsbD 5) * 32
        + (fl.extractLsb' 0 5).toNat = fl.toNat := by
      rw [flag_getLsbD, flag_getLsbD, flag_getLsbD, toNat_extract]
      omega
    simp only [Body.kindCode, Body.payload, hfl, byte_toNat, be32_word32]
    exact ⟨trivial, rfl⟩
  case h_4 a b c d ev p =>
    simp only [bind, Option.bind_eq_some_iff, pure, Option.some.injEq] at h
    obtain ⟨x, hx, y, hy, rfl⟩ := h
    simp [Body.kindCode, Body.payload, code_of_topoEventOf hx, code_of_portOf hy, byte_toNat, be32_word32]
  case h_5 a b c d fl rest =>
    simp only [bind, Option.bind_eq_some_iff, pure, Option.some.injEq] at h
    obtain ⟨xs, hxs, rfl⟩ := h
    obtain ⟨hlen, hbytes⟩ := bytes_of_entriesOf hxs
    have hlt := fl.isLt
    have hfl : flag (fl.getLsbD 7) * 128 + flag (fl.getLsbD 6) * 64 + fl.toNat % 64 = fl.toNat := by
      rw [flag_getLsbD, flag_getLsbD]
      omega
    simp only [Body.kindCode, Body.payload, hlen, hbytes, hfl, byte_toNat, be32_word32]
    exact ⟨trivial, rfl⟩
  case h_6 res n a b c d rest =>
    cases phase with
    | true =>
      rw [if_pos rfl] at h
      cases h
    | false =>
      rw [if_neg (by decide)] at h
      simp only [bind, Option.bind_eq_some_iff, pure, Option.some.injEq] at h
      obtain ⟨x, hx, xs, hxs, rfl⟩ := h
      obtain ⟨hlen, hbytes⟩ := bytes_of_entriesOf hxs
      simp [Body.kindCode, Body.payload, code_of_confirmResultOf hx, hlen, hbytes, byte_toNat, be32_word32]
  case h_7 a b c d =>
    cases phase with
    | false => cases h
    | true =>
      cases h
      exact ⟨rfl, be32_word32 a b c d⟩
  case h_8 b1 b0 rem w r1 r0 lk =>
    cases h
    simp [Body.kindCode, Body.payload, be16_word16, byte_toNat]
  case h_9 c obj i n rest =>
    simp only [bind, Option.bind_eq_some_iff, pure, Option.some.injEq] at h
    obtain ⟨x, hx, rfl⟩ := h
    simp [Body.kindCode, Body.payload, code_of_reqCodeOf hx, byte_toNat]
  case h_10 st c obj i rest =>
    simp only [bind, Option.bind_eq_some_iff, pure, Option.some.injEq] at h
    obtain ⟨x, hx, y, hy, rfl⟩ := h
    simp [Body.kindCode, Body.payload, code_of_statusOf hx, code_of_reqCodeOf hy, byte_toNat]
  case h_11 =>
    cases h
    exact ⟨rfl, rfl⟩
  case h_12 => cases h

end Sys2Proof.Machine
end

section
/-! SUPPORT. Records: frames and bytes agree (R24, R31 to R35, R94). -/

namespace Sys2Proof.Machine

open Sys2Proof

/-! ### Sizes -/

theorem length_entryBytes (l : List Entry) : (l.flatMap Entry.bytes).length = 6 * l.length := by
  induction l with
  | nil => rfl
  | cons e l ih =>
    rw [List.flatMap_cons, List.length_append, ih, List.length_cons]
    show 6 + _ = _
    omega

theorem length_payload_le {b : Body} (h : b.inRange = true) : b.payload.length ≤ 240 := by
  cases b with
  | roll x =>
    simp only [Body.inRange, Bool.and_eq_true, decide_eq_true_eq] at h
    simp only [Body.payload, be32, List.length_append, List.length_cons, List.length_nil, length_entryBytes]
    omega
  | confirmOut x =>
    simp only [Body.inRange, Bool.and_eq_true, decide_eq_true_eq] at h
    simp only [Body.payload, be32, List.length_append, List.length_cons, List.length_nil, length_entryBytes]
    omega
  | mgmtReq c q =>
    simp only [Body.inRange, Bool.and_eq_true, decide_eq_true_eq] at h
    simp only [Body.payload, List.length_append, List.length_cons, List.length_nil]
    omega
  | mgmtRsp x =>
    simp only [Body.inRange, Bool.and_eq_true, decide_eq_true_eq] at h
    simp only [Body.payload, List.length_append, List.length_cons, List.length_nil]
    omega
  | data l => simpa [Body.inRange, Body.payload] using h
  | _ => simp [Body.payload, be32, be16]

theorem length_bytes (f : Frame) : f.bytes.length = f.body.payload.length + 8 := by
  simp only [Frame.bytes, Frame.covered, Frame.headerBytes, crcBytes, List.length_append, List.length_cons,
    List.length_nil]
  omega

/-! ### Form -/

/-- R25, R28, R33: the values that the header's bytes hold. -/
structure FrameFits (f : Frame) : Prop where
  body : f.body.inRange = true
  value : f.header.sel.value < 256
  tag : f.header.tag < 256
  confirmOut : ∀ x, f.body = .confirmOut x → f.header.phase = false
  confirmDone : ∀ m, f.body = .confirmDone m → f.header.phase = true

theorem value_lt_of_inRange {x : Selector} (h : x.inRange = true) : x.value < 256 := by
  unfold Selector.inRange at h
  cases hx : x.type <;> simp [hx] at h <;> omega

theorem tag_lt_of_tagOk {b : Body} {tag : Nat} (h : tagOk b tag = true) : tag < 256 := by
  cases b <;> simp [tagOk] at h <;> omega

theorem fits_of_tapFormOk {f : Frame} (h : f.tapFormOk = true) : FrameFits f := by
  simp only [Frame.tapFormOk, Bool.and_eq_true] at h
  obtain ⟨⟨⟨hsel, htag⟩, hbody⟩, hphase⟩ := h
  refine ⟨hbody, value_lt_of_inRange hsel, tag_lt_of_tagOk htag, fun x hx => ?_, fun m hm => ?_⟩
  · simpa [phaseOk, hx] using hphase
  · simpa [phaseOk, hm] using hphase

/-! ### A frame's bytes are accepted as the frame -/

theorem kindCode_range (b : Body) : 1 ≤ b.kindCode ∧ b.kindCode ≤ 10 := by
  cases b <;> simp [Body.kindCode]

/-- R24, R32: the CRC that ends a record agrees with the bytes before it. -/
theorem crc_agrees (l : List Byte) : (l ++ crcBytes l).take ((l ++ crcBytes l).length - 2) = l
    ∧ (l ++ crcBytes l).drop ((l ++ crcBytes l).length - 2) = crcBytes l := by
  have hcut : (l ++ crcBytes l).length - 2 = l.length := by
    rw [List.length_append]
    rfl
  rw [hcut]
  exact ⟨List.take_left' rfl, List.drop_left' rfl⟩

theorem acceptWith_bytes {formOk : Frame → Bool} {f : Frame} (hf : formOk f = true) (hfits : FrameFits f)
    (he : f.header.epoch ≤ 255) (ho : f.header.origin ≤ 255) : acceptWith formOk f.bytes = .frame f := by
  obtain ⟨hbody, hvalue, htag, hout, hdone⟩ := hfits
  have hlen := length_bytes f
  have hmax := length_payload_le hbody
  obtain ⟨htake, hdrop⟩ := crc_agrees f.covered
  change f.bytes.take (f.bytes.length - 2) = _ at htake
  change f.bytes.drop (f.bytes.length - 2) = _ at hdrop
  obtain ⟨⟨phase, ⟨type, value⟩, spare, epoch, origin, tag⟩, body⟩ := f
  obtain ⟨hk1, hk2⟩ := kindCode_range body
  have h1 := flag_lt phase
  have h2 := flag_lt spare
  have ht : type.code < 4 := by cases type <;> decide
  dsimp only at hbody hvalue htag hout hdone he ho hmax
  have hbytes : (Frame.mk ⟨phase, ⟨type, value⟩, spare, epoch, origin, tag⟩ body).bytes
    = byte (body.kindCode * 16 + flag phase * 8 + type.code * 2 + flag spare) :: byte value :: byte epoch :: byte origin
      :: byte tag :: byte body.payload.length :: (body.payload ++ crcBytes (Frame.covered ⟨⟨phase, ⟨type, value⟩, spare,
        epoch, origin, tag⟩, body⟩)) := rfl
  have hlt : body.kindCode * 16 + flag phase * 8 + type.code * 2 + flag spare < 256 := by omega
  have hkind : (body.kindCode * 16 + flag phase * 8 + type.code * 2 + flag spare) / 16 = body.kindCode := by omega
  have htype : (body.kindCode * 16 + flag phase * 8 + type.code * 2 + flag spare) / 2 % 4 = type.code := by omega
  have hvalid : kindValid body.kindCode = true := by simp [kindValid, hk1, hk2]
  have hsize : (byte body.payload.length).toNat = body.payload.length := toNat_byte (by omega)
  unfold acceptWith
  rw [if_neg (by omega), htake, hdrop, if_neg (by simp)]
  rw [hlen]
  rw [hbytes]
  dsimp only
  rw [hsize, if_neg (by omega), toNat_byte hlt, hkind, htype, hvalid, List.take_left' rfl,
    getLsbD_byte (b := phase) (i := 3) hlt (by omega), getLsbD_byte (b := spare) (i := 0) hlt (by omega),
    bodyOf_payload hbody hout hdone, toNat_byte hvalue, toNat_byte (show epoch < 256 by omega),
    toNat_byte (show origin < 256 by omega), toNat_byte htag, selTypeOf_code]
  exact if_pos hf

/-! ### A record that is accepted is the frame's bytes -/

theorem bytes_of_acceptWith {formOk : Frame → Bool} {l : List Byte} {f : Frame} (h : acceptWith formOk l = .frame f) :
    f.bytes = l ∧ formOk f = true ∧ 8 ≤ l.length ∧ l.length ≤ 248 := by
  unfold acceptWith at h
  split at h
  · cases h
  rename_i hshort
  split at h
  · cases h
  rename_i hcrc
  match l, h, hshort, hcrc with
  | b0 :: sv :: ep :: org :: tag :: len :: rest, h, hshort, hcrc =>
    dsimp only at h
    split at h
    · cases h
    rename_i hlen
    split at h
    · cases h
    rename_i hvalid
    split at h
    · cases h
    rename_i body hbody
    split at h
    swap
    · cases h
    rename_i hform
    cases h
    obtain ⟨hkind, hpayload⟩ := payload_of_bodyOf hbody
    have h0 := b0.isLt
    have hl := len.isLt
    rw [not_or, not_not] at hlen
    obtain ⟨hsize, hmax⟩ := hlen
    have hrest : rest.length = len.toNat + 2 := by
      simp only [List.length_cons] at hsize
      omega
    have hplen : (rest.take len.toNat).length = len.toNat := by
      rw [List.length_take]
      omega
    have htype : (selTypeOf (b0.toNat / 2 % 4)).code = b0.toNat / 2 % 4 := code_selTypeOf (by omega)
    have hfirst : body.kindCode * 16 + flag (b0.getLsbD 3) * 8 + (selTypeOf (b0.toNat / 2 % 4)).code * 2
        + flag (b0.getLsbD 0) = b0.toNat := by
      rw [hkind, htype, flag_getLsbD, flag_getLsbD]
      omega
    have hcovered : Frame.covered ⟨⟨b0.getLsbD 3, ⟨selTypeOf (b0.toNat / 2 % 4), sv.toNat⟩, b0.getLsbD 0, ep.toNat,
        org.toNat, tag.toNat⟩, body⟩ = b0 :: sv :: ep :: org :: tag :: len :: rest.take len.toNat := by
      simp only [Frame.covered, Frame.headerBytes, hfirst, hplen, byte_toNat, hpayload]
      rfl
    have htake : (b0 :: sv :: ep :: org :: tag :: len :: rest).take
        ((b0 :: sv :: ep :: org :: tag :: len :: rest).length - 2)
        = b0 :: sv :: ep :: org :: tag :: len :: rest.take len.toNat := by
      rw [← hsize, show len.toNat + 8 - 2 = len.toNat + 6 by omega]
      rfl
    rw [not_not, htake] at hcrc
    refine ⟨?_, hform, by omega, by omega⟩
    rw [Frame.bytes, hcovered, hcrc, ← htake]
    exact List.take_append_drop _ _
  | [], _, hshort, _ => exact absurd (by decide) hshort
  | [_], _, hshort, _ => exact absurd (by simp) hshort
  | [_, _], _, hshort, _ => exact absurd (by simp) hshort
  | [_, _, _], _, hshort, _ => exact absurd (by simp) hshort
  | [_, _, _, _], _, hshort, _ => exact absurd (by simp) hshort
  | [_, _, _, _, _], _, hshort, _ => exact absurd (by simp) hshort

/-! ### Records from the tap (R94) -/

theorem declaredSize_bytes {f : Frame} (h : f.body.payload.length ≤ 240) (extra : List Byte) :
    declaredSize (f.bytes ++ extra) = f.bytes.length := by
  rw [length_bytes]
  show 8 + (byte f.body.payload.length).toNat = _
  rw [toNat_byte (by omega)]
  omega

/-- R94: cut short before its declared end, a record is short of the size it declares. -/
theorem length_lt_declaredSize_take {f : Frame} (h : f.body.payload.length ≤ 240) {k : Nat}
    (hk : k < f.bytes.length) : (f.bytes.take k).length < declaredSize (f.bytes.take k) := by
  have hlen : (f.bytes.take k).length = k := by
    rw [List.length_take]
    omega
  rw [hlen]
  by_cases h5 : k ≤ 5
  · unfold declaredSize
    omega
  · have hget : (f.bytes.take k).getD 5 0 = f.bytes.getD 5 0 := by
      rw [List.getD_eq_getElem?_getD, List.getD_eq_getElem?_getD, List.getElem?_take_of_lt (by omega)]
    have hwhole := declaredSize_bytes h []
    rw [List.append_nil] at hwhole
    rw [declaredSize, hget]
    exact hk.trans_eq hwhole.symm

/-- Settles O1: frames read back from their bits, accepted records spelled the same, and tap records read by their
declared end. -/
theorem framesAndBytesAgree : Obligations.FramesAndBytesAgree := by
  refine ⟨fun f hf => ?_, fun l f h => bytes_of_acceptWith h, fun done levels f extra hf he ho => ?_⟩
  · have hform := hf
    simp only [Frame.formOk, Bool.and_eq_true, decide_eq_true_eq] at hform
    obtain ⟨⟨⟨htap, -⟩, hepoch⟩, horigin⟩ := hform
    rw [acceptBits, bytesOfBits_bitsOf]
    exact acceptWith_bytes hf (fits_of_tapFormOk htap) hepoch (by omega)
  · have hfits := fits_of_tapFormOk hf
    have hmax := length_payload_le hfits.body
    have hlen := length_bytes f
    refine ⟨?_, rfl, fun k h0 hk => ?_⟩
    · have hempty : ¬(f.bytes ++ extra).isEmpty = true := by
        rw [List.isEmpty_iff, List.append_eq_nil_iff]
        rintro ⟨hnil, -⟩
        rw [hnil] at hlen
        cases hlen
      have hwhole : ¬(f.bytes ++ extra).length < f.bytes.length := by
        rw [List.length_append]
        omega
      rw [commandOfTapBytes, if_neg hempty, declaredSize_bytes hmax, if_neg hwhole, List.take_left' rfl,
        acceptWith_bytes hf hfits he ho]
    · have hempty : ¬(f.bytes.take k).isEmpty = true := by
        rw [List.isEmpty_iff, List.take_eq_nil_iff]
        rintro (hz | hnil)
        · omega
        · rw [hnil] at hlen
          cases hlen
      rw [commandOfTapBytes, if_neg hempty, if_pos (length_lt_declaredSize_take hmax hk)]

end Sys2Proof.Machine
end

section
/-! SUPPORT. The owners that a write of the line function table tells. -/

namespace Sys2Proof.Machine

open Sys2Proof

/-! ### What a notice leaves (R109) -/

/-- R105, R109: what stays as it was where the line unit tells the owners of a write. -/
structure Told (s t : State) : Prop where
  relay : t.relay = s.relay
  faults : t.faults = s.faults
  ports : t.ports = s.ports
  bypass : t.bypass = s.bypass
  mgmt : t.mgmt = s.mgmt
  timebase : t.timers.timebase = s.timers.timebase
  stage : t.heat.applied ≤ s.heat.applied

theorem Told.refl (s : State) : Told s s := ⟨rfl, rfl, rfl, rfl, rfl, rfl, le_rfl⟩

theorem Told.trans {s t u : State} (h : Told s t) (k : Told t u) : Told s u :=
  ⟨k.relay.trans h.relay, k.faults.trans h.faults, k.ports.trans h.ports, k.bypass.trans h.bypass, k.mgmt.trans h.mgmt,
    k.timebase.trans h.timebase, k.stage.trans h.stage⟩

theorem told_setLines (x : LineUnit) (s : State) : Told s (s.setLines x) := ⟨rfl, rfl, rfl, rfl, rfl, rfl, le_rfl⟩

/-- R105: a write of the lines themselves changes nothing else. -/
theorem told_writeLinesAt (g : LineEntry → LineRecord → LineRecord) (i : Nat) (l : List LineEntry) (s : State) :
    Told s (writeLinesAt g i l s) ∧ (writeLinesAt g i l s).consist = s.consist ∧ (writeLinesAt g i l s).door = s.door := by
  rw [(writeLinesAt_eq g i l s).1]
  exact ⟨told_setLines _ s, rfl, rfl⟩

theorem told_of_actedTo {s t : State} (h : s.ActedTo t) (hle : t.heat.applied ≤ s.heat.applied) : Told s t :=
  ⟨h.relay, h.faults, h.ports, h.bypass, h.mgmt, h.timebase, hle⟩

/-- R44: a master loses its role. -/
theorem told_loseRole (s : State) : Told s (loseRole s) := by
  refine ⟨loseRole_relay s, loseRole_faults s, loseRole_ports s, loseRole_bypass s, loseRole_mgmt s,
    (sameClock_loseRole s).1, ?_⟩
  unfold loseRole
  dsimp only
  split_ifs
  · generalize hv : (stopTimers [.t2, .t3, .t4] s).setConsist _ = v
    have hle : v.heat.applied = s.heat.applied := by simp [← hv]
    rw [← hle, enterSuspect, enterState_eq]
    exact madeReady_le .member .suspect v
  · exact (enterUninaugurated_heat s).2.2

/-- R42, R44: without an asserted cab the node is a member after its role is evaluated. -/
theorem evaluateRole_of_no_cab {s : State} (hc : s.cab = false) :
    Told s (evaluateRole s) ∧ (evaluateRole s).consist.role = .member := by
  have hm : s.mayLead = false := by rw [State.mayLead, hc]; rfl
  unfold evaluateRole
  rw [hc, hm]
  cases hr : s.isMaster
  · exact ⟨.refl s, (isMaster_eq_false_iff s).mp hr⟩
  · exact ⟨told_loseRole s, loseRole_role s⟩

/-- R122, R138: a change of proof that is due no alert. -/
theorem proofNotice_actedTo {d : Side} {p : Proof} {s : State} (hp : p ≠ .proved)
    (h : s.alertDue d p = false) :
    s.ActedTo (proofNotice d p s) ∧ (proofNotice d p s).heat.applied ≤ s.heat.applied := by
  rw [proofNotice_eq, h]
  have ht : proofTaken d p s = s.setSide d { s.side d with proof := p, held := (s.side d).held && p != .proved } :=
    if_neg fun hx => hp hx.1
  rw [ht]
  exact ⟨(State.ActedTo.setSide d _ s).trans (.heatRefresh _), heatRefresh_le (s.setSide d _)⟩

/-- R109: every owner but the consist unit changes the sides, the stage and the counts at most. -/
theorem ownerTold_actedTo {p : Proof} {f : LineFunction} {s : State} (hf : f ≠ .cabActive) (hp : p ≠ .proved)
    (h : ∀ d, f = .doorProof d → s.alertDue d p = false) :
    s.ActedTo (ownerTold p f s) ∧ (ownerTold p f s).heat.applied ≤ s.heat.applied := by
  unfold ownerTold
  split
  · exact absurd rfl hf
  · exact proofNotice_actedTo hp (h _ rfl)
  · rw [judgeFeedback_eq]
    exact ⟨.setCount .., le_rfl⟩
  · exact ⟨.heatRefresh s, heatRefresh_le s⟩
  · exact ⟨.heatRefresh s, heatRefresh_le s⟩
  · exact ⟨.heatRefresh s, heatRefresh_le s⟩
  · exact ⟨.refl s, le_rfl⟩

/-- R109: the notices of the functions taken off, or put on, lines. -/
theorem notices_told {p : Proof} (hp : p ≠ .proved) {l : List LineFunction} {s : State}
    (hc : LineFunction.cabActive ∈ l → s.cab = false)
    (ha : ∀ d, LineFunction.doorProof d ∈ l → p = .notProved → (s.side d).proof ≠ .proved) :
    Told s (notices (ownerTold p) l s)
      ∧ (LineFunction.cabActive ∈ l ∨ s.consist.role = .member → (notices (ownerTold p) l s).consist.role = .member)
      ∧ (LineFunction.cabActive ∉ l → s.ActedTo (notices (ownerTold p) l s)) := by
  induction l generalizing s with
  | nil => exact ⟨.refl s, fun h => h.resolve_left (by simp), fun _ => .refl s⟩
  | cons f l ih =>
    have hlines : (ownerTold p f s).lines = s.lines := ownerTold_lines p f s
    have hcab : (ownerTold p f s).cab = s.cab := by simp only [State.cab, State.asserted, hlines]
    have hc' : LineFunction.cabActive ∈ l → (ownerTold p f s).cab = false := fun h =>
      hcab.trans (hc (List.mem_cons_of_mem _ h))
    have ha' : ∀ d, LineFunction.doorProof d ∈ l → p = .notProved → ((ownerTold p f s).side d).proof ≠ .proved :=
      fun d hd hn => by
        rw [ownerTold_proof]
        split_ifs
        · exact hp
        · exact ha d (List.mem_cons_of_mem _ hd) hn
    obtain ⟨htold, hrole, hacted⟩ := ih hc' ha'
    have halert : ∀ d, f = .doorProof d → s.alertDue d p = false := fun d hd => by
      subst hd
      unfold State.alertDue
      by_cases hn : p = .notProved
      · simp [ha d List.mem_cons_self hn]
      · simp [hn]
    by_cases hf : f = .cabActive
    · subst hf
      obtain ⟨h1, h2⟩ := evaluateRole_of_no_cab (hc List.mem_cons_self)
      exact ⟨h1.trans htold, fun _ => hrole (.inr h2), fun h => absurd List.mem_cons_self h⟩
    · obtain ⟨h1, h2⟩ := ownerTold_actedTo hf hp halert
      refine ⟨(told_of_actedTo h1 h2).trans htold, fun h => hrole ?_, fun h =>
        h1.trans (hacted fun hm => h (List.mem_cons_of_mem _ hm))⟩
      rw [h1.consist]
      exact h.imp (fun hm => (List.mem_cons.mp hm).resolve_left (Ne.symm hf)) id

end Sys2Proof.Machine
end

section
/-! SUPPORT. The line function table and the general outputs, written. -/

namespace Sys2Proof.Machine

open Sys2Proof

/-! ### A function that a write takes off a line, or puts on one (R105, R108) -/

theorem line_lt {s : State} {n : Nat} {f : LineFunction} (hf : f ≠ .none) (h : (s.lineAt n).entry.function = f) :
    n < s.lines.line.length := by
  by_contra hlen
  rw [lineAt_of_le (not_lt.mp hlen)] at h
  exact hf h.symm

/-- R105, R108: a line that carries a function after the removals carried it before, and is not replaced. -/
theorem function_of_removed {i : Nat} {l : List LineEntry} {s : State} {n : Nat} {f : LineFunction} (hf : f ≠ .none)
    (h : ((writeLinesAt LineRecord.removed i l s).lineAt n).entry.function = f) :
    (s.lineAt n).entry.function = f ∧ ∀ e, i ≤ n → l[n - i]? = some e → (s.lineAt n).replacedBy e = false := by
  have hlen : n < s.lines.line.length := (writeLinesAt_eq LineRecord.removed i l s).2 ▸ line_lt hf h
  rw [lineAt_writeLinesAt] at h
  by_cases hn : i ≤ n
  · rw [if_pos ⟨hn, hlen⟩] at h
    cases he : l[n - i]? with
    | none =>
      rw [he] at h
      exact ⟨h, fun e _ hx => by cases hx⟩
    | some e =>
      rw [he] at h
      dsimp only at h
      cases hrep : (s.lineAt n).replacedBy e with
      | false =>
        rw [(removed_of_kept hrep).2.1] at h
        refine ⟨h, fun e' _ hx => ?_⟩
        cases hx
        exact hrep
      | true =>
        rw [removed_of_replaced hrep] at h
        exact absurd h.symm hf
  · rw [if_neg fun hx => hn hx.1] at h
    exact ⟨h, fun e hx => absurd hx hn⟩

theorem ne_none_of_not_shared {f : LineFunction} (hf : ¬f.shared) : f ≠ .none := fun h => hf (.inl h)

/-- R108: no line is asserted with a function that a write takes off its one line. -/
theorem asserted_of_removed {i : Nat} {l : List LineEntry} {s : State} (h : s.LinesSafe) {f : LineFunction}
    (hf : ¬f.shared) (hr : f ∈ s.removedFunctions i l) : (writeLinesAt LineRecord.removed i l s).asserted f = false := by
  obtain ⟨n, e, hn, he, hrep, hfun⟩ := mem_removedFunctions.mp hr
  rw [Bool.eq_false_iff]
  intro ha
  obtain ⟨m, hm, -⟩ := (asserted_iff _ f).mp ha
  obtain ⟨hold, hkept⟩ := function_of_removed (ne_none_of_not_shared hf) hm
  obtain rfl := line_unique h hf hfun hold
  rw [hkept e hn he] at hrep
  cases hrep

/-- R108: a function that a write puts on its one line is at level released. -/
theorem asserted_of_added {i : Nat} {l : List LineEntry} {s t : State} (ht : Removed i l s t)
    (hi : i + l.length ≤ s.lines.line.length) (h : (writeLinesAt LineRecord.setEntry i l t).LinesSafe)
    {f : LineFunction} (hf : ¬f.shared) (ha : f ∈ s.addedFunctions i l) :
    (writeLinesAt LineRecord.setEntry i l t).asserted f = false := by
  obtain ⟨n, e, hn, he, hrep, hfun⟩ := mem_addedFunctions.mp ha
  have hlen : n < s.lines.line.length := by
    have := (List.getElem?_eq_some_iff.mp he).1
    omega
  have hline : (writeLinesAt LineRecord.setEntry i l t).lineAt n = (s.lineAt n).cleared e := by
    rw [lineAt_added ht, if_pos ⟨hn, hlen⟩, he]
    exact if_pos hrep
  rw [Bool.eq_false_iff]
  intro has
  obtain ⟨m, hm, hq⟩ := (asserted_iff _ f).mp has
  obtain rfl := line_unique h hf (n := n) (by rw [hline]; exact hfun) hm
  rw [hline] at hq
  cases hq

/-- R105: a function that a write puts on its one line, taking it off none, stood on none. -/
theorem present_of_added {i : Nat} {l : List LineEntry} {s t : State} (ht : Removed i l s t)
    (hi : i + l.length ≤ s.lines.line.length) (h : (writeLinesAt LineRecord.setEntry i l t).LinesSafe)
    {f : LineFunction} (hf : ¬f.shared) (ha : f ∈ s.addedFunctions i l) (hr : f ∉ s.removedFunctions i l) :
    s.present f = false := by
  obtain ⟨n, e, hn, he, hrep, hfun⟩ := mem_addedFunctions.mp ha
  have hne := ne_none_of_not_shared hf
  have hlen : n < s.lines.line.length := by
    have := (List.getElem?_eq_some_iff.mp he).1
    omega
  have hline : ((writeLinesAt LineRecord.setEntry i l t).lineAt n).entry.function = f := by
    rw [lineAt_added ht, if_pos ⟨hn, hlen⟩, he]
    dsimp only
    rw [if_pos hrep]
    exact hfun
  rw [Bool.eq_false_iff]
  intro hp
  obtain ⟨m, hm⟩ := (present_iff s hne).mp hp
  have hsame : ((writeLinesAt LineRecord.setEntry i l t).lineAt m).entry.function = f := by
    rw [lineAt_added ht]
    by_cases hmi : i ≤ m
    · rw [if_pos ⟨hmi, line_lt hne hm⟩]
      cases hx : l[m - i]? with
      | none => exact hm
      | some e' =>
        have hk : (s.lineAt m).replacedBy e' = false := by
          rw [← Bool.not_eq_true]
          exact fun hrep' => hr (mem_removedFunctions.mpr ⟨m, e', hmi, hx, hrep', hm⟩)
        dsimp only
        rw [hk, if_neg (by decide), (removed_of_kept hk).2.1]
        exact hm
    · rw [if_neg fun hx => hmi hx.1]
      exact hm
  obtain rfl := line_unique h hf hline hsame
  exact hr (mem_removedFunctions.mpr ⟨n, e, hn, he, hrep, hm⟩)

/-! ### The table applied (R105, R109) -/

theorem applyLines_told {i : Nat} {l : List LineEntry} {s : State} (hi : i + l.length ≤ s.lines.line.length)
    (hl : ∀ e ∈ l, e.debounce ≤ 250) (hn : (s.functionsAfter i l).Nodup) (hs : s.LinesSafe) (hp : s.ProofSafe) :
    let gone := s.removedFunctions i l
    let put := s.addedFunctions i l
    let t := applyLines i l s
    Told s t ∧ (LineFunction.cabActive ∈ gone ∨ LineFunction.cabActive ∈ put → t.consist.role = .member)
      ∧ (LineFunction.cabActive ∉ gone → LineFunction.cabActive ∉ put →
        t.consist = s.consist ∧ t.door = { s.door with sides := t.door.sides })
      ∧ ∀ d, LineFunction.doorProof d ∉ gone → LineFunction.doorProof d ∉ put →
        (t.side d).proof = (s.side d).proof := by
  intro gone put t
  have hcabf : ¬LineFunction.cabActive.shared := by simp [LineFunction.shared]
  have hprooff : ∀ d, ¬(LineFunction.doorProof d).shared := by simp [LineFunction.shared]
  obtain ⟨htold0, hcons0, hdoor0⟩ := told_writeLinesAt LineRecord.removed i l s
  generalize hs0 : writeLinesAt LineRecord.removed i l s = s0 at htold0 hcons0 hdoor0
  have hcab0 : LineFunction.cabActive ∈ gone → s0.cab = false := fun hm => by
    rw [← hs0]
    exact asserted_of_removed hs hcabf hm
  obtain ⟨htold1, hrole1, hacted1⟩ := notices_told (p := .absent) (by decide) hcab0 (fun d _ hx => by cases hx)
  have hproof1 : ∀ d, ((notices (ownerTold .absent) gone s0).side d).proof
      = if LineFunction.doorProof d ∈ gone then .absent else (s.side d).proof := fun d => by
    rw [notices_proof, ← hs0, side_writeLinesAt]
  have ht : Removed i l s (notices (ownerTold .absent) gone s0) := by
    rw [Removed, notices_lines, hs0]
  generalize hs1 : notices (ownerTold .absent) gone s0 = s1 at htold1 hrole1 hacted1 hproof1 ht
  have hsafe := linesSafe_added ht hi hl hn hs
  obtain ⟨htold2, hcons2, hdoor2⟩ := told_writeLinesAt LineRecord.setEntry i l s1
  have hcab2 : LineFunction.cabActive ∈ put → (writeLinesAt LineRecord.setEntry i l s1).cab = false :=
    asserted_of_added ht hi hsafe hcabf
  have hproof2 : ∀ d, LineFunction.doorProof d ∈ put → Proof.notProved = .notProved →
      ((writeLinesAt LineRecord.setEntry i l s1).side d).proof ≠ .proved := fun d hd _ => by
    rw [side_writeLinesAt, hproof1]
    split_ifs with hg
    · decide
    · rw [hp d, State.lineProof, present_of_added ht hi hsafe (hprooff d) hd hg,
        if_neg Bool.false_ne_true]
      decide
  obtain ⟨htold3, hrole3, hacted3⟩ := notices_told (p := .notProved) (by decide) hcab2 hproof2
  have he : t = notices (ownerTold .notProved) put (writeLinesAt LineRecord.setEntry i l s1) := by
    rw [← hs1, ← hs0]
    rfl
  refine ⟨?_, fun h => ?_, fun hg hu => ?_, fun d hg hu => ?_⟩
  · rw [he]
    exact ((htold0.trans htold1).trans htold2).trans htold3
  · rw [he]
    refine hrole3 (h.symm.imp id fun hg => ?_)
    rw [hcons2]
    exact hrole1 (.inl hg)
  · have h1 := hacted1 hg
    have h3 := hacted3 hu
    rw [he]
    refine ⟨by rw [h3.consist, hcons2, h1.consist, hcons0], ?_⟩
    rw [h3.door, hdoor2, h1.door, hdoor0]
  · rw [he, notices_proof, if_neg hu, side_writeLinesAt, hproof1, if_neg hg]

/-- R105, R107, R108, R116: one line, with the entry written. -/
def lineWritten (e : LineEntry) (l : LineRecord) : LineRecord :=
  if l.entry.function ≠ e.function ∨ l.entry.polarity ≠ e.polarity then
    ⟨e, l.raw, false, .none, false, false, false, .ready⟩
  else
    let m := if l.entry.debounce ≠ e.debounce ∧ l.change ≠ .none then { l with change := .afresh } else l
    if l.entry.arming ≠ e.arming then
      { m with entry := e, reported := false, recorded := false, condition := .ready }
    else { m with entry := e }

theorem replacedBy_iff (e : LineEntry) (l : LineRecord) :
    l.replacedBy e = true ↔ l.entry.function ≠ e.function ∨ l.entry.polarity ≠ e.polarity := by
  simp [LineRecord.replacedBy]

theorem lineWritten_eq (e : LineEntry) (l : LineRecord) :
    (if l.replacedBy e then l.cleared e else l.removed e) = lineWritten e l := by
  by_cases hrep : l.replacedBy e = true
  · rw [if_pos hrep, lineWritten, if_pos ((replacedBy_iff e l).mp hrep)]
    rfl
  · rw [if_neg hrep, lineWritten, if_neg (mt (replacedBy_iff e l).mpr hrep), LineRecord.removed, if_neg hrep]
    rw [replacedBy_iff, not_or, not_not, not_not] at hrep
    obtain ⟨f, p, db, a⟩ := e
    obtain ⟨⟨f', p', db', a'⟩, raw, q, change, go, rp, rc, cond⟩ := l
    obtain ⟨rfl, rfl⟩ := hrep
    unfold LineRecord.setArming LineRecord.setDebounce PendingChange.remeasured
    dsimp only
    by_cases hd : db' = db
    · subst hd
      by_cases ha : a' = a
      · subst ha
        simp
      · simp [ha]
    · by_cases ha : a' = a
      · subst ha
        cases change <;> simp [hd]
      · cases change <;> simp [hd, ha]

/-- R105: the lines after a write of the table. -/
theorem applyLines_lines {i : Nat} {l : List LineEntry} (s : State) :
    (applyLines i l s).lines = { s.lines with line := s.lines.line.mapIdx fun k x =>
      if i ≤ k then (match l[k - i]? with
        | some e => lineWritten e x
        | none => x)
      else x } := by
  have ht : Removed i l s (notices ownerAbsent (s.removedFunctions i l) (writeLinesAt LineRecord.removed i l s)) :=
    notices_lines ..
  have hfinal : (applyLines i l s).lines = (writeLinesAt LineRecord.setEntry i l
      (notices ownerAbsent (s.removedFunctions i l) (writeLinesAt LineRecord.removed i l s))).lines := notices_lines ..
  rw [hfinal]
  generalize notices ownerAbsent (s.removedFunctions i l) (writeLinesAt LineRecord.removed i l s) = t at ht
  have hfirst : (writeLinesAt LineRecord.setEntry i l t).lines.firstSample = s.lines.firstSample := by
    rw [(writeLinesAt_eq ..).1, State.setLines_lines, ht, (writeLinesAt_eq ..).1]
    rfl
  have hlen : (writeLinesAt LineRecord.setEntry i l t).lines.line.length = s.lines.line.length := by
    rw [(writeLinesAt_eq ..).2, length_of_removed ht]
  have hline : (writeLinesAt LineRecord.setEntry i l t).lines.line = s.lines.line.mapIdx fun k x =>
      if i ≤ k then (match l[k - i]? with
        | some e => lineWritten e x
        | none => x)
      else x := by
    refine List.ext_getElem (by rw [hlen, List.length_mapIdx]) fun n h1 h2 => ?_
    have hn : n < s.lines.line.length := hlen ▸ h1
    rw [← lineAt_eq_getElem h1, lineAt_added ht, List.getElem_mapIdx, ← lineAt_eq_getElem hn]
    by_cases hi : i ≤ n
    · rw [if_pos ⟨hi, hn⟩, if_pos hi]
      cases l[n - i]? with
      | none => rfl
      | some e => exact lineWritten_eq e _
    · rw [if_neg fun hx => hi hx.1, if_neg hi]
  rw [← hline]
  dsimp only
  rw [← hfirst]

end Sys2Proof.Machine
end

section
/-! SUPPORT. LOCAL writes of the lines. -/

namespace Sys2Proof.Machine

open Sys2Proof

/-! ### An element of the line function table (R40, R105) -/

/-- R40: the input functions, by their codes from 0 on. -/
def inputFunctions : List LineFunction := [.none, .cabActive, .zeroSpeed, .doorProof .a, .doorProof .b, .doorInhibit .a,
  .doorInhibit .b, .heatFeedback, .heatDemand0, .heatDemand1, .heatDemand2, .generalIn]

/-- R40: the output functions, by their codes from 16 on. -/
def outputFunctions : List LineFunction := [.doorRelease .a, .doorRelease .b, .doorClose .a, .doorClose .b,
  .trainDoorsClosed, .heatStage0, .heatStage1, .heatStage2, .generalOut]

theorem functionOf_eq (n : Nat) :
    functionOf n = if n < 16 then inputFunctions[n]? else outputFunctions[n - 16]? := by
  unfold functionOf decodeCode
  by_cases h : n < 16
  · rw [if_pos h, if_pos h, if_neg (Nat.not_lt_zero n)]
    rfl
  · rw [if_neg h, if_neg h, if_neg h]
    rfl

theorem armingOf_eq {n : Nat} (h : n < 4) : armingOf n = [Arming.off, .assertion, .release, .both].getD n .off := by
  interval_cases n <;> rfl

theorem lineEntryOf_eq (a b c : Byte) : lineEntryOf a b c
    = (if a.toNat < 16 then inputFunctions[a.toNat]? else outputFunctions[a.toNat - 16]?).map fun f =>
      ⟨f, if b.getLsbD 7 = true then .activeLow else .activeHigh, min 250 c.toNat,
        [Arming.off, .assertion, .release, .both].getD (b.toNat % 4) .off⟩ := by
  rw [lineEntryOf, functionOf_eq, armingOf_eq (Nat.mod_lt _ (by decide))]

/-! ### Output levels (R111) -/

/-- One change of a line for each element of a write, the first at line `i`. -/
theorem foldl_setLine {α : Type} (g : α → LineRecord → LineRecord) (i : Nat) (l : List α) (s : State) :
    (l.zipIdx i).foldl (fun s x => s.setLine x.2 (g x.1 (s.lineAt x.2))) s
      = s.setLines { s.lines with line := s.lines.line.mapIdx fun k x =>
          if i ≤ k then (l[k - i]?.map fun a => g a x).getD x else x } := by
  induction l generalizing i s with
  | nil =>
    refine congrArg s.setLines (?_ : s.lines = _)
    have hid : (s.lines.line.mapIdx fun k x => if i ≤ k then (([] : List α)[k - i]?.map fun a => g a x).getD x else x)
        = s.lines.line := by
      refine List.ext_getElem (by simp) fun n h1 h2 => ?_
      simp
    rw [hid]
  | cons a l ih =>
    rw [List.zipIdx_cons, List.foldl_cons, ih]
    dsimp only
    have hlist : ((s.setLine i (g a (s.lineAt i))).lines.line.mapIdx fun k x =>
        if i + 1 ≤ k then (l[k - (i + 1)]?.map fun b => g b x).getD x else x)
        = s.lines.line.mapIdx fun k x => if i ≤ k then ((a :: l)[k - i]?.map fun b => g b x).getD x else x := by
      refine List.ext_getElem (by simp) fun n h1 h2 => ?_
      have hn : n < s.lines.line.length := by simpa using h2
      rw [List.getElem_mapIdx, List.getElem_mapIdx]
      rcases Nat.lt_trichotomy n i with hlt | rfl | hgt
      · rw [if_neg (by omega), if_neg (by omega)]
        exact List.getElem_set_ne (by omega) _
      · rw [if_neg (by omega), if_pos le_rfl, Nat.sub_self, ← lineAt_eq_getElem hn]
        exact List.getElem_set_self _
      · have hsub : n - i = (n - (i + 1)) + 1 := by omega
        have hset : (s.setLine i (g a (s.lineAt i))).lines.line[n]'(by simpa using hn) = s.lines.line[n] :=
          List.getElem_set_ne (by omega) _
        rw [if_pos (by omega), if_pos (by omega), hset, hsub, List.getElem?_cons_succ]
    rw [hlist]
    rfl

/-- R111: the output levels of lines that all carry GENERAL_OUT. -/
theorem writeOutputs_levels {q : Req} (hc : q.data.length = q.count) (s : State) :
    (q.data.zipIdx q.index).foldl (fun s x => s.setLine x.2 { s.lineAt x.2 with generalOut := isOne x.1 }) s
      = s.setLines { s.lines with line := s.lines.line.mapIdx fun k x =>
          if q.index ≤ k ∧ k < q.index + q.count then
            { x with generalOut := decide (q.data.getD (k - q.index) 0 = 1) } else x } := by
  refine (foldl_setLine (fun b x => { x with generalOut := isOne b }) q.index q.data s).trans ?_
  have hlist : (fun k x => if q.index ≤ k then
        (q.data[k - q.index]?.map fun a => { x with generalOut := isOne a }).getD x else x)
      = fun k (x : LineRecord) => if q.index ≤ k ∧ k < q.index + q.count then
            { x with generalOut := decide (q.data.getD (k - q.index) 0 = 1) } else x := by
    funext k x
    by_cases hk : q.index ≤ k
    · by_cases hlt : k < q.index + q.count
      · have hget : q.data[k - q.index]? = some (q.data.getD (k - q.index) 0) := by
          rw [List.getD_eq_getElem _ _ (by omega), List.getElem?_eq_getElem]
        rw [if_pos hk, if_pos ⟨hk, hlt⟩, hget]
        rfl
      · rw [if_pos hk, if_neg fun h => hlt h.2, List.getElem?_eq_none (by omega)]
        rfl
    · rw [if_neg hk, if_neg fun h => hk h.1]
  rw [hlist]

/-! ### The write of the table, as the request carries it out (R105) -/

section Table

variable {v : Via} {q : Req} {s : State}

/-- R105: what the refusal of a table, and its acceptance, come to. -/
theorem writeLines_of_judged (hj : s.judges v .write q) (ha : s.admits v .lines q) :
    let u := s.whenTaken v .write q
    let read := (triples q.data).mapM fun x => lineEntryOf x.1 x.2.1 x.2.2
    (read = none → exec (.writeLines v q) s = .next (u.replied v .write q .invalid []))
    ∧ ∀ l, read = some l → (¬(s.functionsAfter q.index l).Nodup →
        exec (.writeLines v q) s = .next (u.replied v .write q .invalid []))
      ∧ ((s.functionsAfter q.index l).Nodup → exec (.writeLines v q) s = .next
        ((applyLines q.index l u).replied v .write q
          (if ∃ x ∈ triples q.data, 250 < x.2.2.toNat then .okClamped else .ok) [])) := by
  intro u read
  have hx : exec (.writeLines v q) s = .next (writeRequest v q s) :=
    congrArg Host.Outcome.next (writeRequest_of_object ha.1 v s)
  have hval : writeValues .lines q u = match read with
      | some l => if (u.functionsAfter q.index l).Nodup then
          (applyLines q.index l u, stored ((triples q.data).any fun x => decide (250 < x.2.2.toNat)))
        else (u, .invalid)
      | none => (u, .invalid) := rfl
  have hfun : ∀ l, u.functionsAfter q.index l = s.functionsAfter q.index l := fun l => by
    unfold State.functionsAfter
    rw [show u.lines = s.lines from whenTaken_lines ..]
  have hclamped : stored ((triples q.data).any fun x => decide (250 < x.2.2.toNat))
      = if ∃ x ∈ triples q.data, 250 < x.2.2.toNat then .okClamped else .ok := by
    rw [← stored_eq]
    congr 1
    rw [Bool.eq_iff_iff]
    simp
  rw [hx]
  refine ⟨fun hnone => ?_, fun l hl => ⟨fun hn => ?_, fun hn => ?_⟩⟩
  · refine congrArg Host.Outcome.next (writeRequest_admitted hj ha ?_)
    rw [hval, hnone]
  · refine congrArg Host.Outcome.next (writeRequest_admitted hj ha ?_)
    rw [hval, hl]
    exact if_neg (by rwa [hfun])
  · refine congrArg Host.Outcome.next (writeRequest_admitted hj ha ?_)
    rw [hval, hl, ← hclamped]
    exact if_pos (by rwa [hfun])

end Table

/-- R105: the functions a write moves are those it takes off lines and those it puts on them. -/
theorem moved_iff {i : Nat} {l : List LineEntry} {s : State} (hl : l.length ≤ 16) (f : LineFunction) :
    (∃ k < 16, ∃ e, l[k]? = some e
      ∧ ((s.lineAt (i + k)).entry.function ≠ e.function ∨ (s.lineAt (i + k)).entry.polarity ≠ e.polarity)
      ∧ (e.function = f ∨ (s.lineAt (i + k)).entry.function = f))
    ↔ f ∈ s.removedFunctions i l ∨ f ∈ s.addedFunctions i l := by
  simp only [mem_removedFunctions, mem_addedFunctions, replacedBy_iff]
  constructor
  · rintro ⟨k, -, e, he, hrep, hf | hf⟩
    · exact .inr ⟨i + k, e, Nat.le_add_right .., by rwa [Nat.add_sub_cancel_left], hrep, hf⟩
    · exact .inl ⟨i + k, e, Nat.le_add_right .., by rwa [Nat.add_sub_cancel_left], hrep, hf⟩
  · have hback : ∀ n e, i ≤ n → l[n - i]? = some e → n - i < 16 ∧ i + (n - i) = n := fun n e hn he => by
      have := (List.getElem?_eq_some_iff.mp he).1
      omega
    rintro (⟨n, e, hn, he, hrep, hf⟩ | ⟨n, e, hn, he, hrep, hf⟩)
    · obtain ⟨hlt, hsum⟩ := hback n e hn he
      exact ⟨n - i, hlt, e, he, by rwa [hsum], .inr (by rwa [hsum])⟩
    · obtain ⟨hlt, hsum⟩ := hback n e hn he
      exact ⟨n - i, hlt, e, he, by rwa [hsum], .inl hf⟩

/-- Settles O52: the table by its removals and additions and the owners told, the outputs line by line. -/
theorem lineObjectsWritten : Obligations.LineObjectsWritten := by
  refine ⟨fun v q s hj ha => ?_, fun v q s hj ha => ?_⟩
  · intro u inputs outputs function entry refused old
    have hentry : (fun x : Byte × Byte × Byte => lineEntryOf x.1 x.2.1 x.2.2) = entry :=
      funext fun x => lineEntryOf_eq ..
    obtain ⟨hnone, hsome⟩ := writeLines_of_judged hj ha
    rw [hentry] at hnone hsome
    refine ⟨hnone, fun new hnew => ?_⟩
    obtain ⟨hdup, hok⟩ := hsome new hnew
    intro whole single moved line
    refine ⟨hdup, fun hn hs hp => ⟨_, hok hn, ?_⟩⟩
    have hlocal : accessOf v = .ownTap := by
      have hw := ha.2.1
      simp only [Object.writer, Option.some.injEq] at hw
      exact hw.symm
    have hlines : u.lines = s.lines := whenTaken_lines ..
    have hside : ∀ d, u.side d = s.side d := fun d => by
      rw [State.side, show u.door = s.door from whenTaken_door ..]
      rfl
    have hsafe : u.LinesSafe := linesSafe_of_lines hlines hs
    have hproofs : u.ProofSafe :=
      proofSafe_of (s := s) (fun d => by rw [hside]) (fun d => lineProof_of_lines hlines d) hp
    obtain ⟨-, hsize, -⟩ := shapeOk_iff ha.2.2.2.1
    have hrange : q.index + q.count ≤ 16 := ((indexOk_iff s .lines q.index q.count).mp ha.2.2.2.2).2
    obtain ⟨hnewlen, hnewmem⟩ := mapM_some hnew
    have hlen : new.length = q.count := by
      rw [hnewlen, length_triples, hsize]
      exact Nat.mul_div_cancel _ (by decide)
    have hfit : q.index + new.length ≤ u.lines.line.length := by rw [hsafe.1, hlen]; exact hrange
    have hdebounce : ∀ e ∈ new, e.debounce ≤ 250 := fun e he => by
      obtain ⟨x, -, hxe⟩ := hnewmem e he
      rw [← hentry] at hxe
      exact lineEntryOf_debounce hxe
    have hnodup : (u.functionsAfter q.index new).Nodup := by
      unfold State.functionsAfter
      rw [hlines]
      exact hn
    have hmoved : ∀ f, moved f ↔ f ∈ u.removedFunctions q.index new ∨ f ∈ u.addedFunctions q.index new := fun f => by
      have hline : ∀ n, u.lineAt n = s.lineAt n := fun n => by rw [State.lineAt, hlines]; rfl
      rw [← moved_iff (s := u) (by omega) f]
      simp only [hline, moved]
    obtain ⟨htold, hrole, hkept, hproof⟩ := applyLines_told hfit hdebounce hnodup hsafe hproofs
    have hlegal := (proofsLegal_applyLines hfit hdebounce hnodup hsafe).2 hproofs
    have hfinal := applyLines_lines (i := q.index) (l := new) u
    generalize applyLines q.index new u = w at htold hrole hkept hproof hlegal hfinal
    generalize hst : (if ∃ x ∈ triples q.data, 250 < x.2.2.toNat then Status.okClamped else .ok) = st
    have hrs : ∀ d, (w.replied v .write q st []).side d = w.side d := fun d => by
      rw [State.side, replied_door]
      rfl
    have hrl : (w.replied v .write q st []).lines = w.lines := replied_lines ..
    have hrc : (w.replied v .write q st []).consist = w.consist := replied_consist ..
    refine ⟨?_, fun d => ⟨?_, fun hm => ?_⟩, fun hm => ?_, fun hm => ?_, ?_, ?_, ?_, ?_, ?_⟩
    · rw [hrl, hfinal, hlines]
      rfl
    · rw [hrs, lineProof_of_lines hrl]
      exact hlegal d
    · rw [hmoved, not_or] at hm
      rw [hrs, hproof d hm.1 hm.2, hside]
    · rw [hrc]
      exact hrole ((hmoved _).mp hm)
    · rw [hmoved, not_or] at hm
      obtain ⟨hc, hd⟩ := hkept hm.1 hm.2
      have hud : u.door = s.door := whenTaken_door ..
      rw [hrc, hc, replied_door, hd, hud]
      exact ⟨whenTaken_consist .., rfl⟩
    · rw [replied_heat]
      exact htold.stage.trans_eq (congrArg (fun h => h.applied) (whenTaken_heat ..))
    · rw [replied_ports, htold.ports]
      exact whenTaken_ports _ _ _ hlocal
    · rw [replied_bypass, htold.bypass]
      exact whenTaken_bypass ..
    · rw [replied_mgmt, htold.mgmt]
      exact whenTaken_mgmt ..
    · intro r
      exact replied_of_same .write q st [] hlocal (s := u.setConsist (w.replied v .write q st []).consist) (t := w)
        htold.relay htold.faults htold.timebase (by rw [State.setConsist_consist, hrc])
        (by rw [State.setConsist_consist, hrc])
  · intro u fit
    have hx : exec (.writeGeneralOut v q) s = .next (writeRequest v q s) :=
      congrArg Host.Outcome.next (writeRequest_of_object ha.1 v s)
    obtain ⟨-, hlen, -⟩ := shapeOk_iff ha.2.2.2.1
    have hcount : q.data.length = q.count := by simpa [Object.size] using hlen
    have hlines : u.lines = s.lines := whenTaken_lines ..
    have hfit : (allFlags q.data && ((List.range q.count).all fun k =>
        (u.lineAt (q.index + k)).entry.function == .generalOut)) = true ↔ fit := by
      have hline : ∀ n, u.lineAt n = s.lineAt n := fun n => by rw [State.lineAt, hlines]; rfl
      simp only [Bool.and_eq_true, allFlags_iff, List.all_eq_true, List.mem_range, beq_iff_eq, hline, fit]
    rw [hx]
    refine ⟨fun h => ?_, fun h => ?_⟩
    · refine congrArg Host.Outcome.next (writeRequest_admitted hj ha ((if_pos (hfit.mpr h)).trans ?_))
      rw [writeOutputs_levels hcount, hlines]
    · exact congrArg Host.Outcome.next (writeRequest_admitted hj ha (if_neg (mt hfit.mp h)))

end Sys2Proof.Machine
end
